-- ==== Sys2Proof/Word.lean ====
section
/-! DEFINITION. The word types of the U9664: bytes, 32-bit store words, and the two sparse containers (a table of numbered
units and a byte memory) that the state is built from. -/

namespace Sys2Proof

/-- One byte of a store, of a bank or of a DOMAIN object. -/
abbrev Byte := BitVec 8

/-- One 32-bit word of the scratchpad, of segment content or of a step entry (R7). -/
abbrev Word := BitVec 32

/-- A table of numbered units of one kind: the units that differ from their reset value, by rising number. (DESIGN CHOICE, log 4.) -/
abbrev Tbl (α : Type) := List (Nat × α)

/-- A byte memory: (address, byte) pairs by rising address, the bytes that differ from what an unlisted address reads. (DESIGN CHOICE, log 4.) -/
abbrev Mem := List (Nat × Byte)

end Sys2Proof
end

