-- ==== Sys2Proof/Config.lean ====
section
/-! DEFINITION. What one unit, part or image fixes, and the free values: what the spec leaves open (opaque constants, no body). -/

namespace Sys2Proof.Config

/-- Symbol k of 0x1000:06 `SERIAL` of this unit among the ten digits and the 26 upper-case letters (Table 0-3, "Per unit"). (DESIGN CHOICE,
log 54.) -/
opaque serialSymbol : Nat → Fin 36

/-- Character k of `SERIAL`: a digit or an upper-case letter (Table 0-3). -/
def serialChar (k : Nat) : Byte :=
  let x := (serialSymbol k).val
  BitVec.ofNat 8 (if x < 10 then 48 + x else 55 + x)

/-- `SERIAL`: 12 characters. -/
def serial : List Byte := (List.range 12).map serialChar

/-- Minor [23:16] and build [15:0] of 0x1000:07 `FW_VERSION` of the n-th image that the module has held (Table 0-3, "Per image"). (DESIGN CHOICE,
log 54.) -/
opaque imageBuild : Nat → BitVec 24

/-- Minor and build of the boot ROM's version (Table 0-3). (DESIGN CHOICE, log 54.) -/
opaque romBuild : BitVec 24

/-- `FW_VERSION` of the n-th image: this manual covers the images of major version 3 (00_scope.md). (DESIGN CHOICE, log 54.) -/
def fwVersion (image : Nat) : Nat := 0x03000000 + (imageBuild image).toNat

/-- `FW_VERSION` in mooring mode, where the boot ROM runs: major 0x00 (Table 0-3). -/
def romVersion : Nat := romBuild.toNat

/-- `MAC_ADDR` of each port (Table 13-12, "Per unit"). (DESIGN CHOICE, log 54.) -/
opaque macAddr : Nat → Nat

/-- `MCLK_KHZ`, MCLK measured against ECLK (Table 10-9, "Per unit"). (DESIGN CHOICE, log 54.) -/
opaque mclkKhz : Nat

/-- Coefficient h[φ][j] of `RESAMPLER_TAPS` for 0 < φ < 1,024, a 25-bit signed value (R121, Table 4-6, "Per part"; R121 fixes the others).
(DESIGN CHOICE, log 54.) -/
opaque resamplerTap : Nat → Nat → BitVec 25

/-- Coefficient b_i of `HALFBAND_TAPS` for i ≠ 23, read as an I32 (Table 4-6, "Per part"; R122 fixes b_23). (DESIGN CHOICE, log 54.) -/
opaque halfbandTap : Nat → BitVec 32

/-- What the sample store held at a byte address that no accepted write has covered (R52: unspecified). (DEDUCED, log 52.) -/
opaque storeByte : Nat → Byte

/-- The n-th word of undefined data (R407, R417): what a collided or borrowed Berth read drives on BD. (DEDUCED, log 37.) -/
opaque undefinedWord : Nat → Word

/-- Words W8 to W135 of the freeze record of a channel's n-th freeze: the command trace, which DRAM timing makes (Table 14-5). -/
opaque freezeTrace : Nat → Nat → Nat → Nat

/-- The n-th DEVICE_NONCE of the hardware entropy source (Table 13-5). -/
opaque deviceNonce : Nat → Nat

/-- A bit of the n-th draw of the controller's random source: does this activate refresh its neighbours (R377)? -/
opaque neighbourDraw : Nat → Bool

/-- The factory coefficients (K, OC) of a channel and of a mode and range (R440: the factory record, "Per unit"). (DESIGN CHOICE, log 54.) -/
opaque factoryK : Nat → Nat → Nat

/-- The factory OC of a channel and of a mode and range (R440). (DESIGN CHOICE, log 54.) -/
opaque factoryOC : Nat → Nat → Int

/-- Does the factory record of a channel pass its CHECK (R441)? (DESIGN CHOICE, log 54.) -/
opaque factoryGood : Nat → Bool

/-- The factory record's element trims, threshold offsets and sense gain corrections of a channel, by position (Table 16-3).
(DESIGN CHOICE, log 54.) -/
opaque factoryTrim : Nat → Nat → Int
opaque factoryThOffset : Nat → Nat → Int
opaque factorySenseCorr : Nat → Nat → Int

/-- The factory record's monitor offset and gain, TEMP and TIME of a channel. (DESIGN CHOICE, log 54.) -/
opaque factoryMonOffset : Nat → Int
opaque factoryMonGain : Nat → Int
opaque factoryTemp : Nat → Int
opaque factoryTime : Nat → Nat

/-- CAUSE of a FATAL fault, by its case in R460: 0 control data lost, 1 management recovery, 2 loop lock, 3 thermal (no rule gives the
numbers). (DESIGN CHOICE, log 31.) -/
opaque fatalCause : Nat → Nat

/-- The n-th ring commit id that the coordinator draws (R306 gives no rule for it). (DEDUCED, log 30.) -/
opaque ringCommitId : Nat → Nat

/-- The ns that MCLK measures while ECLK counts these edges in holdover (R286, Table 10-9; MCLK is within ±3 %). (DESIGN CHOICE, log 20.) -/
opaque holdoverTime : Nat → Nat

/-- Byte k of the message channel of a cell that the module sends in a window (Table 11-1): the spec lays its segments out nowhere.
(DESIGN CHOICE, log 60.) -/
opaque messageByte : Nat → Nat → Byte

/-- Byte k of the key that K0 holds from the factory (R350, "supplied with each unit"). (DESIGN CHOICE, log 54.) -/
opaque keyByte : Nat → Byte

/-- K0's commissioning key: 32 bytes (R350). -/
def commissioningKey : List Byte := (List.range 32).map keyByte

/-- The n-th trim of the time counter's rate word by the PTP servo, which the spec bounds and does not state (R282). (DESIGN CHOICE, log 20.) -/
opaque servoTrim : Nat → Int

/-- Is the trip latch of line p, set by a comparator that is seen asserted from edge N on, sampled at N + 2 rather than N + 1 (Table 1-5
and Table 10-3 give bounds)? (DEDUCED, log 16.) -/
opaque tripLate : Nat → Nat → Bool

end Sys2Proof.Config
end

