-- ==== Sys2Proof/Syntax.lean ====
section
/-! DEFINITION. The commands of the U9664 block: one constructor for each row of spec/opcode_table.json, in the table's order.
Every command carries `t`, the ECLK edge N (R271) at which the step happens; the other operands are what arrives with it. -/

namespace Sys2Proof

/-- What every Skeim REQUEST carries beside its operation (Tables 13-1 and 13-3). -/
structure Req where
  /-- SESSION, 1 to 8. -/
  sess : Nat
  /-- SEQ, the request number (R349). -/
  seq : Nat
  /-- The port on which the frame arrives. -/
  port : Fin 2
  /-- Does the frame's MAC equal the HMAC of R346? -/
  macOk : Bool
  /-- VIEW_EN and VIEW: the view that the request names (R336, R337). -/
  view : Option (Fin 4)
  /-- STAGED: the request asks for the staged copy (R321). -/
  staged : Bool
  deriving DecidableEq, Repr

/-- How a read burst of a DRAM channel ends (R369, R370). -/
inductive ReadEnd where
  /-- Good data. -/
  | clean
  /-- One symbol corrected by inline ECC. -/
  | correctedInline
  /-- A link error corrected by link ECC. -/
  | correctedLink
  /-- An uncorrectable inline ECC error. -/
  | badInline
  /-- An uncorrectable link ECC error. -/
  | badLink
  deriving DecidableEq, Repr

/-- Where a DRAM access lands (Table 14-5). -/
structure DramAddr where
  bank : Nat
  row : Nat
  col : Nat
  /-- Store byte address of the block; control channels: control store offset. -/
  addr : Nat
  /-- Stored check bits XOR recomputed check bits. -/
  syndrome : Nat
  deriving DecidableEq, Repr

/-- What the four lanes and the exchange of positions report once every link of the ring is trained (R291, R292, R299, R300). The
converter's unit is a tap, 39.0625 ps. -/
structure RingFacts where
  /-- The positions around the ring eastward, the module's own first. -/
  positions : List Nat
  /-- Round trip of the module's own marker on the east and west link, in taps. -/
  eastTrip : Nat
  westTrip : Nat
  /-- How far the module's edge N lies after that of the timing master, in taps, along the shorter path. -/
  offset : Int
  /-- Does the timing master read `SYNC_SOURCE` 1? -/
  masterSync : Bool
  /-- The module's own edge that the timing master's edge N = 0 falls on, by the epoch marker, counted as the operand `t` is: for a master
  without SYNC, or a member that does not see SYNC (R300). -/
  marker : Option Nat
  deriving DecidableEq, Repr

/-- What discovery finds (R292). -/
inductive Discovery where
  /-- No lane trains: the module has no neighbour. -/
  | alone
  /-- Lanes train or wait, and no ring has been formed. -/
  | unformed
  /-- Every link is trained. -/
  | found (f : RingFacts)
  deriving DecidableEq, Repr

/-- What a module that joins a running ring finds (R303). A link without a round trip is not up. -/
structure JoinFacts where
  /-- M of the running ring, and its aligned positions. -/
  size : Nat
  members : Nat
  masterSync : Bool
  eastTrip : Option Nat
  westTrip : Option Nat
  deriving DecidableEq, Repr

/-- What a module measures at an epoch edge (R301), and which other positions are present and aligned (Table 11-8). -/
structure AlignFacts where
  offsetPs : Int
  members : Nat
  deriving DecidableEq, Repr

/-- The lane that is lost on a module's east or west link (R311): one of the module's own, or, as the ring's messages tell it, the last lane of
that link of another position. -/
inductive LaneSite where
  | own (lane : Fin 2)
  | away (pos : Nat)
  deriving DecidableEq, Repr

/-- A PTP message (R344, R282). -/
inductive PtpMessage where
  /-- An Announce message of a domain: a master is there. -/
  | announce (domain : Nat)
  /-- A delay request-response exchange, of a one-step or two-step master: it sent at `t1`, the port's timestamps read `t2` and `t3`, and it
  received at `t4`, in ns. -/
  | exchange (domain : Nat) (twoStep : Bool) (t1 t2 t3 t4 : Int)
  deriving DecidableEq, Repr

/-- What an OPEN asks for (Table 13-1, R351): ROLE and HOST_NONCE. -/
structure OpenAsk where
  role : Nat
  hostNonce : Nat
  deriving DecidableEq, Repr

/-- The Ethernet and IP source of a frame (R342). -/
structure Source where
  mac : Nat
  ip : Nat
  udp : Nat
  deriving DecidableEq, Repr

/-- The network layer of a frame that arrives (R342). -/
structure NetFrame where
  /-- The port on which it arrives. -/
  port : Fin 2
  src : Source
  /-- IEEE 802.1Q tags. -/
  tags : Nat
  /-- The packet is a fragment. -/
  fragment : Bool
  deriving DecidableEq, Repr

/-- Operations 1 and 2 of a REQUEST (Table 13-3): the access to an object at OFFSET. -/
inductive Access where
  /-- READ; `count`: bytes of a DOMAIN object. -/
  | read (count : Nat)
  /-- WRITE of DATA. -/
  | write (data : List Byte)
  /-- A reserved OP, or DATA of a length that does not fit the OP (Table 13-11). -/
  | malformed
  deriving DecidableEq, Repr

/-- What a DRAM command does (Table 14-3). -/
inductive DramOp where
  /-- A refresh or neighbour refresh of the bank. -/
  | refresh
  /-- A sample or pattern read for engine `e`, or for the pulse generator of that engine's channel. -/
  | engineRead (e : Nat)
  /-- A step cache or control read. -/
  | controlRead
  /-- A pilot refill, verification, scrub, resilver or replay read. -/
  | workRead
  | write
  deriving DecidableEq, Repr

/-- A command that waits at a DRAM controller. -/
structure DramCmd where
  op : DramOp
  bank : Nat
  row : Nat
  /-- Bytes that it moves. -/
  bytes : Nat
  deriving DecidableEq, Repr

/-- What an access at port A of a scratchpad bank does (R407, R410). -/
inductive PortOp where
  | read
  | write (v : Nat)
  | add32 (v : Nat)
  | add64 (v : Nat)
  | swap32 (v : Nat)
  | swap64 (v : Nat)
  deriving DecidableEq, Repr

/-- An access that waits at port A of a bank (R409). -/
structure PortA where
  /-- The issuing unit's master code (Table 15-1); the march engine's test operations have `march` false. -/
  master : Nat
  /-- A march save or restore. -/
  march : Bool
  word : Nat
  op : PortOp
  deriving DecidableEq, Repr

/-- What a tick of a quay finds: a bit for each engine of the quay whose step entry is not present at the transition that the tick begins (R74),
and the detectors asserted at each channel, four bits a channel. -/
structure TickFacts where
  late : Nat
  det : Nat
  deriving DecidableEq, Repr

/-- One cross-device event record of a Hawser cell (Table 11-1). -/
structure HwRecord where
  xline : Nat
  /-- N mod 16 of the registering edge. -/
  offset : Nat
  src : Nat
  deriving DecidableEq, Repr

/-- What a member of a ring commit reports in READY (R306, R308). -/
structure ReadyReport where
  pos : Nat
  /-- The reach matrix: (x, y) pairs whose bit is set. -/
  reach : List (Nat × Nat)
  /-- X lines whose outbound input is enabled on the member after the commit. -/
  drives : List Nat
  /-- `RING_EQUALISE` of the member after the commit, and whether the commit changes it (R314). -/
  equalise : Bool
  changesEqualise : Bool
  /-- Slowest grid period of the member's quays, ECLK (R331). -/
  slowest : Nat
  /-- Is the member ALIGNED and not in holdover (0x0493)? -/
  aligned : Bool
  deriving DecidableEq, Repr

/-- The results of the last 20 ms of a calibration pass (Table 16-1): K and OC of the five modes and ranges, threshold offsets,
sense gain corrections, monitor offset and gain. -/
structure CalResult where
  k : List Nat
  oc : List Int
  thOffset : List Int
  senseCorr : List Int
  monOffset : Int
  monGain : Int
  deriving DecidableEq, Repr

/-- The commands. Operands that their names do not explain: `hi`, bits [31:8] of `ENGINE_CMD`; `tripAt`, the edge at which a transition trips the
lines (R193); `det`, the detectors asserted at the edge; `words`, words that a DRAM read brings an engine; `arrived`, the commands that
have reached the controller since its latest read ended; `portA`, what waits at port A of the bank; `busy`, edges of the window at which
port A served others; `sampled`, the sampling edge of BWEn (R420); `link`, the link that leads east from that position; `macOk` of an
OPEN, that its MAC is all zeros; `dramClk`, that the DRAM clock's crystal loop has locked; `ns`, `us` and `mv`, durations and
millivolts measured outside the model. (DESIGN CHOICE, log 53.) -/
inductive Instr where
  | pornRelease (t : Nat) (devpos : Fin 8) (bootsel : Bool) (localMemOk : Bool) (vioDropped : Bool)
  | pornAssert (t : Nat) (ns : Nat)
  | eclkLock (t : Nat) (dramClk : Bool) (badRows : List (Nat × Nat)) (badDram : List Nat)
  | dictionaryReady (t : Nat) (us : Nat)
  | engineCmdArm (t : Nat) (r : Req) (e : Fin 64) (hi : Nat)
  | engineCmdStart (t : Nat) (r : Req) (e : Fin 64) (hi : Nat)
  | engineCmdAbort (t : Nat) (r : Req) (e : Fin 64) (hi : Nat)
  | engineCmdResume (t : Nat) (r : Req) (e : Fin 64) (hi : Nat)
  | engineCmdDisarm (t : Nat) (r : Req) (e : Fin 64) (hi : Nat)
  | engineCmdReset (t : Nat) (r : Req) (e : Fin 64) (hi : Nat)
  | engineCmdAction (t : Nat) (e : Fin 64)
  | taskInputEvent (t : Nat) (e : Fin 64) (k : Fin 8)
  | immediateJump (t : Nat) (e : Fin 64)
  | startByEvent (t : Nat) (e : Fin 64)
  | waitSelRelease (t : Nat) (e : Fin 64)
  | holdIn (t : Nat) (e : Fin 64)
  | holdTakesEffect (t : Nat) (e : Fin 64)
  | release (t : Nat) (e : Fin 64)
  | releaseDeadTime (t : Nat) (e : Fin 64)
  | abortInput (t : Nat) (e : Fin 64)
  | abortTakesEffect (t : Nat) (e : Fin 64)
  | rateStep (t : Nat) (e : Fin 64)
  | rateStepApplication (t : Nat) (e : Fin 64)
  | decisionPoint (t : Nat) (e : Fin 64)
  | codeFormation (t : Nat) (e : Fin 64)
  | underrun (t : Nat) (e : Fin 64)
  | outputTick (t : Nat) (q : Fin 8) (f : TickFacts)
  | lateEntryArrival (t : Nat) (e : Fin 64)
  | liveIndexRead (t : Nat) (e : Fin 64)
  | dramReadComplete (t : Nat) (m : Fin 6) (res : ReadEnd) (a : DramAddr) (e : Option (Fin 64)) (words : Nat) (arrived : List DramCmd)
  | engineFaultDetected (t : Nat) (e : Fin 64) (check : Fin 3) (block : Nat)
  | takeoverResume (t : Nat) (e : Fin 64)
  | checkpoint (t : Nat)
  | checkpointConfirmed (t : Nat)
  | carrierPeriodStart (t : Nat) (p : Fin 256) (tap : Nat)
  | carrierTarget (t : Nat) (p : Fin 256) (tap : Nat) (rise : Bool)
  | followEdge (t : Nat) (p : Fin 256) (tap : Nat)
  | fire (t : Nat) (p : Fin 256)
  | patternStart (t : Nat) (p : Fin 256)
  | patternBit (t : Nat) (p : Fin 256) (tap : Nat)
  | oneshotRise (t : Nat) (p : Fin 256) (tap : Nat)
  | oneshotFall (t : Nat) (p : Fin 256) (tap : Nat)
  | comparatorTransition (t : Nat) (j : Fin 256) (asserted : Bool) (tripAt : Nat)
  | tripClear (t : Nat) (r : Req) (p : Fin 256) (v : Nat)
  | blankingEnd (t : Nat) (c : Fin 64)
  | enableSequenceStep (t : Nat) (c : Fin 64)
  | softParkStep (t : Nat) (c : Fin 64)
  | rangeChangeStep (t : Nat) (c : Fin 64)
  | supervisionFlag (t : Nat) (c : Fin 64) (f : Fin 3)
  | supClear (t : Nat) (r : Req) (c : Fin 64) (v : Nat)
  | outRestart (t : Nat) (r : Req) (c : Fin 64) (v : Nat) (det : Nat)
  | outRestartAction (t : Nat) (c : Fin 64) (det : Nat)
  | monitorSlot (t : Nat) (c : Fin 64) (sample : Int)
  | monitorResult (t : Nat) (c : Fin 64)
  | armEdge (t : Nat) (c : Fin 64) (i : Fin 2)
  | thCheckPeriodic (t : Nat)
  | thCheckReq (t : Nat) (r : Req) (c : Fin 64) (v : Nat)
  | cmpClearLatch (t : Nat) (r : Req) (j : Fin 256)
  | cmpClearInBand (t : Nat) (r : Req) (j : Fin 256)
  | cmpClearForce (t : Nat) (r : Req) (j : Fin 256)
  | trigInputTransition (t : Nat) (k : Fin 32) (level : Bool)
  | trigOutputEvent (t : Nat) (k : Fin 32)
  | trigPulseEnd (t : Nat) (k : Fin 32)
  | timerFire (t : Nat) (k : Fin 64)
  | tmrStart (t : Nat) (k : Fin 64)
  | tmrHalt (t : Nat) (k : Fin 64)
  | swEvent (t : Nat) (r : Req) (v : Nat)
  | swEventAssert (t : Nat)
  | hawserOutboundEvent (t : Nat) (x : Fin 64)
  | hawserInboundEvent (t : Nat) (x : Fin 64)
  | hawserCellSend (t : Nat)
  | hawserCell (t : Nat) (west : Bool) (lane : Fin 2) (start : Byte) (body : List Byte) (crc : Nat)
  | hawserLaneLost (t : Nat) (west : Bool) (lane : LaneSite)
  | ringDiscovery (t : Nat) (d : Discovery)
  | ringJoin (t : Nat) (n : Nat) (master : Nat) (f : JoinFacts)
  | alignTracking (t : Nat) (f : AlignFacts)
  | newTimingMaster (t : Nat) (reachable : Nat)
  | syncEdge (t : Nat)
  | syncMiss (t : Nat)
  | syncRealign (t : Nat) (r : Option Req) (v : Nat) (blocked : Option (Nat × Nat))
  | refclkLoss (t : Nat)
  | refclkReturn (t : Nat) (ns : Nat)
  | refclkRelocked (t : Nat)
  | ptpMessage (t : Nat) (port : Fin 2) (msg : PtpMessage)
  | registerWrite (t : Nat) (r : Req) (index : Nat) (sub : Nat) (offset : Nat) (a : Access)
  | commitReq (t : Nat) (r : Req) (v : Nat)
  | commitCheckDone (t : Nat)
  | pilotRefillDone (t : Nat) (e : Fin 64) (target : Fin 16)
  | commitTick (t : Nat)
  | stageDiscard (t : Nat) (r : Req) (v : Nat)
  | ringCommitRequest (t : Nat) (r : Req) (v : Nat)
  | prepare (t : Nat) (id : Nat) (whenSel : Nat) (at_ : Nat)
  | ready (t : Nat) (id : Nat) (rep : ReadyReport)
  | failReply (t : Nat) (id : Nat) (pos : Nat) (code : Nat)
  | apply (t : Nat) (id : Nat) (tick : Nat)
  | discard (t : Nat) (id : Nat) (code : Nat)
  | ringCommitTimeout (t : Nat)
  | viewOpen (t : Nat) (r : Req) (v : Nat)
  | viewClose (t : Nat) (r : Req) (v : Nat)
  | viewTimeout (t : Nat) (sess : Nat) (view : Fin 4)
  | segDefine (t : Nat) (r : Req) (offset : Nat) (data : List Byte)
  | segDelete (t : Nat) (r : Req) (n : Nat)
  | segVerify (t : Nat) (r : Req) (n : Nat)
  | segmentVerified (t : Nat) (unreadable : Option Nat)
  | open_ (t : Nat) (port : Fin 2) (macOk : Bool) (keySlot : Nat) (ask : OpenAsk)
  | confirm (t : Nat) (port : Fin 2) (sess : Nat) (macOk : Bool)
  | keepalive (t : Nat) (port : Fin 2) (sess : Nat) (macOk : Bool)
  | close (t : Nat) (port : Fin 2) (sess : Nat) (macOk : Bool)
  | sessionTimeout (t : Nat) (sess : Nat)
  | ack (t : Nat) (port : Fin 2) (sess : Nat) (macOk : Bool) (acked : Nat)
  | noticeRetransmit (t : Nat) (sess : Nat) (seq : Nat)
  | cargoOpenWrite (t : Nat) (r : Req) (index : Nat) (sub : Nat) (offset : Nat) (total : Nat) (segSize : Nat)
  | cargoOpenRead (t : Nat) (r : Req) (index : Nat) (sub : Nat) (offset : Nat) (total : Nat) (segSize : Nat)
  | cargoClose (t : Nat) (r : Req) (transfer : Nat) (crc : Nat) (imageOk : Bool)
  | cargoData (t : Nat) (port : Fin 2) (sess : Nat) (macOk : Bool) (transfer : Nat) (position : Nat) (crc : Nat) (data : List Byte)
  | cargoAck (t : Nat) (port : Fin 2) (sess : Nat) (macOk : Bool) (transfer : Nat) (acked : Nat) (window : Nat) (abort : Nat)
  | cargoResend (t : Nat) (sess : Nat) (transfer : Nat)
  | cargoIdleTimeout (t : Nat) (sess : Nat) (transfer : Nat)
  | portLoss (t : Nat) (p : Fin 2)
  | portReturn (t : Nat) (p : Fin 2) (speed25 : Bool) (rsFec : Bool)
  | addressResolution (t : Nat) (f : NetFrame)
  | echoRequest (t : Nat) (f : NetFrame)
  | keySlotWrite (t : Nat) (r : Req) (k : Fin 4) (offset : Nat) (data : List Byte)
  | keyRightsWrite (t : Nat) (r : Req) (v : Nat)
  | dramFreeze (t : Nat) (m : Fin 6) (cause : Nat) (a : DramAddr)
  | dchRelease (t : Nat) (r : Req) (m : Fin 6) (v : Nat)
  | freezeAutoRelease (t : Nat) (m : Fin 6)
  | dramReinitDone (t : Nat) (m : Fin 6) (ok : Bool)
  | resilverDone (t : Nat) (m : Fin 6) (bytes : Nat)
  | dramTrainReq (t : Nat) (r : Req) (v : Nat)
  | mr4Read (t : Nat) (m : Fin 6) (hot : Bool) (temp : Int)
  | refreshDue (t : Nat) (m : Fin 6) (bank : Nat)
  | rowCounterWindow (t : Nat) (m : Fin 6)
  | scrub (t : Nat) (m : Fin 6) (res : ReadEnd) (a : DramAddr)
  | retrainDrainDone (t : Nat) (m : Fin 6)
  | retrainSweepDone (t : Nat) (m : Fin 6) (set : Option (List Byte))
  | retrainRetestDone (t : Nat) (m : Fin 6) (pass : Bool)
  | retrainReplayDone (t : Nat) (m : Fin 6) (bytes : Nat)
  | berthRead (t : Nat) (slot : Fin 8) (word : Nat) (portA : List PortA) (flipped : List Nat)
  | berthWrite (t : Nat) (slot : Fin 8) (word : Nat) (value : Word) (portA : List PortA) (sampled : Nat)
  | berthStatusClear (t : Nat) (v : Word)
  | berthHandover (t : Nat) (v : Word)
  | handoverTakesEffect (t : Nat)
  | sendDoorbellNotice (t : Nat) (v : Word)
  | berthTimeRead (t : Nat)
  | berthDoorbell (t : Nat) (r : Req) (v : Nat)
  | marchPreserving (t : Nat) (r : Req) (v : Nat)
  | marchDestructive (t : Nat) (r : Req) (v : Nat)
  | marchWindowBorrow (t : Nat)
  | marchWindowRelease (t : Nat) (busy : Nat) (failBit : Option Nat)
  | marchDone (t : Nat) (failBit : Option Nat)
  | bankRetention (t : Nat) (b : Fin 128)
  | bankWake (t : Nat) (b : Fin 128)
  | calTempRead (t : Nat) (q : Fin 8) (temps : List Int)
  | calElementMeasured (t : Nat) (c : Fin 64) (trim : Int)
  | elementSubstitution (t : Nat) (c : Fin 64)
  | calPassEnd (t : Nat) (c : Fin 64) (res : CalResult)
  | calSwap (t : Nat)
  | calRecordWritten (t : Nat) (c : Fin 64)
  | calReq (t : Nat) (r : Req) (v : Nat)
  | mgmtMismatch (t : Nat) (journalOk : Bool)
  | mgmtRecovered (t : Nat)
  | quayLinkWatchdog (t : Nat) (q : Fin 8)
  | quayDieFault (t : Nat) (q : Fin 8) (channels : Nat)
  | fatal (t : Nat) (cause : Nat) (location : Nat)
  | replacementRequestRepeat (t : Nat)
  | faultLogClear (t : Nat) (r : Req) (v : Nat)
  | railWarning (t : Nat) (k : Fin 11) (mv : Int)
  | railRecovery (t : Nat) (k : Fin 11) (mv : Int)
  | braceClear (t : Nat)
  | supplyReset (t : Nat) (k : Fin 11)
  | analogRailReset (t : Nat) (k : Fin 11) (mv : Int)
  | analogRailRestart (t : Nat)
  | tempRead (t : Nat) (temps : List (Nat × Int))
  | restartNormal (t : Nat) (r : Req)
  | restartMooring (t : Nat) (r : Req)
  | softwareReset (t : Nat)
  | refclkWaitTimeout (t : Nat)
  | supplyResetRestart (t : Nat) (vioDropped : Bool) (localMemOk : Bool)
  | hawserLinkRejoin (t : Nat) (link : Nat) (otherMaster : Nat) (members : Nat)
  deriving DecidableEq, Repr

end Sys2Proof
end

