-- ==== Sys2Proof/Decode.lean ====
section
/-! DEFINITION. Words of commands: spec/opcode_table.json gives no row any bits (the U9664 takes commands over its Skeim link, its
Berth port and its balls), so no word spells a command. -/

namespace Sys2Proof

/-- The command that a word of `nbits` bits spells: none, since no row of the table has bits. (DESIGN CHOICE, log 51.) -/
def decodeTableWord (_nbits _w : Nat) : Option Instr := none

end Sys2Proof
end

