-- ==== Sys2Proof/Machine/State.lean ====
section
/-! DEFINITION. The state of the U9664 as plain data: every register, queue, buffer, counter, mode and ball level the spec gives the
module, and the queue of the commands that are waiting. Objects the host writes (RS, RW) live in `Dict`; read-only objects are
computed from the other fields (Machine/Read.lean). -/

namespace Sys2Proof.Machine

/-- Why the machine stops. (DEDUCED, log 19.) -/
inductive Fault where
  /-- Raised by no meaning of this model: every command that the spec describes goes on. Safe: nothing is claimed of it. -/
  | none
  deriving DecidableEq, Repr

/-- Why a command has no meaning. -/
inductive Refusal where
  /-- Raised by an arm of `exec` whose command is not modelled yet. Safe: no claim covers it. -/
  | notModelled (mnemonic : String)
  deriving DecidableEq, Repr

/-- Where the module stands between PORn and service (R480, R484, R486). -/
inductive RunPhase where
  /-- PORn is low. -/
  | porLow
  /-- Start step k of Table 18-4 is running. -/
  | starting (k : Nat)
  /-- The dictionary is ready. -/
  | ready
  /-- Mooring mode (R484). -/
  | mooring
  /-- A reset has been performed and the next start has not begun. -/
  | resetWait
  deriving DecidableEq, Repr

/-- How the operand `t` of the commands numbers the edges (R270, R271, R288). (DESIGN CHOICE, log 1, log 60.) -/
inductive Numbering where
  /-- `t` is N. -/
  | plain
  /-- `t` is N; at the epoch edge `e` of an accepted realignment N takes a new value. -/
  | realign (e : Nat)
  /-- A start from the lock of ECLK at edge `lock` on, its epoch edge not reached: the sampling edges of SYNC seen, the latest first, and the
  epoch edge where it is known. N is not yet defined, and edges count on from `lock`. -/
  | watch (lock : Nat) (edges : List Nat) (epoch : Option Nat)
  /-- A start that has its epoch edge: until the dictionary is ready `t` counts on as before it, and N is `t` + `base` - `e`. -/
  | started (lock e base : Nat)
  deriving DecidableEq, Repr

/-- Clocks, the SYNC epoch and the time counter (chapter 10). -/
structure Clock where
  /-- N of the latest step (R271). -/
  n : Nat
  numbering : Numbering
  /-- The time counter in 2^-32 ns (R282). -/
  timeAcc : Nat
  /-- Its rate word per ECLK edge, in 2^-32 ns. -/
  timeRate : Nat
  /-- `SYNC_SOURCE`. -/
  syncSource : Nat
  epochSet : Bool
  syncMissed : Bool
  syncSlips : Nat
  syncMisses : Nat
  syncOffset : Int
  /-- An accepted `SYNC_REALIGN` waits for its SYNC edge (R288). -/
  realign : Bool
  /-- The latest sampling edge of SYNC (R272). -/
  lastSync : Option Nat
  refPresent : Bool
  locked : Bool
  holdover : Bool
  relocking : Bool
  refLosses : Nat
  /-- Time in the holdovers that have ended, and the edge at which the present one began. -/
  holdoverNs : Nat
  holdFrom : Nat
  dramClkLocked : Bool
  lclkPort : Nat
  deriving DecidableEq, Repr

/-- The commit machine (chapter 12). (DESIGN CHOICE, log 28.) -/
structure Commit where
  /-- `COMMIT_STATE`. -/
  st : Nat
  result : Nat
  epoch : Nat
  tickN : Nat
  /-- N of the last applied commit tick, and the earliest edge of the checked commit (R332). -/
  appliedN : Nat
  earliest : Nat
  tickTime : Nat
  failObj : Nat
  duration : Nat
  stepCheck : Nat
  demand : Nat
  cycle : List Nat
  /-- Edge of receipt, WHEN and `COMMIT_AT` of the request under check (R332). -/
  reqAt : Nat
  reqWhen : Nat
  reqArg : Nat
  /-- Check-success edge. -/
  okAt : Nat
  /-- Pilot targets under refill: (engine, target) (R91). -/
  refills : List (Nat × Nat)
  /-- Targets for which no event is accepted: from the check's success to the end of the refill and the commit tick (R91). -/
  blocked : List (Nat × Nat)
  deriving DecidableEq, Repr

/-- The object dictionary's stored values: key = index × 256 + subindex, values as unsigned numbers of their type. -/
structure Dict where
  /-- Active copies of RS objects that differ from their default. -/
  active : Tbl Nat
  /-- Staged copies of RS objects that differ from their default. -/
  staged : Tbl Nat
  /-- Keys of the RS objects marked as changed (R323). -/
  changed : List Nat
  /-- Device-wide RW objects that differ from their default. -/
  rw : Tbl Nat
  stepsActive : Mem
  stepsStaged : Mem
  /-- Step entries marked as changed. -/
  stepChanged : List Nat
  /-- Step entries written since the start and made active by a commit (R59). -/
  stepWritten : List Nat
  commit : Commit
  deriving DecidableEq, Repr

/-- A step entry (Table 3-1), as the engine takes it. -/
structure Entry where
  segment : Nat
  endAction : Nat
  markers : Nat
  waitSel : Nat
  jumpMap : Nat
  rep : Nat
  loopSel : Nat
  loopOp : Nat
  trans : Nat
  phaseMode : Nat
  scaleEn : Bool
  next : Nat
  rateEn : Bool
  fundEn : Bool
  branch : Nat
  loopValue : Nat
  inc : Nat
  fund : Nat
  phase : Nat
  start : Nat
  scale : Int
  offset : Int
  tag : Nat
  deriving DecidableEq, Repr

/-- Engine states (Table 3-11). -/
inductive EState where
  | idle | armed | running | waiting | holding | stopped | takeover | fault
  deriving DecidableEq, Repr

/-- What the engine's next tick is. -/
inductive Phase where
  /-- The output repeats its code. -/
  | still
  /-- The first (0) or second (1) dead-time tick, or a later one that waits for a late entry (R74). -/
  | dead (k : Nat)
  /-- The first sample S of an entry. -/
  | first
  /-- A further sample of the entry. -/
  | play
  /-- The sample that was due at H, after a release (R104). -/
  | again
  deriving DecidableEq, Repr

/-- A registered jump: its Q (IMMEDIATE, R92) or its registering edge (AT_END, R95), and its target. -/
structure JumpReq where
  q : Nat
  target : Nat
  deriving DecidableEq, Repr

/-- An accepted `ENGINE_CMD` and the tick at which it acts (R102). -/
structure EngCmd where
  cmd : Nat
  step : Nat
  tick : Nat
  /-- 16 ECLK after its receipt: `tick` is the first tick on a 1 µs boundary from there. -/
  from_ : Nat
  /-- A RESUME accepted while the underrun latch was set (R161). -/
  viaLatch : Bool
  deriving DecidableEq, Repr

/-- What follows a pass (R94). -/
inductive EndWhat where
  | goOn
  | jump (target : Nat)
  | reenter
  | action (act : Nat) (next branch : Nat)
  deriving DecidableEq, Repr

/-- A decision taken at a decision point for an end tick. -/
structure Decision where
  tick : Nat
  what : EndWhat
  deriving DecidableEq, Repr

/-- Requests that an engine has registered and not yet carried out. -/
structure EngPend where
  /-- `PENDING_AT_END`. -/
  atEnd : Option JumpReq
  jump : Option JumpReq
  /-- D of a WAIT_SEL release. -/
  release : Option Nat
  /-- D of an event start. -/
  start : Option Nat
  /-- H of HOLD_IN. -/
  hold : Option Nat
  /-- Q of RELEASE. -/
  unhold : Option Nat
  /-- A of ABORT. -/
  abort : Option Nat
  /-- Q and registering edge of each RATE_STEP. -/
  rate : List (Nat × Nat)
  /-- Q of an underrun and the index of the missing word. -/
  underrun : Option (Nat × Nat)
  /-- Decisions taken whose end ticks are to come, the earliest first: at 20 MS/s the decision point of an end tick may precede the end tick
  before it (R94). -/
  decisions : List Decision
  /-- The edge of the latest registration and the request it recorded: 0 ABORT, 1 HOLD_IN, 2 RELEASE, 3 WAIT_SEL release, 4 jump (R157). -/
  fresh : Option (Nat × Nat)
  cmds : List EngCmd
  /-- A commit changed END_ACTION of the step in which the engine waits or holds: it acts at this tick (R109). -/
  again : Bool
  deriving DecidableEq, Repr

/-- The values in force and the two accumulators (chapter 4). `incPrev` and `fundPrev` are those of the latest tick. -/
structure EngVals where
  inc : Nat
  incPrev : Nat
  fund : Nat
  fundPrev : Nat
  phi : Nat
  scale : Int
  offset : Int
  rampIndex : Nat
  /-- The edge of the latest RATE_STEP application. -/
  rateAt : Option Nat
  deriving DecidableEq, Repr

/-- What plays. -/
structure EngPlay where
  step : Nat
  tag : Nat
  entry : Entry
  /-- Segment that the engine counts in PLAYING (R62). -/
  seg : Option Nat
  pass : Nat
  /-- The first sample of the entry has been played: `PASS_COUNT` wraps and does not tell (R104). -/
  begun : Bool
  /-- END_ACTION in force: that of the entry taken, then of every decision since (R94, R109). -/
  action : Nat
  x : Nat
  xPrev : Nat
  /-- Pass ends in the entry, j(t) of R151. -/
  ends : Nat
  theta : Tbl Nat
  code : Int
  /-- The code of the tick before. -/
  codePrev : Int
  /-- L and F of a bridge; no F: hold (R78). -/
  bridge : Option (Int × Int)
  /-- The entry of the step under entry is not present (R74). -/
  lateEntry : Bool
  /-- Formed 20 ECLK before it for a first dead-time tick D: D, the step entered, and F of its bridge (R78); none where a source word
  that F needs is not present. -/
  formed : Option (Nat × Nat × Option Int)
  /-- The commit tick at which another field of the playing entry changed: re-entry at the next pass end whose decision point is at
  or after it (R110). -/
  reentry : Option Nat
  /-- The edge of the latest first sample S. -/
  firstAt : Option Nat
  deriving DecidableEq, Repr

/-- Frozen copies of an underrun (R158). -/
structure UrCopy where
  step : Nat
  tag : Nat
  pass : Nat
  l0 : Nat
  l1 : Nat
  l2 : Nat
  l3 : Nat
  position : Nat
  index : Nat
  time : Nat
  deriving DecidableEq, Repr

/-- The step cache of an engine, 64 entries by step number (R72): those resident at all times, and those at most four transitions ahead of
the current step. -/
structure StepCache where
  resident : List Nat
  ahead : List Nat
  deriving DecidableEq, Repr

/-- Sources, fills and underrun of an engine (chapter 5). -/
structure EngSrc where
  /-- E0 of the entry (R151). -/
  e0 : Nat
  /-- RL of each LIVE segment played. -/
  rl : Tbl Nat
  /-- LIVE segments whose RL has been set since ARM or the latest underrun clear (R148). -/
  rlSet : List Nat
  /-- IW of each LIVE segment at its latest index read. -/
  iw : Tbl Nat
  /-- Next word to copy on chip (R149). -/
  copied : Nat
  /-- LIVE words copied on chip: (index, word). -/
  chip : Tbl Nat
  /-- The LIVE segment whose words the playback FIFO holds. -/
  chipSeg : Option Nat
  nextRead : Option Nat
  fill : Nat
  panic : Bool
  panics : Nat
  lows : Nat
  /-- Sources whose stream-low notice has been sent and whose fill has not reached ITEMS / 2 since (R154). -/
  lowSent : List Nat
  overruns : Nat
  latch : Bool
  /-- The segment that the latch empties (R160). -/
  latchSeg : Nat
  underruns : Nat
  discarded : Nat
  ur : UrCopy
  /-- A block of content that the DRAM store lost and that the engine's read returned (R389): its segment, and the position of its first
  word in the segment. -/
  lostWord : Option (Nat × Nat)
  deriving DecidableEq, Repr

/-- Counters of an engine. -/
structure EngCnt where
  ignored : Nat
  late : Nat
  releases : Nat
  sat : Nat
  satLast : Nat
  muted : Nat
  deriving DecidableEq, Repr

/-- The complete state of an engine that a checkpoint holds (R449). -/
structure EngCore where
  st : EState
  phase : Phase
  stopCause : Nat
  holdCause : Nat
  l0 : Nat
  l1 : Nat
  l2 : Nat
  l3 : Nat
  armedAt : Nat
  lastTick : Option Nat
  pend : EngPend
  vals : EngVals
  play : EngPlay
  src : EngSrc
  cache : StepCache
  cnt : EngCnt
  deriving DecidableEq, Repr

/-- A checkpoint in one of the three slots (R449). -/
structure Checkpoint where
  edge : Nat
  confirmed : Bool
  core : EngCore
  deriving DecidableEq, Repr

/-- A takeover in progress (R451). -/
structure Takeover where
  f : Nat
  tr : Nat
  slot : Nat
  /-- Edge of the checkpoint restored. -/
  tc : Nat
  /-- The code held from the last tick before F. -/
  held : Int
  suppressed : Nat
  /-- Standby slots that failed before Tr: retired there (R454). -/
  retire : List Nat
  /-- The edge at which the slot was chosen, and the block that failed (R21). -/
  boundAt : Nat
  block : Nat
  deriving DecidableEq, Repr

/-- One engine E0 to E63. -/
structure Engine where
  core : EngCore
  takeover : Option Takeover
  phys : Nat
  takeovers : Nat
  checkpoints : List Checkpoint
  /-- The event log: (edge, consumer input or 16 + command) (R450). -/
  log : List (Nat × Nat)
  deriving DecidableEq, Repr

/-- The settings of a pulse line in force (R198); TRIP_MASK, SAFE, TRIP_MODE, TRIP_LINK and blanking act from the dictionary (R197). -/
structure LineSet where
  cfg : Nat
  ratio : Nat
  cphase : Nat
  cinc : Nat
  duty : Nat
  minWidth : Nat
  patSeg : Nat
  patBit : Nat
  patRepeat : Nat
  osDelay : Nat
  osWidth : Nat
  dead : Nat
  deriving DecidableEq, Repr

/-- A pattern that plays (R181): its start instant in taps, the bit whose period begins next, and what it started with. -/
structure PatRun where
  start : Nat
  bit : Nat
  seg : Nat
  taps : Nat
  passes : Nat
  deriving DecidableEq, Repr

/-- One pulse line P0 to P255. Instants are counted in taps: 64 × N + tap (R167). -/
structure Line where
  set : LineSet
  /-- ψ and Δ at the latest tick `tickAt` (R170). -/
  psi : Nat
  delta : Nat
  tickAt : Nat
  /-- Phase from which the period's targets count: 0 for a natural start, ψ for a declared one (R172, R174). -/
  base : Nat
  /-- Instant of the latest period start. -/
  perStart : Nat
  /-- Instant of the latest carrier event. -/
  evAt : Nat
  dw : Nat
  /-- The duty word that sets the falling target. -/
  dwFall : Nat
  /-- The apex is to take the duty word again (DUTY_UPDATE 1). -/
  apexDue : Bool
  rose : Bool
  fell : Bool
  /-- A period start is to be declared at the next tick edge (R172). -/
  declare : Bool
  /-- The latest tick fell in a takeover of the engine (R175). -/
  held : Bool
  /-- The command waveform w. -/
  w : Bool
  /-- Delayed edges that are scheduled: (instant, level). -/
  queue : List (Nat × Bool)
  /-- The command after dead time and minimum width. -/
  cmd : Bool
  lastEdge : Option Nat
  pat : Option PatRun
  /-- Start instants of patterns that FIRE has asked for. -/
  patDue : List Nat
  /-- Rise and fall instants of a ONESHOT. -/
  shot : Option (Nat × Nat)
  trip : Bool
  /-- Released, but at its safe state to the next edge: the interval between is too short (R188, R179). -/
  keepsSafe : Bool
  clearArmed : Bool
  /-- Held at its safe state by an analog rail reset (R478). -/
  railSafe : Bool
  /-- Held by GATE (R195). -/
  gated : Bool
  trips : Nat
  dropped : Nat
  clearFails : Nat
  ignoredFires : Nat
  /-- Of the first line of a pair that awaits its apply point: the line whose next period start that is (R198). -/
  applyBy : Option Nat
  deriving DecidableEq, Repr

/-- The timed sequences of an output (chapter 7). -/
inductive SeqKind where
  | enable | softPark | rangeChange
  deriving DecidableEq, Repr

/-- A running output sequence. -/
structure Seq where
  kind : SeqKind
  /-- Its ECLK +0. -/
  start : Nat
  /-- DAC code at its ECLK +0. -/
  from_ : Nat
  /-- No other sequence ran at its ECLK +0: a grid tick there still latches the engine's code. -/
  latch : Bool
  /-- Mode and range that the sequence switches in. -/
  mode : Nat
  range : Nat
  deriving DecidableEq, Repr

/-- The output stage of one channel. -/
structure Out where
  enabled : Bool
  parkSwitch : Bool
  amp : Bool
  seq : Option Seq
  rangePending : Bool
  /-- The range committed while a sequence ran takes effect when it ends (R218). -/
  rangeNext : Bool
  /-- A park fell before ECLK +2,000 of a range change: the edge at which the elements still switch, to a mode and range. -/
  rangeSwitchAt : Option (Nat × Nat × Nat)
  /-- LIMIT of `OUT_STATUS`: the hard current limit is engaged (R219). -/
  limit : Bool
  /-- Detectors asserted now: bit 0 COMPLIANCE, 1 OPEN, 2 OVERCURRENT. -/
  det : Nat
  /-- The edge from which supervision counts: the end of the latest enable or range-change sequence (R211, R216, R219). -/
  supFrom : Nat
  modeIn : Nat
  rangeIn : Nat
  parkCause : Nat
  /-- The supervision flag that parked the channel (R215). -/
  parkFlag : Nat
  parkEdge : Nat
  /-- A hard park that takes effect at an edge to come: the edge, its cause, and the supervision flag (R213, R221, R478). -/
  parkDue : Option (Nat × Nat × Nat)
  supFlags : Nat
  dac : Nat
  compliance : Nat
  openCnt : Nat
  overcurrent : Nat
  rangeChanges : Nat
  /-- The tick at which an `OUT_RESTART` acts, and 16 ECLK after its receipt. -/
  restartAt : Option Nat
  restartFrom : Nat
  /-- CHANNEL-class loss (R459). -/
  lost : Bool
  /-- End edge of the blanking in force (R192). -/
  blankEnd : Option Nat
  deriving DecidableEq, Repr

/-- One window comparator. -/
structure Cmp where
  armed : Bool
  arming : Bool
  /-- The commit tick, ECLK +0, of its latest arming (R232). -/
  armFrom : Nat
  asserted : Bool
  latched : Bool
  inBand : Bool
  thFail : Bool
  forced : Bool
  /-- The comparator's analog output, under a force (R244). -/
  under : Bool
  asserts : Nat
  clearFails : Nat
  /-- Edge of the latest change of its threshold code (R242). -/
  thChanged : Option Nat
  /-- Sampling edge of its latest assertion (R235). -/
  seenAt : Option Nat
  deriving DecidableEq, Repr

/-- What a monitor conversion in progress is for (R240). -/
inductive ConvKind where
  | arming (i : Nat)
  | check (k : Nat)
  | sequence
  deriving DecidableEq, Repr

/-- A monitor conversion: its slot edge, kind, source and sampled value. -/
structure Conv where
  at_ : Nat
  kind : ConvKind
  source : Nat
  value : Int
  deriving DecidableEq, Repr

/-- Sensing of one channel (chapter 8). -/
structure Sense where
  /-- Arming sequences whose conversion is due: (input, S) (R232). -/
  arms : List (Nat × Nat)
  /-- Arm edges to come: (input, edge). -/
  edges : List (Nat × Nat)
  armCodeA : Int
  armCodeB : Int
  conv : Option Conv
  results : Tbl Int
  skipped : Nat
  /-- Comparators (k = 0 to 3) whose readback waits for a slot (R242). -/
  checks : List Nat
  checkFails : Nat
  /-- Consecutive readings of the quay reference out of 1 % (R458). -/
  refBad : Nat
  deriving DecidableEq, Repr

/-- The two slots of one consumer input (R254, R255). -/
structure Input where
  lastA : Option Nat
  lastB : Option Nat
  coalesce : Nat
  drops : Nat
  lastReg : Option Nat
  deriving DecidableEq, Repr

/-- One TRIG ball. -/
structure Trig where
  level : Bool
  /-- The commit tick at which the ball became an input, where no level has been sampled since (R506). -/
  inputAt : Option Nat
  pulseEnd : Option Nat
  /-- The pulse drives the active level from this edge. -/
  pulseFrom : Option Nat
  deriving DecidableEq, Repr

/-- One timer (R261). -/
structure Timer where
  /-- `TMR_STATE`. -/
  st : Nat
  /-- Its start edge X. -/
  x : Nat
  /-- Firings since the start. -/
  fired : Nat
  fires : Nat
  divAcc : Nat
  ignored : Nat
  deriving DecidableEq, Repr

/-- An accepted SW_EVENT write (R263): the boundary edge at which it acts, 16 ECLK after its receipt, and its mask. -/
structure SwWrite where
  at_ : Nat
  from_ : Nat
  mask : Nat
  deriving DecidableEq, Repr

/-- The event fabric (chapter 9). -/
structure Fabric where
  /-- Assertions: (edge, line), none older than the edge before the latest step's. -/
  sched : List (Nat × Nat)
  /-- Assertions counted per line. -/
  counts : Tbl Nat
  inputs : Tbl Input
  trigs : Tbl Trig
  timers : Tbl Timer
  sw : List SwWrite
  swWrites : Nat
  deriving DecidableEq, Repr

/-- One Hawser link. -/
structure HwLink where
  lane0 : Bool
  lane1 : Bool
  neighbour : Nat
  delayPs : Nat
  err0 : Nat
  err1 : Nat
  run0 : Nat
  run1 : Nat
  laneLosses : Nat
  linkLosses : Nat
  deriving DecidableEq, Repr

/-- A message of a ring commit (R306), which goes out in both directions. -/
inductive RingMsg where
  | prepare (id whenSel at_ : Nat)
  | ready (id : Nat) (report : ReadyReport)
  | fail (id pos code : Nat)
  | apply (id tick : Nat)
  | discard (id code : Nat)
  deriving DecidableEq, Repr

/-- A ring commit in progress or done (chapter 11). -/
structure RingCommit where
  st : Nat
  result : Nat
  failPos : Nat
  id : Nat
  applied : Nat
  /-- Edge of PREPARE. -/
  preparedAt : Nat
  coordinator : Bool
  /-- The coordinator's own check has succeeded. -/
  ownOk : Bool
  reports : List ReadyReport
  codes : List (Nat × Nat)
  whenSel : Nat
  at_ : Nat
  mask : Nat
  /-- READY has been sent (as a member). -/
  readySent : Bool
  /-- The message sent latest. -/
  sent : Option RingMsg
  deriving DecidableEq, Repr

/-- The Hawser ring. -/
structure Ring where
  devpos : Nat
  size : Nat
  /-- `RING_STATE`. -/
  st : Nat
  master : Nat
  members : Nat
  alignPs : Int
  alignSteps : Nat
  error : Nat
  east : HwLink
  west : HwLink
  /-- Links of the ring that are lost, each by the position that it leads east from (R297, R311). -/
  lostLinks : List Nat
  /-- Taps by which the module has shifted the phase of its ECLK/PCLK loop (R299, R301). -/
  loopTaps : Int
  /-- What the timing master reads in `SYNC_SOURCE`, where this module follows one (R300), and the ECLK edges by which its epoch edge lies off
  that of R270 (R299). -/
  masterSync : Option Bool
  epochShift : Int
  /-- An engine of another module that blocks a realignment, as last reported: (position, engine) (R304). -/
  blocker : Option (Nat × Nat)
  /-- Window number and the records placed in it (R296). -/
  window : Nat
  tx : List HwRecord
  /-- Records to forward in the next cell, eastward and westward. -/
  fwdEast : List HwRecord
  fwdWest : List HwRecord
  /-- The cell last sent eastward and westward (Table 11-1). -/
  sentEast : List Byte
  sentWest : List Byte
  /-- Events received: delivery edge, edge X of registration, x, source (R297, R298). -/
  rx : List (Nat × Nat × Nat × Nat)
  txDrops : Nat
  commit : RingCommit
  deriving DecidableEq, Repr

/-- A segment (Table 2-1); LOCK_COUNT, ALLOY_REFS and PLAYING are computed (R60). -/
structure Seg where
  kind : Nat
  st : Nat
  error : Nat
  crcFault : Bool
  addr : Nat
  lengthM1 : Nat
  items : Nat
  hint : Nat
  crc : Nat
  deriving DecidableEq, Repr

/-- The counters of a STREAM segment (R143, R145). -/
structure Stream where
  wp : Nat
  rp : Nat
  /-- Accepted words above WP. -/
  above : List Nat
  deriving DecidableEq, Repr

/-- The waveform store (chapter 2). -/
structure Store where
  segs : Tbl Seg
  content : Mem
  streams : Tbl Stream
  /-- The running verification first, then the waiting ones. -/
  verify : List Nat
  verifyLast : Nat
  mismatch : Bool
  errorOffset : Nat
  deriving DecidableEq, Repr

/-- One bank of the scratchpad (chapter 15). -/
structure Bank where
  retention : Bool
  waking : Bool
  retired : Bool
  repair : Bool
  spareUsed : Nat
  ownerFaults : Nat
  lastMaster : Nat
  wakeStalls : Nat
  borrowStalls : Nat
  replaces : Nat
  lastAccess : Nat
  /-- Edge of the latest OWNER_FAULT notice. -/
  faultNotice : Option Nat
  deriving DecidableEq, Repr

/-- A march run (R414). -/
structure March where
  bank : Nat
  destructive : Bool
  algorithm : Nat
  background : Nat
  /-- The next row in rising order; 1,024 after the last. -/
  row : Nat
  /-- The row borrowed. -/
  cur : Nat
  /-- W of the borrowed window. -/
  window : Option Nat
  /-- The row's save buffer: byte offsets within the row that are not zero. -/
  saved : Mem
  releasedAt : Nat
  /-- Rows to retest after the last row. -/
  again : List Nat
  fail : Option (Nat × Nat)
  prevOwner : Nat
  deriving DecidableEq, Repr

/-- The Berth port. -/
structure Berth where
  /-- `BERTH_STATUS`. -/
  status : Nat
  doorbell : Nat
  latchHi : Nat
  handover : Option (Nat × Nat)
  accesses : Nat
  busies : Nat
  /-- BBUSYn is low. -/
  busy : Bool
  /-- What BD last presented. -/
  bd : Word
  deriving DecidableEq, Repr

/-- The scratchpad. -/
structure Scratch where
  content : Mem
  banks : Tbl Bank
  conflicts : Tbl Nat
  corrected : Nat
  uncorrectable : Nat
  /-- Rows recorded in NVM for repair: (bank, row). -/
  repairs : List (Nat × Nat)
  march : Option March
  marchResult : Nat
  marchFailBit : Nat
  abandoned : Nat
  runs : Nat
  berth : Berth
  /-- The latest atomic operation through port A: its master and the old value that it returned (R410). -/
  atomic : Option (Nat × Nat)
  deriving DecidableEq, Repr

/-- The freeze record (Table 14-5) without its command trace, which DRAM timing makes (R278). -/
structure FreezeRec where
  cause : Nat
  op : Nat
  bank : Nat
  row : Nat
  col : Nat
  addr : Nat
  syndrome : Nat
  time : Nat
  deriving DecidableEq, Repr

/-- Phases of a retraining or changeover of a member (Table 14-8). -/
inductive TrainPhase where
  | none | drain | sweep | retest | oldRetest | replay
  deriving DecidableEq, Repr

/-- The work of a DRAM controller (R374). -/
structure DramWork where
  /-- Commands that wait, in the order of arrival; at most 64 of them are writes. -/
  queue : List DramCmd
  /-- The 10 µs window of the latest issue, and the bytes that class 6 has moved in it. -/
  window : Nat
  moved : Nat
  deriving DecidableEq, Repr

/-- One DRAM channel. -/
structure Dram where
  /-- `DCH_STATE`. -/
  st : Nat
  marginal : Bool
  doubled : Bool
  work : DramWork
  inOrder : List Nat
  owed : Tbl Nat
  rate : Nat
  temp : Int
  trains : Nat
  trainTime : Nat
  corrInline : Nat
  corrLink : Nat
  freezes : Nat
  frozenAt : Nat
  set : List Byte
  /-- The set in use before a sweep. -/
  oldSet : List Byte
  /-- The stored set of each operating point (R390). -/
  sets : Tbl (List Byte)
  /-- The controller's retry of a block whose read failed (R389): the address. -/
  retry : Option DramAddr
  /-- The open row of each bank. -/
  openRow : Tbl Nat
  record : Option FreezeRec
  neighbours : Nat
  postponed : Nat
  resilver : Nat
  /-- Granules marked in the write log that this channel's twin keeps for it, rising. -/
  writeLog : List Nat
  phase : TrainPhase
  /-- Does this training change the operating point (R395)? -/
  changing : Bool
  /-- The initial training after a release (Table 14-6). -/
  afterRelease : Bool
  /-- Activations counted per (bank × 2^18 + row) on control channels (R378). -/
  rows : Tbl Nat
  /-- Draws made of the random source (R377). -/
  draws : Nat
  deriving DecidableEq, Repr

/-- The DRAM store. -/
structure DramStore where
  chans : Tbl Dram
  /-- Members whose retraining is due, oldest first. -/
  due : List Nat
  ratePending : Nat
  /-- Target point and round (0 or 1) of a changeover. -/
  change : Option (Nat × Nat)
  deriving DecidableEq, Repr

/-- A calibration table (Table 16-1). -/
structure CalTable where
  trims : List Int
  k : List Nat
  oc : List Int
  thOffset : List Int
  senseCorr : List Int
  monOffset : Int
  monGain : Int
  deriving DecidableEq, Repr

/-- A pass in progress or awaiting its swap. -/
structure CalPass where
  start : Nat
  tStart : Int
  /-- Next element to be measured. -/
  element : Nat
  /-- Trims measured so far: (element, trim). -/
  trims : Tbl Int
  result : Option CalResult
  /-- P (R438). -/
  done : Option Nat
  deriving DecidableEq, Repr

/-- An NVM calibration record copy. -/
structure CalRec where
  good : Bool
  seq : Nat
  time : Nat
  temp : Int
  table : CalTable
  retired : List Nat
  deriving DecidableEq, Repr

/-- Calibration of one channel (chapter 16). -/
structure Cal where
  /-- The active table; none: unity, zero trims (R441). -/
  table : CalTable
  source : Nat
  tCal : Int
  time : Nat
  count : Nat
  discards : Nat
  dueAt : Option Nat
  pass : Option CalPass
  /-- The element serving each unary position. -/
  map : List Nat
  retired : List Nat
  copyA : Option CalRec
  copyB : Option CalRec
  /-- A record that waits to be written. -/
  waiting : Option CalRec
  fallback : Bool
  deriving DecidableEq, Repr

/-- A fault log entry (Table 17-8). -/
structure LogEntry where
  cls : Nat
  kind : Nat
  cause : Nat
  source : Nat
  count : Nat
  location : Nat
  time : Nat
  n : Nat
  start : Nat
  p0 : Nat
  p1 : Nat
  deriving DecidableEq, Repr

/-- A notice in a session's queue (Table 13-6). -/
structure Notice where
  code : Nat
  cls : Nat
  kind : Nat
  source : Nat
  time : Nat
  n : Nat
  step : Nat
  tag : Nat
  params : List Nat
  /-- SEQ and edge of its first or latest transmission, and retransmissions made; none: not sent. -/
  sent : Option (Nat × Nat × Nat)
  deriving DecidableEq, Repr

/-- Faults and availability (chapter 17). -/
structure Faults where
  /-- `FAULTS_CLASS0` to `4`. -/
  classes : Tbl Nat
  log : List LogEntry
  queue : List LogEntry
  discarded : Nat
  reasons : Nat
  since : Nat
  requests : Nat
  lastRequest : Nat
  faultnLow : Bool
  suppressed : Nat
  /-- Engine served by PE64 and PE65; 0xFF free, 0xFE retired. -/
  pe64 : Nat
  pe65 : Nat
  /-- Retired slots (R23, in NVM). -/
  retired : List Nat
  /-- The management pair recovers: since this edge, with this many further mismatches. -/
  recovering : Option (Nat × Nat)
  recoveries : Nat
  /-- Times (ns) of the recoveries of the last 3,600 s. -/
  recent : List Nat
  /-- Notices of takeovers that ended during a recovery of the management pair (Table 17-9). -/
  held : List Notice
  deriving DecidableEq, Repr

/-- Supplies, start and temperature (chapter 18). -/
structure Power where
  phase : RunPhase
  railMv : Tbl Int
  /-- Rails below their warning level now. -/
  below : Nat
  brace : Bool
  braceAt : Nat
  braces : Nat
  braceRails : Nat
  braceMin : Int
  /-- Clear edge of the brace state once every rail has recovered. -/
  clearAt : Option Nat
  /-- Brace snapshots: (N, time, rail bitmap) (R475). -/
  snapshot : Option (Nat × Nat × Nat)
  analogResets : Nat
  /-- An analog rail reset waits for the brace state to clear (R478). -/
  analogWait : Bool
  /-- The clear edge from which the restart tick counts (R478). -/
  analogAt : Option Nat
  resetCause : Nat
  /-- What caused the reset in progress, recorded at the next start. -/
  pendingCause : Nat
  bootAlways : Nat
  bootNvm : Nat
  bootUsed : Nat
  startFail : Nat
  mooringReason : Nat
  /-- BOOTSEL as sampled at the release of PORn. -/
  bootsel : Bool
  running : Nat
  imageA : Bool
  imageB : Bool
  /-- Which image each slot holds, by its number among the images that the module has held: its version is its own (Table 0-3). -/
  imageIdA : Nat
  imageIdB : Nat
  /-- Images that the module has held. -/
  imagesHeld : Nat
  duration : Nat
  starts : Nat
  startAt : Nat
  /-- A software reset falls due at this edge; into mooring mode? -/
  restart : Option (Nat × Bool)
  tempMax : Int
  tempDie : Nat
  tempWarned : Bool
  /-- NVM objects whose write waits for the brace state to clear: (key, the value that NVM still holds) (R343). -/
  nvmWait : Tbl Nat
  /-- Key slots whose write waits: the key that NVM still holds. -/
  keyWait : Tbl (List Byte)
  /-- Images whose write waits. -/
  imageWait : List Nat
  /-- Images that failed their check at this start. -/
  badImages : List Nat
  deriving DecidableEq, Repr

/-- The units of a channel as of its loss (R459). -/
structure LostCopy where
  out : Out
  lines : Tbl Line
  /-- Lines that showed PENDING. -/
  pendingLines : List Nat
  cmps : Tbl Cmp
  sense : Sense
  cal : Cal
  deriving DecidableEq, Repr

/-- Everything of the module but sessions and the queue: what a view holds (R336). -/
structure Device where
  clock : Clock
  dict : Dict
  engines : Tbl Engine
  lines : Tbl Line
  outs : Tbl Out
  cmps : Tbl Cmp
  senses : Tbl Sense
  fabric : Fabric
  ring : Ring
  store : Store
  scratch : Scratch
  dram : DramStore
  cals : Tbl Cal
  calSwaps : Nat
  calLast : Nat
  /-- Lost channels: their units as of the loss. -/
  lostCopies : Tbl LostCopy
  faults : Faults
  power : Power
  deriving DecidableEq, Repr

/-- What an open view holds (R336): the module at V, the module as of each quay's latest tick at or before V, and the values of the objects of
the link and of the session at V, by key. -/
structure Snap where
  dev : Device
  ticked : Tbl Device
  vals : Tbl Nat
  deriving DecidableEq, Repr

/-- A view (R335): 0 closed, 1 pending, 2 open. -/
structure View where
  st : Nat
  v : Nat
  epoch : Nat
  lastRead : Nat
  snap : Option Snap
  deriving DecidableEq, Repr

/-- A cargo transfer (R358). -/
structure Transfer where
  num : Nat
  write : Bool
  key : Nat
  offset : Nat
  total : Nat
  segSize : Nat
  acked : Nat
  window : Nat
  /-- Segments accepted above ACKED: positions. -/
  got : List Nat
  /-- Bytes accepted of a host-to-device transfer, by transfer position. -/
  bytes : Mem
  lastAccepted : Nat
  lastAdvance : Nat
  resends : Nat
  /-- Of a read: the position up to which segments have been sent, the port of the latest, and the segments sent on each port (R360). -/
  sentTo : Nat
  lastPort : Nat
  sends0 : Nat
  sends1 : Nat
  deriving DecidableEq, Repr

/-- A stored response (Table 13-4, R349): request number, ABORT, EPOCH, DATA, RETRANSMIT, and the port and edge of its latest sending. -/
structure Response where
  seq : Nat
  code : Nat
  epoch : Nat
  data : List Byte
  retransmit : Bool
  port : Nat
  at_ : Nat
  deriving DecidableEq, Repr

/-- A session (chapter 13). -/
structure Session where
  /-- The session is open. -/
  isOpen : Bool
  /-- A CHALLENGE has been sent and not confirmed. -/
  challenged : Bool
  role : Nat
  slot : Nat
  /-- The key that the slot held at OPEN (R352). -/
  slotKey : List Byte
  hostNonce : Nat
  /-- Number of the DEVICE_NONCE draw. -/
  nonce : Nat
  lastFrame : Nat
  bound0 : Bool
  bound1 : Bool
  activePort : Nat
  highest : Nat
  /-- Stored responses, newest first. -/
  resps : List Response
  /-- The latest response sent. -/
  last : Option Response
  dups : Nat
  notices : List Notice
  nextSeq : Nat
  discarded : Nat
  lost : Nat
  /-- The run of lost notices not yet reported: first SEQ and count. -/
  lostRun : Option (Nat × Nat)
  /-- Edge at which the retransmission timers stopped: no bound port is up (R356). -/
  timersAt : Option Nat
  /-- Per-session RW objects that differ from their default. -/
  vals : Tbl Nat
  view0 : View
  view1 : View
  view2 : View
  view3 : View
  transfers : List Transfer
  nextTransfer : Nat
  /-- The CARGO_ACK sent latest: TRANSFER, ACKED, WINDOW, ABORT (Table 13-8). -/
  cargoAck : Option (Nat × Nat × Nat × Nat)
  deriving DecidableEq, Repr

/-- The settings of a port that a start has taken from NVM (R341, R343). -/
structure PortCfg where
  speedSel : Nat
  ipv4 : Nat
  prefix4 : Nat
  ipv6 : List Byte
  vlan : Nat
  mtu : Nat
  udp : Nat
  deriving DecidableEq, Repr

/-- An Ethernet port. -/
structure Port where
  cfg : PortCfg
  up : Bool
  speed25 : Bool
  rsFec : Bool
  macFails : Nat
  downs : Nat
  /-- ARP, neighbour discovery and echo replies sent, and where the latest went (R342). -/
  replies : Nat
  lastReply : Option Source
  deriving DecidableEq, Repr

/-- The Skeim link. -/
structure Link where
  ports : Tbl Port
  sessions : Tbl Session
  ptpState : Nat
  ptpOffset : Int
  /-- The standby port has seen a master's Announce (R344). -/
  announce0 : Bool
  announce1 : Bool
  /-- Keys of the four slots; an absent slot is empty. -/
  keys : Tbl (List Byte)
  cargoBytes : Nat
  cargoCrcFails : Nat
  nonces : Nat
  /-- Refusals sent on SESSION 0: the latest abort code. -/
  lastRefusal : Nat
  /-- Source of the latest authenticated frame of a session on a port, by 2 × session + port (R342). -/
  sources : Tbl Source
  deriving DecidableEq, Repr

/-- The machine. `undefined` counts the undefined words drawn so far: the model's own field, no register. (DESIGN CHOICE, log 4, log 51.) -/
structure State where
  dev : Device
  /-- The module as of the latest tick of each quay (R279). -/
  ticked : Tbl Device
  link : Link
  undefined : Nat
  pending : List Instr
  deriving DecidableEq, Repr

/-! ### Reset values -/

/-- A step entry of zeros (R67). -/
def Entry.zero : Entry :=
  { segment := 0, endAction := 0, markers := 0, waitSel := 0, jumpMap := 0, rep := 0, loopSel := 0, loopOp := 0, trans := 0,
    phaseMode := 0, scaleEn := false, next := 0, rateEn := false, fundEn := false, branch := 0, loopValue := 0, inc := 0,
    fund := 0, phase := 0, start := 0, scale := 0, offset := 0, tag := 0 }

/-- No request. -/
def EngPend.none : EngPend :=
  { atEnd := .none, jump := .none, release := .none, start := .none, hold := .none, unhold := .none, abort := .none, rate := [],
    underrun := .none, decisions := [], again := false, fresh := .none, cmds := [] }

/-- The values in force of Table 4-7's defaults and of R100. -/
def EngVals.reset : EngVals :=
  { inc := 0x100000000, incPrev := 0x100000000, fund := 0, fundPrev := 0, phi := 0, scale := 0x400000, offset := 0,
    rampIndex := 0, rateAt := .none }

/-- An engine's state after a start (Tables 3-16, 4-7 and 5-6). -/
def EngCore.reset : EngCore :=
  { st := .idle, phase := .still, stopCause := 0, holdCause := 0, l0 := 0, l1 := 0, l2 := 0, l3 := 0, armedAt := 0,
    lastTick := .none, pend := EngPend.none, vals := EngVals.reset,
    play := { step := 0, tag := 0, entry := Entry.zero, seg := .none, pass := 0, begun := false, action := 0, x := 0, xPrev := 0, ends := 0, theta := [],
              code := 0, codePrev := 0, bridge := .none, lateEntry := false, formed := .none, reentry := .none, firstAt := .none },
    src := { e0 := 0, rl := [], rlSet := [], iw := [], copied := 0, chip := [], chipSeg := .none, nextRead := .none, fill := 0, panic := false, panics := 0,
             lows := 0, lowSent := [], overruns := 0, latch := false, latchSeg := 0, underruns := 0, discarded := 0,
             ur := { step := 0, tag := 0, pass := 0, l0 := 0, l1 := 0, l2 := 0, l3 := 0, position := 0, index := 0, time := 0 },
             lostWord := .none },
    cache := { resident := [], ahead := [] },
    cnt := { ignored := 0, late := 0, releases := 0, sat := 0, satLast := 0, muted := 0 } }

/-- Engine `e` on a module with no retired slot (R25). -/
def Engine.reset (e : Nat) : Engine :=
  { core := EngCore.reset, takeover := .none, phys := e, takeovers := 0, checkpoints := [], log := [] }

/-- A pulse line after a start (Table 6-6, R194). -/
def Line.reset : Line :=
  { set := { cfg := 0, ratio := 1, cphase := 0, cinc := 0, duty := 0, minWidth := 64, patSeg := 0, patBit := 64, patRepeat := 0,
             osDelay := 0, osWidth := 64, dead := 0 },
    psi := 0, delta := 0, tickAt := 0, base := 0, perStart := 0, evAt := 0, dw := 0, dwFall := 0, apexDue := false, rose := false,
    fell := false, declare := false, held := false, w := false, queue := [], cmd := false, lastEdge := .none, pat := .none, patDue := [],
    shot := .none, trip := false, keepsSafe := false, clearArmed := false, railSafe := false, gated := false, trips := 0, dropped := 0, clearFails := 0,
    ignoredFires := 0, applyBy := .none }

/-- An output after a start: parked, not enabled since the start (Table 7-7). -/
def Out.reset : Out :=
  { enabled := false, parkSwitch := true, amp := false, seq := .none, rangePending := false, rangeNext := false,
    rangeSwitchAt := .none, limit := false, det := 0, supFrom := 0, modeIn := 0, rangeIn := 0, parkCause := 1, parkFlag := 0, parkEdge := 0, parkDue := .none, supFlags := 0,
    dac := 0x80000, compliance := 0, openCnt := 0, overcurrent := 0, rangeChanges := 0, restartAt := .none, restartFrom := 0, lost := false,
    blankEnd := .none }

/-- A comparator after a start: disabled (R231, Table 8-10). -/
def Cmp.reset : Cmp :=
  { armed := false, arming := false, armFrom := 0, asserted := false, latched := false, inBand := false, thFail := false, forced := false,
    under := false, asserts := 0, clearFails := 0, thChanged := .none, seenAt := .none }

/-- The sensing of a channel after a start (Table 8-10). -/
def Sense.reset : Sense :=
  { arms := [], edges := [], armCodeA := 0, armCodeB := 0, conv := .none, results := [],
    skipped := 0, checks := [], checkFails := 0, refBad := 0 }

def Input.reset : Input := { lastA := .none, lastB := .none, coalesce := 0, drops := 0, lastReg := .none }

def Trig.reset : Trig := { level := false, inputAt := .none, pulseEnd := .none, pulseFrom := .none }

def Timer.reset : Timer := { st := 0, x := 0, fired := 0, fires := 0, divAcc := 0, ignored := 0 }

def HwLink.reset : HwLink :=
  { lane0 := false, lane1 := false, neighbour := 0xFF, delayPs := 0, err0 := 0, err1 := 0, run0 := 0, run1 := 0, laneLosses := 0,
    linkLosses := 0 }

/-- An EMPTY segment (R40: every field zero). -/
def Seg.empty : Seg :=
  { kind := 0, st := 0, error := 0, crcFault := false, addr := 0, lengthM1 := 0, items := 0, hint := 0, crc := 0 }

def Stream.reset : Stream := { wp := 0, rp := 0, above := [] }

def Bank.reset : Bank :=
  { retention := false, waking := false, retired := false, repair := false, spareUsed := 0, ownerFaults := 0, lastMaster := 0xFF,
    wakeStalls := 0, borrowStalls := 0, replaces := 0xFF, lastAccess := 0, faultNotice := .none }

/-- A training result block (Table 14-7) that no sweep has filled: the operating point with RESULT 1, everything else zero (the module's
own values are "Per unit": DESIGN CHOICE). (DEDUCED, log 35.) -/
def startSet (rate : Nat) : List Byte := BitVec.ofNat 8 (rate + 16) :: List.replicate 63 0

def Dram.reset : Dram :=
  { st := 0, marginal := false, doubled := false, work := { queue := [], window := 0, moved := 0 }, inOrder := [], owed := [], rate := 0, temp := 0, trains := 0, trainTime := 0,
    corrInline := 0, corrLink := 0, freezes := 0, frozenAt := 0, set := startSet 0, oldSet := [], sets := [], retry := .none, openRow := [], record := .none, neighbours := 0,
    postponed := 0, resilver := 0, writeLog := [], phase := .none, changing := false, afterRelease := false, rows := [], draws := 0 }

/-- Unity calibration: K 1.0, everything else 0 (R441). -/
def CalTable.unity : CalTable :=
  { trims := [], k := [], oc := [], thOffset := [], senseCorr := [], monOffset := 0, monGain := 0 }

/-- Calibration of a channel whose table in use is unity (a module's own table is "Per unit": DESIGN CHOICE). -/
def Cal.reset : Cal :=
  { table := CalTable.unity, source := 0, tCal := 0, time := 0, count := 0, discards := 0, dueAt := .none, pass := .none,
    map := List.range 63, retired := [], copyA := some { good := true, seq := 1, time := 0, temp := 0, table := CalTable.unity, retired := [] },
    copyB := .none, waiting := .none, fallback := false }

/-- The settings of port `p` of a module whose NVM holds none (Table 13-12); DEVPOS is 0. -/
def PortCfg.reset (p : Nat) : PortCfg :=
  { speedSel := 0, ipv4 := 0xA9FE580A + p, prefix4 := 16, ipv6 := [], vlan := 0, mtu := 1500, udp := 47800 }

def Port.reset (p : Nat) : Port :=
  { cfg := PortCfg.reset p, up := true, speed25 := true, rsFec := true, macFails := 0, downs := 0, replies := 0, lastReply := .none }

def View.closed : View := { st := 0, v := 0, epoch := 0, lastRead := 0, snap := .none }

/-- A session number that is free. -/
def Session.free : Session :=
  { isOpen := false, challenged := false, role := 0, slot := 0, slotKey := [], hostNonce := 0, nonce := 0, lastFrame := 0, bound0 := false,
    bound1 := false, activePort := 0, highest := 0, resps := [], last := .none, dups := 0, notices := [], nextSeq := 1,
    discarded := 0, lost := 0, lostRun := .none, timersAt := .none, vals := [], view0 := View.closed, view1 := View.closed, view2 := View.closed,
    view3 := View.closed, transfers := [], nextTransfer := 1, cargoAck := .none }

def Commit.reset : Commit :=
  { st := 0, result := 0, epoch := 0, tickN := 0, appliedN := 0, earliest := 0, tickTime := 0, failObj := 0xFFFFFFFF, duration := 0, stepCheck := 0xFFFFFFFF,
    demand := 0, cycle := [], reqAt := 0, reqWhen := 0, reqArg := 0, okAt := 0, refills := [], blocked := [] }

def Dict.reset : Dict :=
  { active := [], staged := [], changed := [], rw := [], stepsActive := [], stepsStaged := [], stepChanged := [], stepWritten := [],
    commit := Commit.reset }

def Clock.reset : Clock :=
  { n := 0, numbering := .plain, timeAcc := 0, timeRate := 10737418240, syncSource := 0, epochSet := true, syncMissed := false, syncSlips := 0,
    syncMisses := 0, syncOffset := 0, realign := false, lastSync := .none, refPresent := true, locked := true, holdover := false,
    relocking := false, refLosses := 0, holdoverNs := 0, holdFrom := 0, dramClkLocked := true, lclkPort := 0 }

def Fabric.reset : Fabric := { sched := [], counts := [], inputs := [], trigs := [], timers := [], sw := [], swWrites := 0 }

def RingCommit.reset : RingCommit :=
  { st := 0, result := 0, failPos := 0xFF, id := 0, applied := 0, preparedAt := 0, coordinator := false, ownOk := false,
    reports := [], codes := [], whenSel := 0, at_ := 0, mask := 0, readySent := false, sent := .none }

/-- A module alone (R291, `RING_STATE` ALONE). -/
def Ring.reset : Ring :=
  { devpos := 0, size := 1, st := 0, master := 0xFF, members := 0, alignPs := 0, alignSteps := 0, error := 0,
    east := HwLink.reset, west := HwLink.reset, lostLinks := [], loopTaps := 0, masterSync := .none, epochShift := 0, blocker := .none,
    window := 0, tx := [], fwdEast := [], fwdWest := [], sentEast := [], sentWest := [],
    rx := [], txDrops := 0, commit := RingCommit.reset }

def Store.reset : Store :=
  { segs := [], content := [], streams := [], verify := [], verifyLast := 0, mismatch := false, errorOffset := 0 }

def Scratch.reset : Scratch :=
  { content := [], banks := [], conflicts := [], corrected := 0, uncorrectable := 0, repairs := [], march := .none, marchResult := 0,
    marchFailBit := 0, abandoned := 0, runs := 0,
    berth := { status := 0, doorbell := 0, latchHi := 0, handover := .none, accesses := 0, busies := 0, busy := false, bd := 0 },
    atomic := .none }

def DramStore.reset : DramStore := { chans := [], due := [], ratePending := 0xFF, change := .none }

def Faults.reset : Faults :=
  { classes := [], log := [], queue := [], discarded := 0, reasons := 0, since := 0, requests := 0, lastRequest := 0,
    faultnLow := false, suppressed := 0, pe64 := 0xFF, pe65 := 0xFF, retired := [], recovering := .none, recoveries := 0,
    recent := [], held := [] }

def Power.reset : Power :=
  { phase := .ready, railMv := [], below := 0, brace := false, braceAt := 0, braces := 0, braceRails := 0, braceMin := 0,
    clearAt := .none, snapshot := .none, analogResets := 0, analogWait := false, analogAt := .none, resetCause := 1, pendingCause := 1,
    bootAlways := 0, bootNvm := 0, bootUsed := 0, startFail := 0, mooringReason := 0, bootsel := false, running := 0, imageA := true, imageB := true,
    imageIdA := 0, imageIdB := 1, imagesHeld := 2,
    duration := 0, starts := 1, startAt := 0, restart := .none, tempMax := 0, tempDie := 0, tempWarned := false, nvmWait := [], keyWait := [], imageWait := [],
    badImages := [] }

def Device.reset : Device :=
  { clock := Clock.reset, dict := Dict.reset, engines := [], lines := [], outs := [], cmps := [], senses := [],
    fabric := Fabric.reset, ring := Ring.reset, store := Store.reset, scratch := Scratch.reset, dram := DramStore.reset, cals := [],
    calSwaps := 0, calLast := 0, lostCopies := [], faults := Faults.reset, power := Power.reset }

/-- No session is open; K0 holds the commissioning key (R350). -/
def Link.reset : Link :=
  { ports := [], sessions := [], ptpState := 0, ptpOffset := 0, announce0 := false, announce1 := false,
    keys := [(0, Config.commissioningKey)], cargoBytes := 0, cargoCrcFails := 0, nonces := 0, lastRefusal := 0,
    sources := [] }

/-- The machine right after reset: the dictionary has become ready after a start, at the epoch edge N = 0 (R8, R10). (DESIGN CHOICE, log 2.) -/
def State.reset : State := { dev := Device.reset, ticked := [], link := Link.reset, undefined := 0, pending := [] }

end Sys2Proof.Machine
end

