-- ==== Sys2Proof/Machine/Ops.lean ====
section
/-! DEFINITION. The named operations over the state that the commands share: tables, byte memories, unit accessors, time, producer
lines of the event fabric, and the notice queues of the sessions. -/

namespace Sys2Proof.Machine

/-! ### Tables and byte memories -/

/-- The entry of unit `k`; `d` where the table lists none. -/
def tget {α : Type} (d : α) (k : Nat) : Tbl α → α
  | [] => d
  | (k', v) :: r => if k' = k then v else tget d k r

/-- The table with unit `k` holding `v`, by rising unit number. -/
def tset {α : Type} (k : Nat) (v : α) : Tbl α → Tbl α
  | [] => [(k, v)]
  | (k', v') :: r => if k < k' then (k, v) :: (k', v') :: r else if k = k' then (k, v) :: r else (k', v') :: tset k v r

/-- The table without an entry for `k`. -/
def terase {α : Type} (k : Nat) : Tbl α → Tbl α
  | [] => []
  | (k', v') :: r => if k' = k then terase k r else (k', v') :: terase k r

/-- The canonical form of a byte memory: addresses strictly rising, no entry equal to what an unlisted address reads. -/
def memWf (dflt : Byte) : Mem → Bool
  | [] => true
  | [(_, v)] => v != dflt
  | (a, v) :: (b, w) :: r => v != dflt && a < b && memWf dflt ((b, w) :: r)

/-- The byte at `a`. (DEDUCED, log 52.) -/
def mget (dflt : Byte) (a : Nat) (m : Mem) : Byte := tget dflt a m

/-- Writes a byte; writing what an unlisted address reads removes the entry. -/
def mput (dflt : Byte) (a : Nat) (v : Byte) : Mem → Mem
  | [] => if v = dflt then [] else [(a, v)]
  | (b, w) :: r =>
    if a < b then (if v = dflt then (b, w) :: r else (a, v) :: (b, w) :: r)
    else if a = b then (if v = dflt then r else (a, v) :: r)
    else (b, w) :: mput dflt a v r

/-- Writes the bytes `vs` from address `a` up. -/
def mputs (dflt : Byte) (a : Nat) : List Byte → Mem → Mem
  | [], m => m
  | v :: vs, m => mputs dflt (a + 1) vs (mput dflt a v m)

/-- The `len` bytes from address `a` up. -/
def mgets (dflt : Byte) (a : Nat) : Nat → Mem → List Byte
  | 0, _ => []
  | n + 1, m => mget dflt a m :: mgets dflt (a + 1) n m

/-- Little-endian value of bytes (R7). -/
def leVal : List Byte → Nat
  | [] => 0
  | b :: r => b.toNat + 256 * leVal r

/-- The `n` little-endian bytes of a value (R7). -/
def leBytes : Nat → Nat → List Byte
  | 0, _ => []
  | n + 1, v => BitVec.ofNat 8 v :: leBytes n (v / 256)

/-- The little-endian value of `len` bytes at `a` of a memory whose unlisted bytes are zero. -/
def mval (a len : Nat) (m : Mem) : Nat := leVal (mgets 0 a len m)

/-! ### Numbers -/

/-- Bit field [hi:lo] of a value (R7). -/
def bits (v hi lo : Nat) : Nat := v / 2 ^ lo % 2 ^ (hi + 1 - lo)

/-- Bit `k` of a value. -/
def bit (v k : Nat) : Bool := v / 2 ^ k % 2 == 1

/-- A `w`-bit two's complement number. -/
def toInt (w v : Nat) : Int := if v % 2 ^ w < 2 ^ (w - 1) then (v % 2 ^ w : Nat) else (v % 2 ^ w : Nat) - (2 ^ w : Nat)

/-- The `w`-bit two's complement encoding. -/
def ofInt (w : Nat) (v : Int) : Nat := (v % (2 ^ w : Nat)).toNat

/-- `v` with bit `k` set. -/
def setBit (v k : Nat) : Nat := if bit v k then v else v + 2 ^ k

/-- `v` with bit `k` clear. -/
def clearBit (v k : Nat) : Nat := if bit v k then v - 2 ^ k else v

/-- `v` with the bits of `m` clear. -/
def clearBits (v m : Nat) : Nat := v &&& (v ^^^ (v &&& m))

/-- A saturating 32-bit counter (R316 ff.: "saturating"). -/
def sat32 (v : Nat) : Nat := min v 0xFFFFFFFF

/-- A saturating 16-bit counter. -/
def sat16 (v : Nat) : Nat := min v 0xFFFF

/-- A wrapping 32-bit counter. -/
def wrap32 (v : Nat) : Nat := v % 2 ^ 32

/-- The first multiple of `m` at or after `n`. -/
def alignUp (m n : Nat) : Nat := (n + m - 1) / m * m

def b2n (b : Bool) : Nat := if b then 1 else 0

/-- 1 where `c` fails a check with `code`; 0 where it does not apply. -/
def failIf (c : Bool) (code : Nat) : Nat := if c then code else 0

/-- The lowest code that applies (R339); 0 for none. -/
def lowest (codes : List Nat) : Nat :=
  codes.foldl (fun m c => if c = 0 then m else if m = 0 then c else min m c) 0

/-- The positions at which a list satisfies `p`, from `k` up. -/
def indicesFrom {α : Type} (p : α → Bool) : Nat → List α → List Nat
  | _, [] => []
  | k, x :: r => if p x then k :: indicesFrom p (k + 1) r else indicesFrom p (k + 1) r

/-- Inserts a number into a rising list without repeats. -/
def insertNat (v : Nat) : List Nat → List Nat
  | [] => [v]
  | x :: r => if v < x then v :: x :: r else if v = x then x :: r else x :: insertNat v r

/-- Applies `f` for each element in order. -/
def forAll {α : Type} (l : List α) (f : α → State → State) (s : State) : State := l.foldl (fun s x => f x s) s

/-! ### Units -/

/-- N of the edge of the step (R271). -/
def State.now (s : State) : Nat := s.dev.clock.n

/-- The time counter in ns (R283). -/
def State.time (s : State) : Nat := s.dev.clock.timeAcc / 2 ^ 32

def modDev (f : Device → Device) (s : State) : State := { s with dev := f s.dev }
def modLink (f : Link → Link) (s : State) : State := { s with link := f s.link }
def modClock (f : Clock → Clock) : State → State := modDev fun d => { d with clock := f d.clock }
def modDict (f : Dict → Dict) : State → State := modDev fun d => { d with dict := f d.dict }
def modCommit (f : Commit → Commit) : State → State := modDict fun d => { d with commit := f d.commit }
def modFabric (f : Fabric → Fabric) : State → State := modDev fun d => { d with fabric := f d.fabric }
def modRing (f : Ring → Ring) : State → State := modDev fun d => { d with ring := f d.ring }
def modRingCommit (f : RingCommit → RingCommit) : State → State := modRing fun r => { r with commit := f r.commit }
def modStore (f : Store → Store) : State → State := modDev fun d => { d with store := f d.store }
def modScratch (f : Scratch → Scratch) : State → State := modDev fun d => { d with scratch := f d.scratch }
def modBerth (f : Berth → Berth) : State → State := modScratch fun d => { d with berth := f d.berth }
def modDram (f : DramStore → DramStore) : State → State := modDev fun d => { d with dram := f d.dram }
def modFaults (f : Faults → Faults) : State → State := modDev fun d => { d with faults := f d.faults }
def modPower (f : Power → Power) : State → State := modDev fun d => { d with power := f d.power }

def State.engine (s : State) (e : Nat) : Engine := tget (Engine.reset e) e s.dev.engines
def State.core (s : State) (e : Nat) : EngCore := (s.engine e).core
def modEngine (e : Nat) (f : Engine → Engine) (s : State) : State :=
  modDev (fun d => { d with engines := tset e (f (s.engine e)) d.engines }) s
def modCore (e : Nat) (f : EngCore → EngCore) : State → State := modEngine e fun g => { g with core := f g.core }
def modPend (e : Nat) (f : EngPend → EngPend) : State → State := modCore e fun g => { g with pend := f g.pend }
def modPlay (e : Nat) (f : EngPlay → EngPlay) : State → State := modCore e fun g => { g with play := f g.play }
def modSrc (e : Nat) (f : EngSrc → EngSrc) : State → State := modCore e fun g => { g with src := f g.src }
def modVals (e : Nat) (f : EngVals → EngVals) : State → State := modCore e fun g => { g with vals := f g.vals }
def modCnt (e : Nat) (f : EngCnt → EngCnt) : State → State := modCore e fun g => { g with cnt := f g.cnt }

/-- The engine plays, waits or holds: RATE_STEP, ABORT and jumps find it active. -/
def EngCore.active (c : EngCore) : Bool := c.st == .running || c.st == .waiting || c.st == .holding

def State.line (s : State) (p : Nat) : Line := tget Line.reset p s.dev.lines
def modLine (p : Nat) (f : Line → Line) (s : State) : State :=
  modDev (fun d => { d with lines := tset p (f (s.line p)) d.lines }) s

def State.out (s : State) (c : Nat) : Out := tget Out.reset c s.dev.outs
def modOut (c : Nat) (f : Out → Out) (s : State) : State :=
  modDev (fun d => { d with outs := tset c (f (s.out c)) d.outs }) s

def State.cmp (s : State) (j : Nat) : Cmp := tget Cmp.reset j s.dev.cmps
def modCmp (j : Nat) (f : Cmp → Cmp) (s : State) : State :=
  modDev (fun d => { d with cmps := tset j (f (s.cmp j)) d.cmps }) s

def State.sense (s : State) (c : Nat) : Sense := tget Sense.reset c s.dev.senses
def modSense (c : Nat) (f : Sense → Sense) (s : State) : State :=
  modDev (fun d => { d with senses := tset c (f (s.sense c)) d.senses }) s

def State.input (s : State) (i : Nat) : Input := tget Input.reset i s.dev.fabric.inputs
def modInput (i : Nat) (f : Input → Input) (s : State) : State :=
  modFabric (fun d => { d with inputs := tset i (f (s.input i)) d.inputs }) s

def State.trig (s : State) (k : Nat) : Trig := tget Trig.reset k s.dev.fabric.trigs
def modTrig (k : Nat) (f : Trig → Trig) (s : State) : State :=
  modFabric (fun d => { d with trigs := tset k (f (s.trig k)) d.trigs }) s

def State.timer (s : State) (k : Nat) : Timer := tget Timer.reset k s.dev.fabric.timers
def modTimer (k : Nat) (f : Timer → Timer) (s : State) : State :=
  modFabric (fun d => { d with timers := tset k (f (s.timer k)) d.timers }) s

def State.seg (s : State) (n : Nat) : Seg := tget Seg.empty n s.dev.store.segs
def modSeg (n : Nat) (f : Seg → Seg) (s : State) : State :=
  modStore (fun d => { d with segs := tset n (f (s.seg n)) d.segs }) s

def State.stream (s : State) (n : Nat) : Stream := tget Stream.reset n s.dev.store.streams
def modStream (n : Nat) (f : Stream → Stream) (s : State) : State :=
  modStore (fun d => { d with streams := tset n (f (s.stream n)) d.streams }) s

def State.bank (s : State) (b : Nat) : Bank := tget Bank.reset b s.dev.scratch.banks
def modBank (b : Nat) (f : Bank → Bank) (s : State) : State :=
  modScratch (fun d => { d with banks := tset b (f (s.bank b)) d.banks }) s

def State.chan (s : State) (m : Nat) : Dram := tget Dram.reset m s.dev.dram.chans
def modChan (m : Nat) (f : Dram → Dram) (s : State) : State :=
  modDram (fun d => { d with chans := tset m (f (s.chan m)) d.chans }) s

def State.cal (s : State) (c : Nat) : Cal := tget Cal.reset c s.dev.cals
def modCal (c : Nat) (f : Cal → Cal) (s : State) : State :=
  modDev (fun d => { d with cals := tset c (f (s.cal c)) d.cals }) s

def State.port (s : State) (p : Nat) : Port := tget (Port.reset p) p s.link.ports
def modPort (p : Nat) (f : Port → Port) (s : State) : State :=
  modLink (fun d => { d with ports := tset p (f (s.port p)) d.ports }) s

def State.session (s : State) (k : Nat) : Session := tget Session.free k s.link.sessions
def modSession (k : Nat) (f : Session → Session) (s : State) : State :=
  modLink (fun d => { d with sessions := tset k (f (s.session k)) d.sessions }) s

/-! ### Time -/

/-- The lines asserted before edge `m`, counted and dropped. -/
def countDue (m : Nat) : List (Nat × Nat) → Tbl Nat → List (Nat × Nat) × Tbl Nat
  | [], c => ([], c)
  | (e, l) :: r, c => if e < m then countDue m r (tset l (tget 0 l c + 1) c) else ((e, l) :: r, c)

/-! ### Producer lines -/

/-- Inserts an assertion in order; a line asserted twice at one edge is asserted once. -/
def insertAssert (x : Nat × Nat) : List (Nat × Nat) → List (Nat × Nat)
  | [] => [x]
  | y :: r => if x = y then y :: r
    else if x.1 < y.1 || (x.1 == y.1 && x.2 < y.2) then x :: y :: r else y :: insertAssert x r

/-- Line `l` is asserted for one ECLK at edge `at_` (R250). (DEDUCED, log 8.) -/
def assertLine (at_ l : Nat) : State → State := modFabric fun f => { f with sched := insertAssert (at_, l) f.sched }

/-- Is line `l` asserted at edge `at_`? -/
def lineAt (s : State) (at_ l : Nat) : Bool := s.dev.fabric.sched.contains (at_, l)

/-- Output `o` of engine `e` falls due at edge `at_` (Table 3-14): while the engine is in TAKEOVER it is not asserted but counted
(R452). FAULT (15) is always asserted. (DESIGN CHOICE, log 6.) -/
def engineLine (e o at_ : Nat) (s : State) : State :=
  match (s.engine e).takeover with
  | some k =>
    if o < 15 && k.f ≤ at_ && at_ < k.tr then modEngine e (fun g => { g with takeover := some { k with suppressed := k.suppressed + 1 } }) s
    else assertLine at_ (16 * e + o) s
  | none => assertLine at_ (16 * e + o) s

/-! ### Notices -/

/-- The key of an object: index × 256 + subindex. -/
def key (index sub : Nat) : Nat := index * 256 + sub

/-- The `NOTICE_MASK` of a session (Table 13-12). -/
def noticeMask (x : Session) : Nat := tget 0x0F (key 0x1200 4) x.vals

/-- Is a bound port of the session up? -/
def boundUp (s : State) (x : Session) : Bool := (x.bound0 && (s.port 0).up) || (x.bound1 && (s.port 1).up)

/-- The highest class (lowest number) of a notice not yet sent. -/
def bestUnsent (q : List Notice) : Option Nat :=
  q.foldl (fun m n => if n.sent.isSome then m else match m with | none => some n.cls | some c => some (min c n.cls)) none

/-- The lowest class below class `c` that has a notice not yet sent. -/
def worstUnsent (c : Nat) (q : List Notice) : Option Nat :=
  q.foldl (fun m n => if n.sent.isSome || n.cls ≤ c then m else match m with | none => some n.cls | some k => some (max k n.cls)) none

/-- Marks the oldest notice of class `c` not yet sent as sent. -/
def sendFirst (c seq edge : Nat) : List Notice → List Notice
  | [] => []
  | n :: r => if n.sent.isNone && n.cls == c then { n with sent := some (seq, edge, 0) } :: r else n :: sendFirst c seq edge r

/-- Removes the oldest notice of class `c` not yet sent. -/
def dropFirst (c : Nat) : List Notice → List Notice
  | [] => []
  | n :: r => if n.sent.isNone && n.cls == c then r else n :: dropFirst c r

/-- Sends one notice if fewer than 16 are sent and not acknowledged (R356). -/
def sendNext (edge : Nat) (x : Session) : Session :=
  if (x.notices.filter fun n => n.sent.isSome).length < 16 then
    match bestUnsent x.notices with
    | none => x
    | some c => { x with notices := sendFirst c x.nextSeq edge x.notices, nextSeq := x.nextSeq + 1 }
  else x

/-- Sends what the window of 16 allows; notices wait while no bound port is up. (DESIGN CHOICE, log 11.) -/
def pump (k : Nat) (s : State) : State :=
  if boundUp s (s.session k) then modSession k (fun x => (List.range 16).foldl (fun x _ => sendNext s.now x) x) s else s

/-- Places a notice in one session's queue (R355). (DESIGN CHOICE, log 11.) -/
def enqueue (k : Nat) (n : Notice) (s : State) : State :=
  let x := s.session k
  if x.isOpen && bit (noticeMask x) n.cls then
    if x.notices.length < 256 then pump k (modSession k (fun x => { x with notices := x.notices ++ [n] }) s)
    else
      let s := assertLine s.now 2043 s
      match worstUnsent n.cls x.notices with
      | some c => pump k (modSession k (fun x =>
          { x with notices := dropFirst c x.notices ++ [n], discarded := sat32 (x.discarded + 1) }) s)
      | none => modSession k (fun x => { x with discarded := sat32 (x.discarded + 1) }) s
  else s

/-- Sends a notice (Table 13-6) to every open session. -/
def notify (code cls kind source step tag : Nat) (params : List Nat) (s : State) : State :=
  let n : Notice := { code := code, cls := cls, kind := kind, source := source, time := s.time, n := s.now, step := step, tag := tag,
                      params := params, sent := none }
  forAll [1, 2, 3, 4, 5, 6, 7, 8] (fun k s => enqueue k n s) s

/-- A notice that no engine sends: STEP all ones, TAG 0. (DESIGN CHOICE, log 11.) -/
def notice (code cls kind source : Nat) (params : List Nat) : State → State :=
  notify code cls kind source 0xFFFFFFFF 0 params

/-- A notice of engine `e`, with its current step and tag (R108). -/
def engineNotice (code cls e : Nat) (params : List Nat) (s : State) : State :=
  notify code cls 1 e (s.core e).play.step (s.core e).play.tag params s

end Sys2Proof.Machine
end

