-- ==== Sys2Proof/Machine/Operands.lean ====
section
/-! DEFINITION. The operand forms: the object dictionary (index map, types, access kinds, defaults), step entries, jump maps, slot
words, the output grids, and the accessors of the active and staged copies. -/

namespace Sys2Proof.Machine

/-! ### The object dictionary (R316 to R320) -/

/-- Types of Table 12-3 that objects of this device use; `u n` and `i n` have n bytes. -/
inductive Ty where
  | bool | u (n : Nat) | i (n : Nat) | str | domain
  deriving DecidableEq, Repr

/-- Access kinds of Table 12-4; `rwSess` and `cmdSess`: any session, one value each. -/
inductive Acc where
  | ro | rw | rwSess | wo | rs | cmd | cmdSess
  deriving DecidableEq, Repr

/-- One object: type, access kind, default (RS and RW objects; as an unsigned number of the type's width). -/
structure Obj where
  ty : Ty
  acc : Acc
  dflt : Nat
  deriving DecidableEq, Repr

/-- A row of an object table: the subindices lo to hi. -/
structure Row where
  lo : Nat
  hi : Nat
  obj : Obj
  deriving DecidableEq, Repr

def ro (lo hi : Nat) (ty : Ty) : Row := { lo := lo, hi := hi, obj := { ty := ty, acc := .ro, dflt := 0 } }
def rs (lo hi : Nat) (ty : Ty) (d : Nat) : Row := { lo := lo, hi := hi, obj := { ty := ty, acc := .rs, dflt := d } }
def rw_ (lo hi : Nat) (ty : Ty) (d : Nat) : Row := { lo := lo, hi := hi, obj := { ty := ty, acc := .rw, dflt := d } }
def own (lo hi : Nat) (ty : Ty) (d : Nat) : Row := { lo := lo, hi := hi, obj := { ty := ty, acc := .rwSess, dflt := d } }
def cmd (lo hi : Nat) (ty : Ty) : Row := { lo := lo, hi := hi, obj := { ty := ty, acc := .cmd, dflt := 0 } }
def cmdOwn (lo hi : Nat) (ty : Ty) : Row := { lo := lo, hi := hi, obj := { ty := ty, acc := .cmdSess, dflt := 0 } }
def wo (lo hi : Nat) (ty : Ty) : Row := { lo := lo, hi := hi, obj := { ty := ty, acc := .wo, dflt := 0 } }

/-- A slot word with its default SPACING of 64 (Table 9-4). -/
def slotDefault : Nat := 0x400000

/-- Default `BANK_OWNER` (Table 15-2). -/
def ownerDefault (b : Nat) : Nat :=
  if b < 64 then b else if b < 112 then 0x40 else if b < 120 then 0x42 else if b < 124 then 0x41 else 0x40

/-- Tables 3-16, 4-7, 5-6, 9-11 and 1-3: the engine block of engine `e` at offset `off`. -/
def engineRows (e off : Nat) : List Row :=
  match off with
  | 0x00 => [ro 0 0 (.u 1), cmd 1 1 (.u 4), ro 2 2 (.u 1), rs 3 3 (.u 1) 0, rs 4 4 (.u 4) 0, rs 5 5 (.i 4) 0, ro 6 6 (.u 1),
             ro 7 9 (.u 4), ro 10 10 (.u 1), ro 11 13 (.u 4), ro 14 14 (.u 1)]
  | 0x01 => [ro 0 0 (.u 1), rs 1 1 (.u 4) (e * 8192), rs 2 2 (.u 4) 8192]
  | 0x02 => [ro 0 0 (.u 1), ro 1 4 (.u 4)]
  | 0x03 => [ro 0 0 (.u 1), rs 1 16 (.u 4) 0, rs 17 17 (.u 1) 0xFF]
  | 0x04 => [ro 0 0 (.u 1), rs 1 16 (.u 8) 0]
  | 0x05 => [ro 0 0 (.u 1), ro 1 1 (.u 1), ro 2 2 (.u 4)]
  | 0x06 => [ro 0 0 (.u 1), rs 1 1 (.u 1) 0, rs 2 2 (.u 8) 0x100000000, rs 3 3 (.i 8) 0, rs 4 4 (.u 8) 0, rs 5 5 (.i 8) 0,
             rs 6 6 (.u 4) 0, ro 7 7 (.u 4), ro 8 11 (.u 8), ro 12 13 (.i 4), ro 14 14 (.u 4), ro 15 16 (.u 1)]
  | 0x07 => [ro 0 0 (.u 1), ro 1 2 (.u 4), ro 3 3 (.u 2), ro 4 4 .bool, ro 5 6 (.u 4), rs 7 7 (.u 4) 128, ro 8 9 (.u 4),
             ro 10 10 .bool, ro 11 11 (.u 4), ro 12 12 (.u 8), ro 13 19 (.u 4), ro 20 22 (.u 8)]
  | 0x08 => [ro 0 0 (.u 1), rs 1 24 (.u 4) slotDefault]
  | 0x09 => [ro 0 0 (.u 1), ro 1 24 (.u 4)]
  | 0x7F => [ro 0 1 (.u 1), ro 2 2 (.u 4)]
  | _ => []

/-- Table 6-6: pulse line objects. -/
def lineRows : List Row :=
  [ro 0 0 (.u 1), rs 1 2 (.u 4) 0, rs 3 3 (.u 2) 1, rs 4 4 (.u 4) 0, rs 5 5 (.u 8) 0, rs 6 6 (.u 4) 0, rs 7 7 (.u 4) 64,
   rs 8 8 (.u 2) 0, rs 9 9 (.u 4) 64, rs 10 11 (.u 4) 0, rs 12 12 (.u 4) 64, cmd 13 13 (.u 1), ro 14 14 (.u 1), ro 15 18 (.u 4)]

/-- Table 8-10: comparator objects. -/
def cmpRows : List Row :=
  [ro 0 0 (.u 1), rs 1 1 .bool 0, rs 2 2 (.u 2) 8192, rs 3 6 (.u 1) 0, ro 7 7 (.u 1), cmd 8 8 (.u 1), ro 9 10 (.u 4)]

/-- Tables 7-7, 8-10, 6-6, 9-11 and 16-6: the channel block at offset `off`. -/
def channelRows (off : Nat) : List Row :=
  match off with
  | 0x00 => [ro 0 0 (.u 1), rs 1 1 .bool 0, rs 2 4 (.u 1) 0, ro 5 5 (.u 2), ro 6 7 (.u 1), cmd 8 9 (.u 1), ro 10 14 (.u 4)]
  | 0x10 => [ro 0 0 (.u 1), rs 1 1 (.u 1) 0, rs 2 2 (.u 2) 8, ro 3 3 (.i 4)]
  | 0x11 => [ro 0 0 (.u 1), rs 1 1 (.u 1) 0, rs 2 2 (.u 2) 8, ro 3 3 (.i 4)]
  | 0x12 => cmpRows
  | 0x13 => cmpRows
  | 0x14 => cmpRows
  | 0x15 => cmpRows
  | 0x18 => [ro 0 0 (.u 1), rs 1 1 (.u 8) 0x8102101071021010, ro 2 10 (.i 4), ro 11 11 (.u 4)]
  | 0x19 => [ro 0 0 (.u 1), rs 1 1 (.u 2) 100, rs 2 2 (.u 1) 4, rs 3 3 (.u 1) 0, cmd 4 4 (.u 1), ro 5 5 (.u 4)]
  | 0x30 => lineRows
  | 0x31 => lineRows
  | 0x32 => lineRows
  | 0x33 => lineRows
  | 0x34 => [ro 0 0 (.u 1), rs 1 1 (.u 4) 0, rs 2 2 .bool 0]
  | 0x35 => [ro 0 0 (.u 1), rs 1 1 (.u 4) 0, rs 2 2 .bool 0]
  | 0x36 => [ro 0 0 (.u 1), rs 1 1 (.u 2) 0, rs 2 3 (.u 1) 0]
  | 0x37 => [ro 0 0 (.u 1), rs 1 8 (.u 4) slotDefault, ro 9 16 (.u 4)]
  | 0x40 => [ro 0 1 (.u 1), ro 2 2 (.u 4), ro 3 3 (.u 8), ro 4 4 (.i 4), ro 5 5 (.u 1), ro 6 6 (.u 4), ro 7 7 (.u 1),
             ro 8 8 .domain, ro 9 9 (.u 4), ro 10 10 (.i 4), ro 11 11 .domain]
  | _ => []

/-- Objects below 0x6000 and from 0xA000 up. -/
def deviceRows (index : Nat) : List Row :=
  match index with
  | 0x1000 => [ro 0 0 (.u 1), ro 1 2 .str, ro 3 5 (.u 2), ro 6 6 .str, ro 7 7 (.u 4)]
  | 0x1110 => [ro 0 0 (.u 1), rw_ 1 1 .bool 1, rw_ 2 2 (.u 1) 0, ro 3 3 (.u 1), ro 4 4 (.i 8), rw_ 5 5 (.u 4) 1000000]
  | 0x1200 => [ro 0 2 (.u 1), own 3 3 (.u 4) 5000, own 4 4 (.u 1) 0x0F, ro 5 7 (.u 1), ro 8 8 (.u 4)]
  | 0x1300 => [ro 0 0 (.u 1), ro 1 1 (.u 2), ro 2 4 (.u 4)]
  | 0x1400 => [ro 0 0 (.u 1), wo 1 4 .domain, rw_ 5 5 (.u 1) 1, ro 6 6 (.u 1)]
  | 0x1500 => [ro 0 1 (.u 1), ro 2 2 (.u 8), ro 3 3 (.u 4)]
  | 0x2000 => [ro 0 1 (.u 1), ro 2 2 (.u 4), ro 3 3 (.u 8), ro 4 4 (.u 1), ro 5 5 (.u 4), ro 6 6 (.u 1)]
  | 0x2001 => [ro 0 1 (.u 1), ro 2 3 (.u 8), ro 4 4 (.u 1), ro 5 6 (.u 4), ro 7 7 (.i 4), cmd 8 8 (.u 1), ro 9 9 (.u 8)]
  | 0x2010 => [ro 0 0 (.u 1), rs 1 8 (.u 1) 0]
  | 0x2020 => [ro 0 5 (.u 1), rs 6 6 .bool 1, ro 7 7 (.i 4), ro 8 8 (.u 4), ro 9 9 (.u 1)]
  | 0x2021 => [ro 0 0 (.u 1), rw_ 1 1 (.u 1) 0, ro 2 2 (.u 1), ro 3 3 (.u 4), ro 4 4 (.u 1), ro 5 6 (.u 4)]
  | 0x2022 => [ro 0 2 (.u 1), ro 3 7 (.u 4)]
  | 0x2023 => [ro 0 2 (.u 1), ro 3 7 (.u 4)]
  | 0x2024 => [ro 0 0 (.u 1), ro 1 1 (.u 4)]
  | 0x2100 => [cmd 0 0 (.u 4)]
  | 0x2101 => [ro 0 0 (.u 4)]
  | 0x2102 => [rw_ 0 0 (.u 8) 0]
  | 0x2103 => [ro 0 1 (.u 1), ro 2 4 (.u 8), ro 5 7 (.u 4), cmd 8 8 (.u 1), ro 9 9 (.u 4)]
  | 0x2110 => [ro 0 0 (.u 1), cmdOwn 1 2 (.u 1), own 3 3 (.u 4) 60000, ro 4 11 (.u 8), ro 12 12 (.u 1)]
  | 0x2200 => [ro 0 0 (.u 1), ro 1 11 (.i 4)]
  | 0x2201 => [ro 0 0 (.u 1), ro 1 1 .bool, ro 2 2 (.u 4), ro 3 3 (.u 2), ro 4 4 (.i 4), ro 5 5 (.u 4), ro 6 6 (.u 2)]
  | 0x2210 => [ro 0 2 (.u 1), ro 3 3 (.u 4), ro 4 5 (.u 1), ro 6 7 (.u 4), cmd 8 8 (.u 1)]
  | 0x2220 => [ro 0 0 (.u 1), rw_ 1 1 (.u 1) 100, ro 2 2 (.i 4), ro 3 3 (.u 1)]
  | 0x2600 => [ro 0 3 (.u 1), ro 4 4 (.u 8), ro 5 5 (.u 1)]
  | 0x3000 => [ro 0 0 (.u 1), rs 1 1 (.u 1) 0, ro 2 2 (.u 1), cmd 3 3 (.u 1), rw_ 4 4 (.u 4) 0, rw_ 5 5 (.u 2) 24, ro 6 9 (.u 8)]
  | 0x3010 => [ro 0 0 (.u 1), ro 1 4 (.u 4), ro 5 5 (.u 1)]
  | 0x3030 => [ro 0 0 (.u 1), ro 1 2 (.u 4), ro 3 4 (.u 8)]
  | 0x3031 => [ro 0 0 (.u 1), ro 1 0x44 (.u 4)]
  | 0x3040 => [ro 0 0 (.u 1), cmd 1 1 (.u 4), ro 2 2 (.u 1), rw_ 3 3 (.u 1) 3, rw_ 4 4 (.u 2) 1024, ro 5 8 (.u 4)]
  | 0x3050 => [ro 0 0 (.u 1), rs 1 1 (.u 4) 0x370, rs 2 2 (.u 4) 0x371, rs 3 3 (.u 4) 0x372, rs 4 4 (.u 4) 0x373,
               rs 5 5 (.u 4) 0x374, rs 6 6 (.u 4) 0x375, rs 7 7 (.u 4) 0x376, rs 8 8 (.u 4) 0x500, rs 9 9 (.u 1) 4,
               ro 10 10 (.u 1), cmd 11 11 (.u 4), ro 12 12 (.u 8), ro 13 13 (.u 4)]
  | 0x4000 => [ro 0 0 (.u 1), own 1 1 (.u 2) 0, ro 2 2 (.u 4), ro 3 3 (.u 2), ro 4 4 (.u 1), ro 5 5 .domain]
  | 0x4080 => [ro 0 0 (.u 1), cmd 1 1 (.u 8), ro 2 2 (.u 4)]
  | 0x5000 => [ro 0 0 (.u 1), rs 1 1 .bool 1, rs 2 2 (.u 2) 200, cmd 3 3 (.u 8), ro 4 4 (.u 4), ro 5 7 (.u 8)]
  | 0x5100 => [ro 0 0 (.u 1), wo 1 2 .domain, rw_ 3 3 (.u 1) 0, ro 4 4 (.u 1)]
  | 0x5400 => [ro 0 0 (.u 1), ro 1 1 .domain, ro 2 2 (.u 2), cmd 3 3 (.u 1), ro 4 4 (.u 4)]
  | 0x5600 => [ro 0 0 (.u 1), ro 1 6 (.u 4), ro 7 7 (.u 8), ro 8 8 (.u 4)]
  | 0x5800 => [ro 0 0 (.u 1), ro 1 1 (.u 4), ro 2 2 (.u 8), ro 3 3 (.u 4)]
  | 0xA010 => [ro 0 0 (.u 1), wo 1 1 .domain, cmd 2 3 (.u 2), ro 4 4 (.u 4), own 5 5 (.u 2) 0, ro 6 6 .domain, ro 7 7 (.u 4)]
  | 0xA012 => [ro 0 0 (.u 1), rw_ 1 1 .domain 0]
  | 0xA020 => [ro 0 0 (.u 1), own 1 1 (.u 4) 0, rs 2 2 .domain 0, ro 3 3 .domain, ro 4 4 (.u 4)]
  | 0xA021 => [ro 0 0 (.u 1), rs 1 1 .domain 0]
  | 0xA030 => [ro 0 0 (.u 1), ro 1 2 .domain]
  | 0xA040 => [ro 0 0 (.u 1), wo 1 1 .domain, own 2 2 (.u 2) 0, ro 3 4 (.u 8)]
  | 0xA050 => [ro 0 0 (.u 1), rw_ 1 1 .domain 0]
  | _ => []

/-- Table 13-12, port p at 0x1100 + p. Defaults of address objects that depend on the module are given by `ipv4Default` and
`ipv6Default`. -/
def portRows : List Row :=
  [ro 0 1 (.u 1), rw_ 2 2 (.u 1) 0, ro 3 3 (.u 8), rw_ 4 4 (.u 4) 0, rw_ 5 5 (.u 1) 16, rw_ 6 6 .domain 0, rw_ 7 7 (.u 2) 0,
   rw_ 8 8 (.u 2) 1500, rw_ 9 9 (.u 2) 47800, ro 10 11 (.u 4)]

/-- The object table of an index (Tables 12-1 and 12-2); empty: not implemented. -/
def rowsOf (index : Nat) : List Row :=
  if 0x6000 ≤ index && index < 0x8000 then engineRows ((index - 0x6000) / 0x80) ((index - 0x6000) % 0x80)
  else if 0x8000 ≤ index && index < 0xA000 then channelRows ((index - 0x8000) % 0x80)
  else if 0x1100 ≤ index && index < 0x1102 then portRows
  else if 0x3020 ≤ index && index < 0x3026 then
    [ro 0 3 (.u 1), ro 4 4 (.i 4), ro 5 5 (.u 4), ro 6 6 (.u 8), ro 7 9 (.u 4), cmd 10 10 (.u 1), ro 11 12 .domain, ro 13 13 (.u 8),
     ro 14 14 (.u 4), ro 15 15 (.u 8), ro 16 16 (.u 4)]
  else if 0x3100 ≤ index && index < 0x3180 then
    [ro 0 0 (.u 1), rs 1 1 (.u 1) (ownerDefault (index - 0x3100)), rs 2 2 (.u 1) 0, ro 3 4 (.u 1), ro 5 5 (.u 4), ro 6 6 (.u 1),
     ro 7 8 (.u 4), ro 9 9 (.u 1)]
  else if 0x4010 ≤ index && index < 0x4030 then
    [ro 0 0 (.u 1), rs 1 1 (.u 1) 2, rs 2 2 (.u 2) 40, rs 3 4 (.u 4) slotDefault, ro 5 5 .bool, ro 6 7 (.u 4)]
  else if 0x4040 ≤ index && index < 0x4080 then
    [ro 0 0 (.u 1), rs 1 1 (.u 4) 0, rs 2 2 (.u 4) 400, rs 3 4 (.u 4) 1, rs 5 5 (.u 4) 0, rs 6 9 (.u 4) slotDefault,
     ro 10 10 (.u 1), ro 11 15 (.u 4)]
  else if 0x4090 ≤ index && index < 0x40D0 then [ro 0 0 (.u 1), rs 1 2 (.u 4) slotDefault, ro 3 4 (.u 4)]
  else deviceRows index

/-- The row that holds a subindex. -/
def rowAt (sub : Nat) : List Row → Option Obj
  | [] => none
  | r :: t => if r.lo ≤ sub && sub ≤ r.hi then some r.obj else rowAt sub t

/-- The object at index:subindex; none: not implemented (R317). -/
def object (index sub : Nat) : Option Obj := rowAt sub (rowsOf index)

/-- Default of an RS or RW object (R8). -/
def objDefault (index sub : Nat) : Nat := match object index sub with | some o => o.dflt | none => 0

/-- Is an object of this index in the mooring dictionary (R484)? -/
def inMooringDict (index : Nat) : Bool :=
  index == 0x1000 || (0x1100 ≤ index && index ≤ 0x15FF) || (0x2200 ≤ index && index ≤ 0x2220) || index == 0x5100 || index == 0x5400 ||
  index == 0x5800

/-- Bytes of a type (R318); 0: not fixed. -/
def tySize : Ty → Nat
  | .bool => 1
  | .u n => n
  | .i n => n
  | .str => 0
  | .domain => 0

/-! ### Engines, channels and lines of the dictionary (R316) -/

def engIdx (e off : Nat) : Nat := 0x6000 + e * 0x80 + off
def chIdx (c off : Nat) : Nat := 0x8000 + c * 0x80 + off

/-- The block index of pulse line `p`. -/
def lineIdx (p : Nat) : Nat := chIdx (p / 4) (0x30 + p % 4)

/-- The block index of the dead-time pair of line `p` (A/B: +0x34, C/D: +0x35). -/
def pairIdx (p : Nat) : Nat := chIdx (p / 4) (0x34 + p % 4 / 2)

/-- The block index of comparator `j`. -/
def cmpIdx (j : Nat) : Nat := chIdx (j / 4) (0x12 + j % 4)

/-- Value of a copy. -/
def copyVal (t : Tbl Nat) (index sub : Nat) : Nat := tget (objDefault index sub) (key index sub) t

/-- Active copy of an RS object. -/
def State.act (s : State) (index sub : Nat) : Nat := copyVal s.dev.dict.active index sub

/-- Staged copy of an RS object. -/
def State.stg (s : State) (index sub : Nat) : Nat := copyVal s.dev.dict.staged index sub

/-- Current value of a device-wide RW object. -/
def State.rwv (s : State) (index sub : Nat) : Nat := tget (objDefault index sub) (key index sub) s.dev.dict.rw

/-- A session's own value of a per-session RW object. -/
def Session.val (x : Session) (index sub : Nat) : Nat := tget (objDefault index sub) (key index sub) x.vals

/-- A copy with one object set; a value equal to the default leaves no entry. -/
def putVal (index sub v : Nat) (t : Tbl Nat) : Tbl Nat :=
  if v = objDefault index sub then terase (key index sub) t else tset (key index sub) v t

/-- The addresses of a port, whose defaults depend on the module: their entries say that they have been written. -/
def addressKey (k : Nat) : Bool := k / 512 == 0x880 && (k % 256 == 4 || k % 256 == 6)

/-- The mark of an address that has not been written. (DEDUCED, log 42.) -/
def unwritten : Nat := 2 ^ 128

/-- The RW values with the object of key `k` at `v`. (DEDUCED, log 42.) -/
def putRw (k v : Nat) (t : Tbl Nat) : Tbl Nat :=
  if addressKey k then (if v = unwritten then terase k t else tset k v t) else putVal (k / 256) (k % 256) v t

/-! ### Addresses of the ports (Table 13-12) -/

/-- The default IPv4 address of port `p` (Table 13-12). (DEDUCED, log 42.) -/
def ipv4Default (s : State) (p : Nat) : Nat := 0xA9FE5800 + 10 + 2 * s.dev.ring.devpos + p

/-- The IPv6 address of port `p`: fe80:: with the EUI-64 of `MAC_ADDR`, until one is written (Table 13-12), first byte lowest.
(DEDUCED, log 42.) -/
def ipv6Default (p : Nat) : List Byte :=
  let m := (leBytes 6 (Config.macAddr p)).reverse
  [0xFE, 0x80, 0, 0, 0, 0, 0, 0] ++ ((m.take 1).map fun b => b ^^^ 2) ++ (m.drop 1).take 2 ++ [0xFF, 0xFE] ++ m.drop 3

def ipv6Addr (s : State) (p : Nat) : List Byte :=
  match s.dev.dict.rw.find? fun x => x.1 == key (0x1100 + p) 6 with
  | some x => leBytes 16 x.2
  | none => ipv6Default p

/-- The settings of port `p` as the dictionary, and NVM, hold them (R343). -/
def portCfgOf (s : State) (p : Nat) : PortCfg :=
  let v := s.rwv (0x1100 + p)
  { speedSel := v 2, ipv4 := tget (ipv4Default s p) (key (0x1100 + p) 4) s.dev.dict.rw, prefix4 := v 5, ipv6 := ipv6Addr s p, vlan := v 7,
    mtu := v 8, udp := v 9 }

/-! ### Output grids (R114, R331) -/

/-- Grid period in ECLK of a grid rate code (Table 4-1); reserved codes never become active. -/
def gridOf (code : Nat) : Nat := 20 * 2 ^ (code % 8)

/-- G of quay `q` under the active `GRID_RATE`. -/
def State.grid (s : State) (q : Nat) : Nat := gridOf (s.act 0x2010 (q + 1))

/-- G of the quay of engine or channel `e`. -/
def State.gridE (s : State) (e : Nat) : Nat := s.grid (e / 8)

/-- The first tick of the quay of engine `e` whose edge is at least `n`. -/
def State.tickAt (s : State) (e n : Nat) : Nat := alignUp (s.gridE e) n

/-- The first tick of that quay on a 1 µs boundary at or after `n` (R102). -/
def State.usTick (s : State) (e n : Nat) : Nat := alignUp (Nat.lcm 400 (s.gridE e)) n

/-- The greatest grid period of the module's quays under the active `GRID_RATE`. -/
def slowestGrid (s : State) : Nat := (List.range 8).foldl (fun a q => max a (s.grid q)) 0

/-- Every multiple is a 1 µs boundary and a tick of every quay of grid period up to `g` (R331). -/
def commitGrid (g : Nat) : Nat := Nat.lcm 400 g

/-! ### Step entries (Table 3-1) -/

/-- Word k of the step entry at absolute index `i`. -/
def stepWord (m : Mem) (i k : Nat) : Nat := mval (64 * i + 4 * k) 4 m

/-- The step entry at absolute index `i`. -/
def entryAt (m : Mem) (i : Nat) : Entry :=
  let w0 := stepWord m i 0
  let w1 := stepWord m i 1
  let w2 := stepWord m i 2
  { segment := bits w0 15 0, endAction := bits w0 19 16, markers := bits w0 23 20, waitSel := bits w0 27 24, jumpMap := bits w0 31 28,
    rep := bits w1 23 0, loopSel := bits w1 25 24, loopOp := bits w1 27 26, trans := bits w1 28 28, phaseMode := bits w1 30 29,
    scaleEn := bit w1 31, next := bits w2 18 0, rateEn := bit w2 19, fundEn := bit w2 20, branch := bits (stepWord m i 3) 18 0,
    loopValue := bits (stepWord m i 4) 23 0,
    inc := stepWord m i 5 + 2 ^ 32 * bits (stepWord m i 6) 15 0,
    fund := stepWord m i 7 + 2 ^ 32 * bits (stepWord m i 8) 15 0,
    phase := stepWord m i 9, start := stepWord m i 10, scale := toInt 24 (bits (stepWord m i 11) 23 0),
    offset := toInt 24 (bits (stepWord m i 12) 23 0), tag := stepWord m i 13 }

/-- Does a reserved field of the entry hold a nonzero value (R10)? -/
def entryReserved (m : Mem) (i : Nat) : Bool :=
  bits (stepWord m i 2) 31 21 != 0 || bits (stepWord m i 3) 31 19 != 0 || bits (stepWord m i 4) 31 24 != 0 ||
  bits (stepWord m i 6) 31 16 != 0 || bits (stepWord m i 8) 31 16 != 0 || bits (stepWord m i 11) 31 24 != 0 ||
  bits (stepWord m i 12) 31 24 != 0 || stepWord m i 14 != 0 || stepWord m i 15 != 0

/-- `PART_BASE` and `PART_SIZE` of engine `e` in a copy. -/
def partBase (t : Tbl Nat) (e : Nat) : Nat := copyVal t (engIdx e 1) 1
def partSize (t : Tbl Nat) (e : Nat) : Nat := copyVal t (engIdx e 1) 2

/-- The active entry of step `i` of engine `e`, counted from its partition base (R68). -/
def State.entry (s : State) (e i : Nat) : Entry := entryAt s.dev.dict.stepsActive (partBase s.dev.dict.active e + i)

/-! ### Jump targets and maps (R88, R89) -/

/-- Jump target word k of engine `e`. -/
def targetWord (t : Tbl Nat) (e k : Nat) : Nat := copyVal t (engIdx e 3) (k + 1)
def targetEn (w : Nat) : Bool := bit w 31
def targetStep (w : Nat) : Nat := bits w 18 0

/-- `UNDERRUN_TARGET` of engine `e`. -/
def underrunTarget (t : Tbl Nat) (e : Nat) : Nat := copyVal t (engIdx e 3) 17

/-- Jump map m of engine `e` (Table 3-7). -/
def mapWord (t : Tbl Nat) (e m : Nat) : Nat := copyVal t (engIdx e 4) (m + 1)
def mapTarget (w k : Nat) : Nat := w / 2 ^ (6 * k) % 16
def mapAtEnd (w k : Nat) : Bool := bit w (6 * k + 4)
def mapEn (w k : Nat) : Bool := bit w (6 * k + 5)

/-! ### Slot words (Table 9-4) and consumer inputs (Table 9-3) -/

def slotSel (w : Nat) : Nat := bits w 10 0
def slotEn (w : Nat) : Bool := bit w 11
def slotLim (w : Nat) : Bool := bit w 12
def slotSpacing (w : Nat) : Nat := bits w 31 16

/-- Index and subindex of slot A of consumer input `i` (R251, R266, R267); slot B is the next subindex. -/
def slotObj (i : Nat) : Nat × Nat :=
  if i < 768 then (engIdx (i / 12) 8, 2 * (i % 12) + 1)
  else if i < 1024 then (chIdx ((i - 768) / 4) 0x37, 2 * ((i - 768) % 4) + 1)
  else if i < 1056 then (0x4010 + (i - 1024), 3)
  else if i < 1120 then (0x4040 + (i - 1056), 6)
  else if i < 1184 then (0x4040 + (i - 1120), 8)
  else (0x4090 + (i - 1184), 1)

/-- Slot word A (0) or B (1) of input `i` in a copy. -/
def slotWord (t : Tbl Nat) (i ab : Nat) : Nat := copyVal t (slotObj i).1 ((slotObj i).2 + ab)

/-- Does the slot deliver an event of line asserted one edge ago? -/
def slotHit (s : State) (w : Nat) : Bool := slotEn w && s.now > 0 && lineAt s (s.now - 1) (slotSel w)

/-- The limiter of a slot (R254): does it pass an event registered at edge `n`, the slot having passed its last at `last`? -/
def limiterPasses (w n : Nat) (last : Option Nat) : Bool :=
  !slotLim w || (match last with | none => true | some l => l == n || l + slotSpacing w ≤ n)

/-- Consumer input `i` registers at the edge of the step (R250, R254, R255): the state with its limiter histories and counters,
and whether one event is registered. (DEDUCED, log 5.) -/
def registerInput (i : Nat) (s : State) : State × Bool :=
  let x := s.input i
  if x.lastReg = some s.now then (s, false) else
  let wa := slotWord s.dev.dict.active i 0
  let wb := slotWord s.dev.dict.active i 1
  let ha := slotHit s wa
  let hb := slotHit s wb
  let pa := ha && limiterPasses wa s.now x.lastA
  let pb := hb && limiterPasses wb s.now x.lastB
  if !ha && !hb then (s, false) else
  (modInput i (fun _ => {
      lastA := if pa then some s.now else x.lastA,
      lastB := if pb then some s.now else x.lastB,
      coalesce := if pa && pb then sat32 (x.coalesce + 1) else x.coalesce,
      drops := sat32 (x.drops + b2n (ha && !pa) + b2n (hb && !pb)),
      lastReg := some s.now }) s, pa || pb)

/-- Would input `i` register an event at the edge of the step, or has it? Reads the state only. -/
def inputEvent (s : State) (i : Nat) : Bool :=
  let x := s.input i
  let wa := slotWord s.dev.dict.active i 0
  let wb := slotWord s.dev.dict.active i 1
  (slotHit s wa && limiterPasses wa s.now x.lastA) || (slotHit s wb && limiterPasses wb s.now x.lastB)

end Sys2Proof.Machine
end

