-- ==== Sys2Proof/Machine/Reach.lean ====
section
/-! DEFINITION. Configured engines and reachable step entries (R59) of a copy of the step table and of the objects. -/

namespace Sys2Proof.Machine

/-- Steps by absolute index that were written and made active since the start, or, during a check, are staged (R59). -/
def writtenIn (s : State) (check : Bool) (b n : Nat) : Bool :=
  s.dev.dict.stepWritten.any (fun i => b ≤ i && i < b + n) || (check && s.dev.dict.stepChanged.any fun i => b ≤ i && i < b + n)

/-- Is engine `e` configured in copy `t` (R59)? -/
def configuredIn (s : State) (t : Tbl Nat) (check : Bool) (e : Nat) : Bool :=
  16 ≤ partSize t e && writtenIn s check (partBase t e) (partSize t e)

/-- The successor fields that an END_ACTION uses. -/
def successors (en : Entry) : List Nat :=
  if en.endAction = 0 || en.endAction = 2 || en.endAction = 5 then [en.next]
  else if en.endAction = 1 then [en.next, en.branch] else []

/-- The entry points of engine `e`: the start step, the steps of the enabled targets, and that of the target that
`UNDERRUN_TARGET` names. -/
def entryPoints (t : Tbl Nat) (e : Nat) : List Nat :=
  let ks := (List.range 16).filter fun k => targetEn (targetWord t e k)
  copyVal t (engIdx e 0) 4 :: ks.map (fun k => targetStep (targetWord t e k)) ++
  (if underrunTarget t e < 16 then [targetStep (targetWord t e (underrunTarget t e))] else [])

/-- The closure of `todo` under the successor relation: `fuel` entries at most, steps outside the partition are not followed. -/
def reachFrom (m : Mem) (base size : Nat) : Nat → List Nat → List Nat → List Nat
  | 0, _, seen => seen
  | _, [], seen => seen
  | f + 1, i :: r, seen =>
    if size ≤ i || seen.contains i then reachFrom m base size f r seen
    else reachFrom m base size f (successors (entryAt m (base + i)) ++ r) (i :: seen)

/-- Reachable steps of engine `e`, counted from its partition base. Each entry is expanded once and adds at most two. -/
def reachableSteps (t : Tbl Nat) (m : Mem) (e : Nat) : List Nat :=
  reachFrom m (partBase t e) (partSize t e) (3 * partSize t e + 40) (entryPoints t e) []

/-- The recovery set (R162): steps reachable from `UNDERRUN_TARGET` by NEXT. -/
def recoveryFrom (m : Mem) (base size : Nat) : Nat → Nat → List Nat → List Nat
  | 0, _, seen => seen
  | f + 1, i, seen =>
    if size ≤ i || seen.contains i then seen
    else
      let en := entryAt m (base + i)
      if (successors en).isEmpty then i :: seen else recoveryFrom m base size f en.next (i :: seen)

def recoverySteps (t : Tbl Nat) (m : Mem) (e : Nat) : List Nat :=
  if underrunTarget t e < 16 then
    recoveryFrom m (partBase t e) (partSize t e) (partSize t e) (targetStep (targetWord t e (underrunTarget t e))) []
  else []

/-- Is engine `e` configured in the active copies (R100)? -/
def configured (s : State) (e : Nat) : Bool := configuredIn s s.dev.dict.active false e

/-- Is step `k` of engine `e` reachable in the active step table? -/
def reachable (s : State) (e k : Nat) : Bool :=
  configured s e && (reachableSteps s.dev.dict.active s.dev.dict.stepsActive e).contains k

/-! ### The step cache (R72) -/

/-- Steps resident at all times: those of the enabled jump targets and of the target that `UNDERRUN_TARGET` names. -/
def residentSteps (t : Tbl Nat) (e : Nat) : List Nat :=
  let ks := (List.range 16).filter fun k => targetEn (targetWord t e k) || k == underrunTarget t e
  (ks.map fun k => targetStep (targetWord t e k)).eraseDups

/-- Steps at most `k` transitions beyond the steps of `l` along NEXT and BRANCH. -/
def stepsAhead (m : Mem) (base size : Nat) : Nat → List Nat → List Nat
  | 0, _ => []
  | k + 1, l =>
    let n := ((l.flatMap fun i => successors (entryAt m (base + i))).filter (· < size)).eraseDups
    n ++ stepsAhead m base size k n

/-- The 64 entries that the cache of engine `e` holds in step `k`. -/
def cacheFor (s : State) (e k : Nat) : StepCache :=
  let t := s.dev.dict.active
  let r := residentSteps t e
  let a := (k :: stepsAhead s.dev.dict.stepsActive (partBase t e) (partSize t e) 4 [k]).eraseDups.filter fun i => !r.contains i
  { resident := r, ahead := a.take (64 - r.length) }

/-- The cache of engine `e` follows its current step and the active copies. -/
def fetchSteps (e : Nat) (s : State) : State := modCore e (fun c => { c with cache := cacheFor s e c.play.step }) s

end Sys2Proof.Machine
end

