-- ==== Sys2Proof/Machine/Renumber.lean ====
section
/-! DEFINITION. How N takes a new value at an edge (R288, R303): the edge that was going to be `old` is `new`. Counts of edges that run
across it stay exact, so every stored edge moves with N; what lies on a grid, on a 1 µs boundary or on a slot falls in the new numbering. -/

namespace Sys2Proof.Machine

/-- Edge `e` in the new numbering: the same count of edges from the edge that moves. -/
def moved (old new e : Nat) : Nat := e + new - old

/-- Instant `i`, in taps, in the new numbering. -/
def movedTap (old new i : Nat) : Nat := i + 64 * new - 64 * old

/-- The first tick of a grid of period `g` of the new numbering at or after edge `e` and not before the edge that moves, which is a tick of every
grid. -/
def movedTick (g old new e : Nat) : Nat := alignUp g (max new (moved old new e))

/-- Requests of an engine that wait for a tick of a quay of period `g`. One whose earliest edge the state holds, 16 ECLK after the registering
edge, takes the first tick of the restarted grid from there; the others take the first one from their former tick. (DESIGN CHOICE, log 20.) -/
def movedPend (g o n : Nat) (p : EngPend) : EngPend :=
  let f := movedTick g o n
  { p with
    atEnd := p.atEnd.map fun j => { j with q := moved o n j.q }, jump := p.jump.map fun j => { j with q := f j.q },
    release := p.release.map f, start := p.start.map f, hold := p.hold.map f, unhold := p.unhold.map f, abort := p.abort.map f,
    rate := p.rate.map fun q => (f (q.2 + 16), moved o n q.2), underrun := p.underrun.map fun u => (f u.1, u.2), decisions := [], fresh := none,
    cmds := p.cmds.map fun k => { k with tick := movedTick (Nat.lcm 400 g) o n k.from_, from_ := moved o n k.from_ } }

/-- An engine of a quay of period `p`. -/
def movedEngine (p o n : Nat) (g : Engine) : Engine :=
  { g with
    core := { g.core with
      pend := movedPend p o n g.core.pend, lastTick := none, armedAt := moved o n g.core.armedAt,
      play := { g.core.play with formed := none, reentry := g.core.play.reentry.map (moved o n),
                                 firstAt := g.core.play.firstAt.map (moved o n) },
      src := { g.core.src with nextRead := g.core.src.nextRead.map (moved o n) } },
    takeover := g.takeover.map fun k => { k with f := moved o n k.f, tr := movedTick p o n (k.f + 12000), tc := moved o n k.tc, boundAt := moved o n k.boundAt },
    checkpoints := g.checkpoints.map fun c => { c with edge := moved o n c.edge },
    log := g.log.map fun e => (moved o n e.1, e.2) }

def movedLine (o n : Nat) (l : Line) : Line :=
  let f := movedTap o n
  { l with
    tickAt := moved o n l.tickAt, perStart := f l.perStart, evAt := f l.evAt, queue := l.queue.map fun q => (f q.1, q.2),
    lastEdge := l.lastEdge.map f, pat := l.pat.map fun r => { r with start := f r.start }, patDue := l.patDue.map f,
    shot := l.shot.map fun x => (f x.1, f x.2) }

/-- An output of a quay of period `p`. -/
def movedOut (p o n : Nat) (x : Out) : Out :=
  { x with
    seq := x.seq.map fun q => { q with start := moved o n q.start },
    rangeSwitchAt := x.rangeSwitchAt.map fun q => (moved o n q.1, q.2), restartAt := x.restartAt.map fun _ => movedTick (Nat.lcm 400 p) o n x.restartFrom, restartFrom := moved o n x.restartFrom,
    blankEnd := x.blankEnd.map (moved o n), parkEdge := moved o n x.parkEdge, supFrom := moved o n x.supFrom,
    parkDue := x.parkDue.map fun k => (moved o n k.1, k.2) }

/-- A monitor slot to come is one of the new numbering. -/
def movedSense (o n : Nat) (x : Sense) : Sense :=
  { x with
    arms := x.arms.map fun a => (a.1, alignUp 200 (moved o n a.2)), edges := x.edges.map fun a => (a.1, moved o n a.2),
    conv := x.conv.map fun c => { c with at_ := moved o n c.at_ } }

def movedFabric (o n : Nat) (f : Fabric) : Fabric :=
  let m := moved o n
  { f with
    sched := f.sched.map fun x => (m x.1, x.2),
    inputs := f.inputs.map fun (k, x) => (k, { x with lastA := x.lastA.map m, lastB := x.lastB.map m, lastReg := x.lastReg.map m }),
    trigs := f.trigs.map fun (k, x) => (k, { x with inputAt := x.inputAt.map m, pulseEnd := x.pulseEnd.map m, pulseFrom := x.pulseFrom.map m }),
    timers := f.timers.map fun (k, x) => (k, { x with x := m x.x }), 
    sw := f.sw.map fun w => { w with at_ := movedTick 400 o n w.from_, from_ := moved o n w.from_ } }

/-- A commit tick given by epoch count or 1 µs alignment falls in the new numbering, one given by PTP time at the same instant (Table 10-8). `g`: the
grid of commit ticks; `r`: the ring commit. -/
def movedCommit (g o n : Nat) (r : RingCommit) (c : Commit) : Commit :=
  let byRing := r.st == 2 || r.st == 3
  let t := if (if byRing then r.whenSel else c.reqWhen) = 2 then c.tickN
    else if byRing then movedTick g o n c.tickN
    else if c.reqWhen = 1 then moved o n c.tickN
    else movedTick g o n c.earliest
  { c with
    reqAt := moved o n c.reqAt, okAt := moved o n c.okAt, earliest := moved o n c.earliest, tickN := if c.st = 2 then t else c.tickN }

def movedLink (o n : Nat) (l : Link) : Link :=
  let m := moved o n
  let v := fun (x : View) => { x with lastRead := m x.lastRead }
  { l with sessions := l.sessions.map fun (k, x) => (k, { x with
      lastFrame := m x.lastFrame, timersAt := x.timersAt.map m, notices := x.notices.map fun a => { a with sent := a.sent.map fun q => (q.1, m q.2.1, q.2.2) },
      view0 := v x.view0, view1 := v x.view1, view2 := v x.view2, view3 := v x.view3,
      transfers := x.transfers.map fun a => { a with lastAccepted := m a.lastAccepted, lastAdvance := m a.lastAdvance } }) }

/-- The edge that was going to be `o` is `n`. The state is as of that edge. -/
def renumber (o n : Nat) (s : State) : State :=
  let m := moved o n
  let d := s.dev
  { s with
    link := movedLink o n s.link,
    dev := { d with
      clock := { d.clock with
        n := n, realign := false, syncOffset := 0, lastSync := d.clock.lastSync.map m, holdFrom := m d.clock.holdFrom },
      dict := { d.dict with commit := movedCommit (commitGrid (slowestGrid s)) o n d.ring.commit d.dict.commit },
      engines := d.engines.map fun (k, x) => (k, movedEngine (s.gridE k) o n x),
      lines := d.lines.map fun (k, x) => (k, movedLine o n x),
      outs := d.outs.map fun (k, x) => (k, movedOut (s.gridE k) o n x),
      cmps := d.cmps.map fun (k, x) => (k, { x with armFrom := m x.armFrom, thChanged := x.thChanged.map m, seenAt := x.seenAt.map m }),
      senses := d.senses.map fun (k, x) => (k, movedSense o n x),
      fabric := movedFabric o n d.fabric,
      ring := { d.ring with
        window := n / 16, rx := d.ring.rx.map fun r => (m r.1, m r.2.1, r.2.2),
        commit := { d.ring.commit with preparedAt := m d.ring.commit.preparedAt } },
      scratch := { d.scratch with
        banks := d.scratch.banks.map fun (k, x) => (k, { x with lastAccess := m x.lastAccess, faultNotice := x.faultNotice.map m }),
        march := d.scratch.march.map fun r => { r with window := r.window.map m, releasedAt := m r.releasedAt } },
      dram := { d.dram with chans := d.dram.chans.map fun (k, x) => (k, { x with frozenAt := m x.frozenAt }) },
      cals := d.cals.map fun (k, x) => (k, { x with
        pass := x.pass.map fun p => { p with start := m p.start, done := p.done.map m }, dueAt := x.dueAt.map m }),
      faults := { d.faults with lastRequest := m d.faults.lastRequest, recovering := d.faults.recovering.map fun r => (m r.1, r.2) },
      power := { d.power with
        braceAt := m d.power.braceAt, clearAt := d.power.clearAt.map m, startAt := m d.power.startAt,
        restart := d.power.restart.map fun r => (m r.1, r.2), analogAt := d.power.analogAt.map m } } }

end Sys2Proof.Machine
end

