-- ==== Sys2Proof/Machine/Time.lean ====
section
/-! DEFINITION. The passing of time: what a command's edge brings with it before the command acts, hard parks that fall due among it
(chapters 7 and 10). -/

namespace Sys2Proof.Machine

/-! ### Hard parks (R213, R214, R218, R221, R223) -/

/-- Active mode and range of channel `c`. -/
def activeMode (s : State) (c : Nat) : Nat := s.act (chIdx c 0) 2
def activeRange (s : State) (c : Nat) : Nat := s.act (chIdx c 0) 3

/-- A park ends the sequence in progress; the range elements of a range change not yet at ECLK +2,000 still switch there (R218). -/
def abandonSeq (n c : Nat) (s : State) : State :=
  match (s.out c).seq with
  | some q =>
    if q.kind == .rangeChange && n < q.start + 2000 then
      modOut c (fun o => { o with seq := none, rangeSwitchAt := some (q.start + 2000, q.mode, q.range) }) s
    else modOut c (fun o => { o with seq := none, rangePending := o.rangeSwitchAt.isSome }) s
  | none => s

/-- The newest committed mode and range of a channel whose sequence a park has ended are switched in (R217, R218). -/
def settleRange (c : Nat) (s : State) : State :=
  let m := activeMode s c
  let r := activeRange s c
  modOut c (fun o => if o.rangeNext && o.rangeSwitchAt.isNone then { o with modeIn := m, rangeIn := r, rangeNext := false } else o) s

/-- A hard park at edge `n` (R213, R214, R218, R223). A channel already parked is not parked again, but for the loss of its engine.
(DEDUCED, log 19.) -/
def hardPark (n c cause : Nat) (s : State) : State :=
  let o := s.out c
  if o.parkCause != 0 && o.parkEdge = n then modOut c (fun o => { o with parkCause := max o.parkCause cause }) s
  else if o.parkCause != 0 && o.seq.isNone then
    if cause = 4 then modOut c (fun o => { o with parkCause := 4, parkEdge := n }) s else s
  else
    settleRange c (modOut c (fun o => { o with
      parkSwitch := true, amp := false, enabled := false, parkCause := cause, parkEdge := n, restartAt := none }) (abandonSeq n c s))

/-- A hard park of channel `c` at edge `n` to come; of two at one edge the higher cause counts (R213, R223). -/
def parkAt (n c cause flag : Nat) : State → State := modOut c fun o =>
  { o with parkDue := match o.parkDue with
      | some (e, k, f) => if e = n && cause ≤ k then some (e, k, f) else some (n, cause, flag)
      | none => some (n, cause, flag) }

/-- The hard park that channel `c` awaits takes effect. -/
def takePark (c : Nat) (s : State) : State :=
  let o := s.out c
  let s := modOut c (fun o => { o with parkDue := none }) s
  match o.parkDue with
  | some (e, k, f) =>
    if o.lost then s
    else
      let s := hardPark e c k s
      if (s.out c).parkEdge = e && (s.out c).parkCause = 3 then modOut c (fun o => { o with parkFlag := f }) s else s
  | none => s

/-- Channels whose hard park falls due by edge `n`. -/
def parksDue (n : Nat) (s : State) : List Nat := (s.dev.outs.filter fun x => x.2.parkDue.any (·.1 ≤ n)).map Prod.fst

/-! ### Time -/

/-- The watch of SYNC at a start, 5 ms in ECLK (R270). -/
def watchEdges : Nat := 2000000

/-- The quays of which a tick lies at or after edge `a` and before edge `b`. -/
def ticksPassed (a b : Nat) (s : State) : List Nat :=
  if b ≤ a then [] else (List.range 8).filter fun q => a ≤ (b - 1) / s.grid q * s.grid q

/-- Time goes beyond the edge of the step to edge `n`: what the module is now is what it was at the latest tick of each quay that passes (R279). -/
def keepTicks (n : Nat) (s : State) : State :=
  { s with ticked := (ticksPassed s.now n s).foldl (fun t q => tset q s.dev t) s.ticked }

/-- Time reaches edge `n`: the time counter advances by its rate word at every ECLK edge (R282), and assertions that no
registration can see any more are only counted. -/
def clockTo (n : Nat) (s : State) : State :=
  let s := keepTicks n s
  let (sched, counts) := countDue (n - 1) s.dev.fabric.sched s.dev.fabric.counts
  modDev (fun d => { d with
    clock := { d.clock with n := n, timeAcc := d.clock.timeAcc + d.clock.timeRate * (n - d.clock.n) },
    fabric := { d.fabric with sched := sched, counts := counts } }) s

/-- The edges by `n` at which hard parks fall due, in order. -/
def parkEdges (n : Nat) (s : State) : List Nat :=
  s.dev.outs.foldl (fun l x => match x.2.parkDue with
    | some (e, _, _) => if e ≤ n then insertNat e l else l
    | none => l) []

/-- Time reaches edge `t`, and the hard parks due by then have taken effect, each at its edge. A command whose edge has passed happens at the
latest edge. -/
def advanceTo (t : Nat) (s : State) : State :=
  let n := max s.now t
  let s := forAll (parkEdges n s) (fun e s => forAll (parksDue e s) takePark (clockTo (max s.now e) s)) s
  clockTo n s

/-- Time reaches edge `t`. At the epoch edge of an accepted realignment N takes the next multiple of 400,000 (R288), and `t` is an edge of the
numbering that then holds; at the epoch edge of a start N is 0 (R270, R271). (DESIGN CHOICE, log 1, log 60.) -/
def advance (t : Nat) (s : State) : State :=
  match s.dev.clock.numbering with
  | .plain => advanceTo t s
  | .realign e =>
    if t < e then advanceTo t s
    else advanceTo t (modClock (fun c => { c with numbering := .plain }) (renumber e (alignUp 400000 e) (advanceTo e s)))
  | .watch lock _ epoch =>
    match epoch with
    | none => advanceTo t s
    | some e =>
      if t < e then advanceTo t s
      else advanceTo (t - e) (modClock (fun c => { c with numbering := .started lock e 0, epochSet := true }) (renumber e 0 (advanceTo e s)))
  | .started _ e base => advanceTo (t + base - e) s

/-- A meaning: time reaches `t`, then `f` happens. (DESIGN CHOICE, log 1.) -/
def atEdge (t : Nat) (f : State → State) (s : State) : Host.Outcome State Fault Refusal := .next (f (advance t s))

/-- `f` where the condition holds; otherwise the event does not occur. (DESIGN CHOICE, log 3.) -/
def occurs (c : State → Bool) (f : State → State) (s : State) : State := if c s then f s else s

end Sys2Proof.Machine
end

