-- ==== Sys2Proof/Machine/Report.lean ====
section
/-! DEFINITION. How a fault is located, counted, logged and made a replacement request (chapter 17: R447, R463 to R465). -/

namespace Sys2Proof.Machine

/-- A fault location without the flags that depend on history (Tables 17-6 and 17-7). `depth` 1 to 7. -/
structure Loc where
  die : Nat
  tile : Nat
  macro_ : Nat
  bank : Nat
  word : Nat
  bit_ : Nat
  depth : Nat
  data : Bool
  physical : Bool
  repair : Bool
  retired : Bool
  deriving DecidableEq, Repr

/-- A location of depth 2: a die. -/
def Loc.die2 (die : Nat) (data : Bool) : Loc :=
  { die := die, tile := 0, macro_ := 0, bank := 0, word := 0, bit_ := 0, depth := 2, data := data, physical := false, repair := false,
    retired := false }

/-- The 64-bit code (R464): fields below the level of DEPTH are zero; REPEAT (bit 1) is clear. -/
def Loc.code (devpos : Nat) (l : Loc) : Nat :=
  let f := fun (d v p : Nat) => if d ≤ l.depth then v * 2 ^ p else 0
  f 1 devpos 61 + f 2 l.die 57 + f 3 l.tile 51 + f 4 l.macro_ 43 + f 5 l.bank 35 + f 6 l.word 15 + f 7 l.bit_ 9 + l.depth * 64 +
  32 * b2n l.data + 16 * b2n l.physical + 8 * b2n l.repair + 4 * b2n l.retired

/-- Has this location been found before since the start? -/
def foundBefore (s : State) (code : Nat) : Bool :=
  (s.dev.faults.log ++ s.dev.faults.queue).any fun e => clearBit e.location 1 == code && e.start == s.dev.power.starts

/-- The location code with REPEAT. -/
def locate (s : State) (l : Loc) : Nat :=
  let c := l.code s.dev.ring.devpos
  if foundBefore s c then c + 2 else c

/-- An entry of the same CAUSE and LOCATION made less than 1 s earlier absorbs the new one (R465). (DEDUCED, log 12.) -/
def mergeEntry (n : LogEntry) : List LogEntry → Option (List LogEntry)
  | [] => none
  | e :: r =>
    if e.cause == n.cause && clearBit e.location 1 == clearBit n.location 1 && n.time < e.time + 1000000000 && e.time ≤ n.time
    then some ({ e with count := sat16 (e.count + 1) } :: r)
    else (mergeEntry n r).map (e :: ·)

/-- The ring of 4,096 entries, oldest first. -/
def appendLog (l : List LogEntry) (e : LogEntry) : List LogEntry := (l ++ [e]).drop (l.length + 1 - 4096)

/-- Enters a fault in the fault log; while the brace state is held it waits in the queue (R465). (DEDUCED, log 12.) -/
def logFault (e : LogEntry) (s : State) : State :=
  match mergeEntry e s.dev.faults.queue with
  | some q => modFaults (fun f => { f with queue := q }) s
  | none =>
    match mergeEntry e s.dev.faults.log with
    | some l => modFaults (fun f => { f with log := l }) s
    | none =>
      if !s.dev.power.brace then modFaults (fun f => { f with log := appendLog f.log e }) s
      else if s.dev.faults.queue.length < 256 || e.cls != 0 then modFaults (fun f => { f with queue := f.queue ++ [e] }) s
      else
        let s := modFaults (fun f => { f with discarded := sat32 (f.discarded + 1) }) s
        notice 0x0057 2 0 0 [s.dev.faults.discarded] s

/-- Writes the waiting entries. (DEDUCED, log 12.) -/
def flushLog (s : State) : State := modFaults (fun f => { f with log := f.queue.foldl appendLog f.log, queue := [] }) s

/-- Counts a fault of class `cls` (Table 17-1) and logs it. -/
def reportFault (cls kind source cause location p0 p1 : Nat) (s : State) : State :=
  logFault { cls := cls, kind := kind, cause := cause, source := source, count := 1, location := location, time := s.time, n := s.now,
             start := s.dev.power.starts, p0 := p0, p1 := p1 }
    (modFaults (fun f => { f with classes := tset cls (sat32 (tget 0 cls f.classes + 1)) f.classes }) s)

/-- Counts a CORRECTED fault that sends no notice and enters no log. -/
def countCorrected (s : State) : State :=
  modFaults (fun f => { f with classes := tset 0 (sat32 (tget 0 0 f.classes + 1)) f.classes }) s

/-- Sends a REPLACEMENT_REQUEST notice (R463). -/
def requestNotice (s : State) : State :=
  let s := modFaults (fun f => { f with requests := sat32 (f.requests + 1), lastRequest := s.now }) s
  notice 0x0054 0 0 0 [s.dev.faults.reasons] s

/-- Sets bit `k` of `REPLACE_REASONS` (Table 17-5). -/
def raiseReason (k : Nat) (s : State) : State :=
  if bit s.dev.faults.reasons k then s
  else requestNotice (modFaults (fun f =>
    { f with reasons := setBit f.reasons k, since := if f.reasons = 0 then s.time else f.since }) s)

/-- A DEGRADED condition is raised: EL2021 (Table 9-2). -/
def degraded (s : State) : State := assertLine (s.now + 1) 2021 s

/-- SERVICEn is low (R463, Table 18-2). -/
def servicenLow (s : State) : Bool := s.dev.faults.reasons != 0 || s.dev.power.phase != .ready

/-- `LOST_CHANNELS` (R459). -/
def lostChannels (s : State) : Nat := (List.range 64).foldl (fun m c => if (s.out c).lost then m + 2 ^ c else m) 0

/-- FAULTn is low (R461). -/
def faultnLow (s : State) : Bool := s.dev.faults.faultnLow || lostChannels s != 0

end Sys2Proof.Machine
end

