-- ==== Sys2Proof/Machine/Synth.lean ====
section
/-! DEFINITION. How an engine forms the 24-bit code of a tick: content of segments, resampler and decimating chain, splines,
partials, scale and offset, the sample markers, and the calibration mapper (chapter 4). -/

namespace Sys2Proof.Machine

/-! ### Stored content -/

/-- A byte of the sample store; what no accepted write has covered is unspecified (R52). -/
def storeByte (s : State) (a : Nat) : Byte := mget (Config.storeByte a) a s.dev.store.content

/-- The `len` bytes of the sample store from `a` up. -/
def storeBytes (s : State) (a : Nat) : Nat → List Byte
  | 0 => []
  | n + 1 => storeByte s a :: storeBytes s (a + 1) n

/-- The 32-bit word at store byte address `a` (R39). -/
def storeWord (s : State) (a : Nat) : Nat := leVal (storeBytes s a 4)

/-- Word `k` of the content of a stored segment (R38, R39). -/
def segWord (s : State) (g : Seg) (k : Nat) : Nat := storeWord s (g.addr * 4096 + 4 * k)

/-- The word at word address `w` of scratchpad bank `b` (R401). -/
def bankWord (s : State) (b w : Nat) : Nat := mval (b * 262144 + 4 * w) 4 s.dev.scratch.content

/-- The sample of a sample word (Table 2-3). -/
def wordSample (w : Nat) : Int := toInt 24 (w / 256)

/-- Its markers M3 to M0 as a number. -/
def wordMarkers (w : Nat) : Nat := bits w 7 4

/-- Segment that carries the content component: the base of an ALLOY (R45). -/
def contentSeg (s : State) (n : Nat) : Seg :=
  let g := s.seg n
  if g.kind = 4 then s.seg (bits g.addr 15 0) else g

/-- Segment that carries the partials: the harmonic component of an ALLOY. -/
def harmSeg (s : State) (n : Nat) : Option Seg :=
  let g := s.seg n
  if g.kind = 4 then some (s.seg (bits g.addr 31 16)) else if g.kind = 3 then some g else none

/-- Is the segment fed while it plays (STREAM 5, LIVE 6)? -/
def isSource (k : Nat) : Bool := k == 5 || k == 6

/-- Bank word of source word `w` of a STREAM (R143) or LIVE (R146) segment. -/
def sourceBankWord (g : Seg) (w : Nat) : Nat :=
  if g.kind = 5 then w % g.items else bits g.addr 31 16 + w % g.items

/-- Source word `w` as the engine plays it: a LIVE word comes from its copy on chip (R149), or, where it was never copied, from the ring as it
stands (R148). -/
def sourceWord (s : State) (c : EngCore) (g : Seg) (w : Nat) : Nat :=
  if g.kind = 6 then
    let v := tget (2 ^ 32) (w % 2 ^ 32) c.src.chip
    if v < 2 ^ 32 then v else bankWord s (bits g.addr 6 0) (sourceBankWord g (w % 2 ^ 32))
  else bankWord s (bits g.addr 6 0) (sourceBankWord g w)

/-- The sample word at index `n` of the periodic content (R120) or of the source (R151). -/
def contentWord (s : State) (c : EngCore) (n : Int) : Nat :=
  let g := contentSeg s c.play.entry.segment
  if isSource g.kind then sourceWord s c g (c.src.e0 + n.toNat)
  else
    let st := c.play.entry.start
    let lc := g.lengthM1 + 1 - st
    segWord s g (st + ((n - (st : Int)) % (lc : Int)).toNat)

/-- c(n) of R120 and R151. -/
def content (s : State) (c : EngCore) (n : Int) : Int := wordSample (contentWord s c n)

/-! ### Filters -/

/-- h[φ][j]: R121 fixes φ = 0 and φ = 1,024; the others are the part's. -/
def tap (f j : Nat) : Int :=
  if f = 0 then (if j = 31 then 2 ^ 23 else 0)
  else if f = 1024 then (if j = 32 then 2 ^ 23 else 0)
  else (Config.resamplerTap f j).toInt

/-- b_i: R122 fixes b_23. -/
def halfband (i : Nat) : Int := if i = 23 then 2 ^ 22 else (Config.halfbandTap i).toInt

/-- The 64-tap polyphase resampler (R121) on a sequence; with a zero fraction it gives c(n) exactly. -/
def resample (c : Int → Int) (x : Nat) : Int :=
  let n : Int := (x / 2 ^ 32 : Nat)
  let f : Nat := x / 2 ^ 22 % 2 ^ 10
  let w : Nat := x / 2 ^ 6 % 2 ^ 16
  if f = 0 ∧ w = 0 then c n
  else
    let g := fun (j : Nat) => tap f j + ((tap (f + 1) j - tap f j) * w + 2 ^ 15) / 2 ^ 16
    ((List.range 64).foldl (fun a j => a + g j * c (n - 31 + j)) 0 + 2 ^ 22) / 2 ^ 23

/-- d_k of the decimating chain (R122). -/
def decimated (c : Int → Int) (start : Nat) : Nat → Int → Int
  | 0, m => c (start + m)
  | k + 1, m =>
    ((List.range 47).foldl (fun a i => a + halfband i * decimated c start k (2 * m - 23 + i)) 0 + 2 ^ 22) / 2 ^ 23

/-- k = ceil(log2 I) of R122; 0 on the resampler path. -/
def chainK (inc : Nat) : Nat :=
  if inc ≤ 2 ^ 32 then 0 else if inc ≤ 2 ^ 33 then 1 else if inc ≤ 2 ^ 34 then 2 else if inc ≤ 2 ^ 35 then 3 else 4

/-- Read-ahead r in source words (Table 4-3). -/
def readAhead (inc : Nat) : Nat := let k := chainK inc; 32 * 2 ^ k + 23 * (2 ^ k - 1)

/-- Back reach (R152). -/
def backReach (inc : Nat) : Nat := let k := chainK inc; 31 * 2 ^ k + 23 * (2 ^ k - 1)

/-- Unwrapped position Y (R151) of a source step; X itself for stored content. -/
def unwrapped (s : State) (c : EngCore) : Nat :=
  let g := contentSeg s c.play.entry.segment
  if isSource g.kind then c.play.x + c.play.ends * (g.lengthM1 + 1) * 2 ^ 32 else c.play.x

/-- R(t) of SAMPLE, STREAM and LIVE content. -/
def sampleComponent (s : State) (c : EngCore) : Int :=
  let y := unwrapped s c
  let k := chainK c.vals.inc
  if k = 0 then resample (content s c) y
  else resample (decimated (content s c) c.play.entry.start k) ((y - c.play.entry.start * 2 ^ 32) / 2 ^ k)

/-! ### Splines (R125, R126) -/

/-- DELTA, VALUE, MARKERS, SLOPE_IN and SLOPE_OUT of knot `i` (Table 2-4). -/
def knotDelta (s : State) (g : Seg) (i : Nat) : Nat := segWord s g (8 * i)
def knotValue (s : State) (g : Seg) (i : Nat) : Int := wordSample (segWord s g (8 * i + 1))
def knotMarkers (s : State) (g : Seg) (i : Nat) : Nat := wordMarkers (segWord s g (8 * i + 1))
def knotSlopeIn (s : State) (g : Seg) (i : Nat) : Int := toInt 64 (segWord s g (8 * i + 2) + 2 ^ 32 * segWord s g (8 * i + 3))
def knotSlopeOut (s : State) (g : Seg) (i : Nat) : Int := toInt 64 (segWord s g (8 * i + 4) + 2 ^ 32 * segWord s g (8 * i + 5))

/-- The interval i with P(i) ≤ x < P(i + 1), and P(i): a walk over the knots from knot `i` at position `p`. -/
def knotInterval (s : State) (g : Seg) (x : Nat) : Nat → Nat → Nat → Nat × Nat
  | 0, i, p => (i, p)
  | n + 1, i, p => let q := p + knotDelta s g (i + 1); if x < q then (i, p) else knotInterval s g x n (i + 1) q

/-- floor(v + 1/2) of the cubic of R125 at X, without intermediate rounding. -/
def splineValue (s : State) (g : Seg) (x : Nat) : Int :=
  let (i, p) := knotInterval s g (x / 2 ^ 32) (g.items - 2) 0 0
  let dl : Int := knotDelta s g (i + 1)
  let d : Int := dl * 2 ^ 32
  let a : Int := (x : Int) - p * 2 ^ 32
  let n := 2 ^ 32 * ((2 * a ^ 3 - 3 * a ^ 2 * d + d ^ 3) * knotValue s g i + (3 * a ^ 2 * d - 2 * a ^ 3) * knotValue s g (i + 1)) +
    dl * ((a ^ 3 - 2 * a ^ 2 * d + a * d ^ 2) * knotSlopeOut s g i + (a ^ 3 - a ^ 2 * d) * knotSlopeIn s g (i + 1))
  let den := 2 ^ 32 * d ^ 3
  (2 * n + den) / (2 * den)

/-! ### Partials (R128 to R130) -/

/-- π/2 in 2^-96. -/
def halfPi96 : Nat := 124451306656115542615260972311

/-- The alternating Taylor sum of the sine in 2^-96: `k` further terms after the one of exponent 2i + 1. -/
def sinTerms (x2 : Nat) : Nat → Nat → Nat → Nat
  | 0, _, t => t
  | n + 1, i, t => t - sinTerms x2 n (i + 1) (t * x2 / 2 ^ 96 / ((2 * i + 2) * (2 * i + 3)))

/-- round(8,388,607 × sin(π/2 × v / 2^22)) for 0 ≤ v ≤ 2^22. -/
def sineQuarter (v : Nat) : Nat :=
  let x := halfPi96 * v / 2 ^ 22
  (8388607 * sinTerms (x * x / 2 ^ 96) 18 0 x + 2 ^ 95) / 2 ^ 96

/-- s(u) of R129 for a 24-bit phase. -/
def sine (u : Nat) : Int :=
  let v := u % 2 ^ 22
  match u / 2 ^ 22 % 4 with
  | 0 => (sineQuarter v : Nat)
  | 1 => (sineQuarter (2 ^ 22 - v) : Nat)
  | 2 => - (sineQuarter v : Nat)
  | _ => - (sineQuarter (2 ^ 22 - v) : Nat)

/-- HARM, AMPL, PHASE and FREQ of partial descriptor `n` (Table 2-5). -/
def partialHarm (s : State) (g : Seg) (n : Nat) : Nat := bits (segWord s g (8 * n)) 9 0
def partialAmpl (s : State) (g : Seg) (n : Nat) : Nat := bits (segWord s g (8 * n + 1)) 23 0
def partialPhase (s : State) (g : Seg) (n : Nat) : Nat := segWord s g (8 * n + 2)
def partialFreq (s : State) (g : Seg) (n : Nat) : Nat := segWord s g (8 * n + 3) + 2 ^ 32 * bits (segWord s g (8 * n + 4)) 15 0

/-- 0.4 cycles per tick (R129, R131). -/
def muteLimit : Nat := 0x666666666666

/-- θ_n at the tick. -/
def partialTheta (s : State) (c : EngCore) (g : Seg) (n : Nat) : Nat :=
  let h := partialHarm s g n
  if h = 0 then tget 0 n c.play.theta else (h * c.vals.phi + partialPhase s g n * 2 ^ 16) % 2 ^ 48

/-- Is partial n muted at the tick? -/
def partialMuted (s : State) (c : EngCore) (g : Seg) (n : Nat) : Bool :=
  let h := partialHarm s g n
  muteLimit ≤ (if h = 0 then partialFreq s g n else h * c.vals.fund)

/-- The sum over the unmuted partials before rounding. -/
def partialSum (s : State) (c : EngCore) (g : Seg) : Int :=
  (List.range g.items).foldl (fun a n =>
    if partialMuted s c g n then a else a + partialAmpl s g n * sine (partialTheta s c g n / 2 ^ 24)) 0

/-- `MUTED_PARTIALS` of the tick. -/
def mutedCount (s : State) (c : EngCore) (g : Seg) : Nat := ((List.range g.items).filter (partialMuted s c g)).length

/-- Free phases at the first sample of an entry (R128). -/
def freshTheta (s : State) (g : Seg) : Tbl Nat :=
  (List.range g.items).foldl (fun t n => if partialHarm s g n = 0 then tset n (partialPhase s g n * 2 ^ 16) t else t) []

/-- Free phases one tick later. -/
def nextTheta (s : State) (g : Seg) (t : Tbl Nat) : Tbl Nat := t.map fun (n, v) => (n, (v + partialFreq s g n) % 2 ^ 48)

/-! ### Sum, scale, code (R135, R136) -/

/-- Clamps to a signed range of `w` bits. -/
def sat (w : Nat) (v : Int) : Int := max (-(2 ^ (w - 1) : Nat)) (min v ((2 ^ (w - 1) : Nat) - 1))

/-- A formed code: C, the stages that clamped (bits of `SAT_LAST`), the partials muted. -/
structure Formed where
  code : Int
  clamps : Nat
  muted : Nat
  deriving DecidableEq, Repr

/-- C(t) from the state of the engine at a sample tick. -/
def formCode (s : State) (c : EngCore) : Formed :=
  let g := contentSeg s c.play.entry.segment
  let r0 : Int := if g.kind = 2 then splineValue s g c.play.x else if g.kind = 3 then 0 else sampleComponent s c
  let r := sat 28 r0
  let hs := harmSeg s c.play.entry.segment
  let h0 : Int := match hs with | some g => (partialSum s c g + 2 ^ 22) / 2 ^ 23 | none => 0
  let h := sat 28 h0
  let u := sat 28 (r + h)
  let v0 := (u * c.vals.scale + 2 ^ 21) / 2 ^ 22 + c.vals.offset
  let v := sat 28 v0
  { code := sat 24 v,
    clamps := b2n (r != r0) + 2 * b2n (h != h0) + 4 * b2n (u != r + h) + 8 * b2n (v != v0) + 16 * b2n (sat 24 v != v),
    muted := match hs with | some g => mutedCount s c g | none => 0 }

/-! ### Markers (R124, R126) -/

/-- Markers of the knots at position `p` of a spline, walking from knot `i` at position `q`; the last knot is not among them. -/
def knotMarkersAt (s : State) (g : Seg) (p : Nat) : Nat → Nat → Nat → Nat
  | 0, _, _ => 0
  | n + 1, i, q =>
    if q = p then knotMarkers s g i else if p < q then 0 else knotMarkersAt s g p n (i + 1) (q + knotDelta s g (i + 1))

/-- Markers that the content holds at unwrapped integer position `n`. A spline also gives those of its last knot, at position Lp,
where the position wraps to START (R126). -/
def markersOf (s : State) (c : EngCore) (n : Nat) : Nat :=
  let g := contentSeg s c.play.entry.segment
  if g.kind = 3 then 0
  else if g.kind = 2 then
    let st := c.play.entry.start
    let lc := g.lengthM1 + 1 - st
    let p := st + (n - st) % lc
    knotMarkersAt s g p (g.items - 1) 0 0 ||| (if n ≥ g.lengthM1 + 1 && p = st then knotMarkers s g (g.items - 1) else 0)
  else wordMarkers (contentWord s c (n : Nat))

/-- The union of the markers at positions a + 1 to b. -/
def markersBetween (s : State) (c : EngCore) (a b : Nat) : Nat :=
  (List.range (b - a)).foldl (fun m i => m ||| markersOf s c (a + 1 + i)) 0

/-- The calibration mapper (R137). -/
def mapCode (k : Nat) (oc : Int) (c : Int) : Nat :=
  (max 0 (min ((c * k + 2 ^ 25) / 2 ^ 26 + oc + 524288) 1048575)).toNat

end Sys2Proof.Machine
end

