-- ==== Sys2Proof/Machine/Stream.lean ====
section
/-! DEFINITION. STREAM and LIVE sources and the playback FIFO: presence, release and emptying of source words, fills, PANIC,
stream-low (chapter 5). -/

namespace Sys2Proof.Machine

/-- Segment `n` is a STREAM or LIVE segment. -/
def sourceSeg (s : State) (n : Nat) : Bool := isSource (s.seg n).kind

/-- The STREAM or LIVE segment that engine `e` counts in PLAYING. -/
def sourceOf (s : State) (e : Nat) : Option Nat :=
  match (s.core e).play.seg with
  | some n => if sourceSeg s n then some n else none
  | none => none

/-- Difference of two LIVE indices, which wrap at 2^32 (R146). -/
def liveDiff (a b : Nat) : Nat := (a + 2 ^ 32 - b % 2 ^ 32) % 2 ^ 32

/-- Is LIVE index `a` at or before `b`? -/
def liveLe (a b : Nat) : Bool := liveDiff b a < 2 ^ 31

def liveIw (c : EngCore) (n : Nat) : Nat := tget 0 n c.src.iw
def liveRl (c : EngCore) (n : Nat) : Nat := tget 0 n c.src.rl

/-- Does a step of engine `e`'s active step table name segment `n` (R142)? A step that was never written names segment 0. -/
def namedInTable (s : State) (e n : Nat) : Bool :=
  let d := s.dev.dict
  let base := partBase d.active e
  let size := partSize d.active e
  let l := d.stepWritten.filter fun i => base ≤ i && i < base + size
  l.any (fun i => (entryAt d.stepsActive i).segment == n) || (n == 0 && l.length < size)

/-- The read-only grant of engine `e` on the ring words and the index word of LIVE segment `n` (R142, R403). -/
def liveGrant (s : State) (e n : Nat) : Bool := (s.seg n).kind == 6 && namedInTable s e n

/-- Is source word `w` present to engine `e` (R145, R147)? A LIVE word is, once an index value counts it and the engine has it on chip or may
read it (R142). -/
def wordPresent (s : State) (e n w : Nat) : Bool :=
  if (s.seg n).kind = 5 then decide (w < (s.stream n).wp)
  else !liveLe (liveIw (s.core e) n) w && (liveGrant s e n || !liveLe (s.core e).src.copied (w % 2 ^ 32))

/-- RP of a STREAM, RL of a LIVE segment. -/
def readIndex (s : State) (e n : Nat) : Nat := if (s.seg n).kind = 5 then (s.stream n).rp else liveRl (s.core e) n

/-- Every word below `w` is released (R152). -/
def releaseBelow (e n w : Nat) (s : State) : State :=
  if (s.seg n).kind = 5 then modStream n (fun x => { x with rp := max x.rp (min w x.wp) }) s
  else modSrc e (fun x =>
    let rl := if liveLe (tget 0 n x.rl) w then w % 2 ^ 32 else tget 0 n x.rl
    { x with rl := tset n rl x.rl, chip := x.chip.filter fun p => liveLe rl p.1 }) s

/-- Words of the source (R154): WP − RP or IW − RL. -/
def sourceFill (s : State) (e n : Nat) : Nat :=
  if (s.seg n).kind = 5 then (s.stream n).wp - (s.stream n).rp else liveDiff (liveIw (s.core e) n) (liveRl (s.core e) n)

/-- Copies present ring words on chip in ascending index while the playback FIFO holds fewer than 4,096 words (R149). `k` bounds
the words copied. -/
def copyWords (s : State) (g : Seg) (iw pos : Nat) : Nat → Nat → Tbl Nat → Nat × Tbl Nat
  | 0, next, chip => (next, chip)
  | k + 1, next, chip =>
    if liveLe iw next || 4096 ≤ liveDiff next pos && liveLe pos next then (next, chip)
    else copyWords s g iw pos k ((next + 1) % 2 ^ 32)
      (tset next (bankWord s (bits g.addr 6 0) (sourceBankWord g next)) chip)

/-- The unwrapped integer position as an index into the source; E0 until the first sample. -/
def sourcePos (s : State) (e : Nat) : Nat :=
  (s.core e).src.e0 + (if (s.core e).play.begun then unwrapped s (s.core e) / 2 ^ 32 else 0)

/-- Fills the playback FIFO of a LIVE step from the ring, under the grant (R142, R149). -/
def copyLive (e n : Nat) (s : State) : State :=
  if liveGrant s e n then
    let c := s.core e
    let (next, chip) := copyWords s (s.seg n) (liveIw c n) (sourcePos s e % 2 ^ 32) 4096 c.src.copied c.src.chip
    modSrc e (fun x => { x with copied := next, chip := chip }) s
  else s

/-- The playback FIFO holds words of one LIVE segment: that of the entry (R149). Words of another are given up, and copying starts at RL. -/
def holdLive (n rl : Nat) (x : EngSrc) : EngSrc :=
  if x.chipSeg = some n then { x with copied := if liveLe x.copied rl then rl % 2 ^ 32 else x.copied }
  else { x with chipSeg := some n, copied := rl % 2 ^ 32, chip := [] }

/-- The playback FIFO fill: words on chip at or beyond the position. (DEDUCED, log 14.) -/
def playFill (s : State) (e : Nat) : Nat :=
  let c := s.core e
  match c.play.seg with
  | none => 0
  | some n =>
    let k := (s.seg n).kind
    if k = 5 then min 4096 ((s.stream n).wp - sourcePos s e)
    else if k = 6 then (let p := sourcePos s e % 2 ^ 32; if liveLe p c.src.copied then liveDiff c.src.copied p else 0)
    else c.src.fill

/-- Does the source of the step hold words that are not yet on chip (R153)? -/
def moreToFetch (s : State) (e : Nat) : Bool :=
  match (s.core e).play.seg with
  | none => false
  | some n =>
    let k := (s.seg n).kind
    if k = 5 then false
    else if k = 6 then !liveLe (liveIw (s.core e) n) (s.core e).src.copied
    else k = 1 || k = 2 || k = 4

/-- Raises or clears PANIC (R153). (DEDUCED, log 14.) -/
def panicCheck (e : Nat) (s : State) : State :=
  let f := playFill s e
  let more := moreToFetch s e
  modSrc e (fun x =>
    let up := f < 1024 && more
    { x with panic := up || (x.panic && f < 1536 && more), panics := if up && !x.panic then sat32 (x.panics + 1) else x.panics }) s

/-- Sends one stream-low notice of source `n` (R154). -/
def lowCheck (e n : Nat) (s : State) : State :=
  let f := sourceFill s e n
  let items := (s.seg n).items
  let c := s.core e
  if 2 * f ≥ items then modSrc e (fun x => { x with lowSent := x.lowSent.filter (· != n) }) s
  else if 4 * f < items && c.st == .running && !c.src.lowSent.contains n then
    engineNotice 0x0005 2 e [n, f] (modSrc e (fun x => { x with lowSent := n :: x.lowSent, lows := sat32 (x.lows + 1) }) s)
  else s

/-- The fill checks of the step that engine `e` plays, from its first dead-time tick on; a LIVE segment has a fill once RL is set (R148,
R154). -/
def fillChecks (e : Nat) (s : State) : State :=
  match sourceOf s e with
  | some n => panicCheck e (if (s.seg n).kind = 5 || (s.core e).src.rlSet.contains n then lowCheck e n s else s)
  | none => panicCheck e s

/-- Empties the source (R160): RP to WP or RL to IW, the words counted. -/
def emptySource (e n : Nat) (s : State) : State :=
  let f := sourceFill s e n
  let s := modSrc e (fun x => { x with discarded := x.discarded + f }) s
  if (s.seg n).kind = 5 then modStream n (fun x => { x with rp := x.wp }) s
  else modSrc e (fun x => { x with rl := tset n (tget 0 n x.iw) x.rl, copied := tget 0 n x.iw, chip := [] }) s

/-- The underrun latch clears (R161): the next LIVE entry sets RL anew (R148), and what was read only to be discarded is read no more (R160). -/
def dropLatch (x : EngSrc) : EngSrc := if x.latch then { x with latch := false, rlSet := [], nextRead := none } else x

/-- Engines whose underrun latch discards the words of segment `n`. -/
def latchedOn (s : State) (n : Nat) : List Nat :=
  (List.range 64).filter fun e => (s.core e).src.latch && (s.core e).src.latchSeg == n

/-- WP of STREAM `n` moves across the accepted words that are contiguous from it (R145). -/
def advanceWp : Nat → Nat → List Nat → Nat × List Nat
  | 0, wp, above => (wp, above)
  | k + 1, wp, above => if above.contains wp then advanceWp k (wp + 1) (above.filter (· != wp)) else (wp, above)

/-- An accepted feed write of the words `ws` from stream index `w` (R145, R160). -/
def feedWords (n w : Nat) (data : List Byte) (s : State) : State :=
  let g := s.seg n
  let b := bits g.addr 6 0
  let k := data.length / 4
  let s := forAll (List.range k) (fun i s => modScratch (fun d => { d with
    content := mputs 0 (b * 262144 + 4 * sourceBankWord g (w + i)) ((data.drop (4 * i)).take 4) d.content }) s) s
  let x := s.stream n
  let above := x.above ++ (List.range k).map (w + ·)
  let (wp, above) := advanceWp above.length x.wp above
  let s := modStream n (fun x => { x with wp := wp, above := above.filter fun v => wp ≤ v }) s
  let s := forAll (latchedOn s n) (fun e s => emptySource e n s) s
  forAll ((List.range 64).filter fun e => sourceOf s e == some n) (fun e s => fillChecks e s) s

/-- The feed window (R144), compared modulo 2^46 (the offset carries 46 bits of the index): the index of the first word, if every
word of the write lies in the window. -/
def feedIndex (s : State) (n off46 len : Nat) : Option Nat :=
  let x := s.stream n
  let w := x.wp + (off46 + 2 ^ 46 - x.wp % 2 ^ 46) % 2 ^ 46
  if w + len ≤ x.rp + (s.seg n).items then some w else none

end Sys2Proof.Machine
end

