-- ==== Sys2Proof/Machine/Play.lean ====
section
/-! DEFINITION. One engine at one tick of its grid: requests that fall due, dead times, samples, pass ends, end actions, rate steps,
underruns and engine commands (chapters 3 to 5). OUTPUT_TICK and the commands that name one due action run the same tick. -/

namespace Sys2Proof.Machine

/-- Adds to `IGNORED_EVENTS`: events that caused no action. -/
def ignoreEvents (e k : Nat) : State → State := modCnt e fun x => { x with ignored := sat32 (x.ignored + k) }

/-- Loop counter L0 to L3. -/
def EngCore.loop (c : EngCore) (k : Nat) : Nat := if k = 0 then c.l0 else if k = 1 then c.l1 else if k = 2 then c.l2 else c.l3

def EngCore.setLoop (k v : Nat) (c : EngCore) : EngCore :=
  if k = 0 then { c with l0 := v } else if k = 1 then { c with l1 := v } else if k = 2 then { c with l2 := v } else { c with l3 := v }

/-! ### Entering and leaving steps -/

/-- A jump, ABORT or release ends an entry within a pass: every word up to that of the last sample is released (R152). -/
def releasePlayed (e : Nat) (s : State) : State :=
  match sourceOf s e with
  | some n => if (s.core e).play.begun then releaseBelow e n (sourcePos s e + 1) s else s
  | none => s

/-- The entry ends: the engine stops counting in PLAYING (R62), an entry still awaited is given up, and the index reads end (R147), but for
those of a source that is being emptied (R160). (DEDUCED, log 13.) -/
def leaveStep (e : Nat) (s : State) : State :=
  panicCheck e (modCore e (fun c => { c with
    play := { c.play with seg := none, lateEntry := false },
    src := { c.src with nextRead := if c.src.latch then c.src.nextRead else none } }) s)

/-- Does a decision replace what follows by an AT_END jump? -/
def Decision.jumps (d : Decision) : Bool := match d.what with | .jump _ => true | _ => false

/-- A pending AT_END request, or one that is decided and has not acted, is discarded and counted. (DEDUCED, log 13.) -/
def discardAtEnd (e : Nat) (s : State) : State :=
  let p := (s.core e).pend
  ignoreEvents e (b2n p.atEnd.isSome + (p.decisions.filter Decision.jumps).length)
    (modPend e (fun p => { p with atEnd := none, decisions := [] }) s)

/-- What a step's first dead-time tick does whether or not its entry is present: TAG and END_ACTION of the current step (R108, R109, R82),
the segment counted in PLAYING (R62), E0 (R152), the first index read of a LIVE step (R147), the fills (R153, R154). -/
def beginEntry (e : Nat) (s : State) : State :=
  let en := s.entry e (s.core e).play.step
  let n := en.segment
  let k := (s.seg n).kind
  let e0 := if isSource k then readIndex s e n else 0
  let now := s.now
  let s := modCore e (fun c => { c with
    play := { c.play with tag := en.tag, action := en.endAction, seg := some n },
    src := (fun (x : EngSrc) =>
      let x := { x with
        e0 := e0, fill := if k = 1 || k = 2 || k = 4 then 2048 else 0,
        nextRead := if k = 6 then (if x.nextRead.isSome && c.play.lateEntry then x.nextRead else some now)
          else if x.latch then x.nextRead else none }
      if k != 6 then { x with chipSeg := none, chip := [] } else if x.rlSet.contains n then holdLive n e0 x else x) c.src }) s
  fillChecks e (if k = 6 && (s.core e).src.rlSet.contains n then copyLive e n s else s)

/-- The engine takes every field of the entry of its current step (R79): LOOP_OP acts. -/
def takeEntry (e : Nat) (s : State) : State :=
  let en := s.entry e (s.core e).play.step
  let s := modCore e (fun c => if en.loopOp = 1 then c.setLoop en.loopSel en.loopValue else c) s
  modPlay e (fun p => { p with entry := en, lateEntry := false }) (beginEntry e s)

/-- Words of content segment `n` that the code of the tick needs: those of the knots of the interval, of every partial, or of the filter's
span of the periodic content. -/
def neededWords (x : State) (e n : Nat) : List Nat :=
  let c := x.core e
  let g := x.seg n
  match g.kind with
  | 2 =>
    let i := (knotInterval x g (c.play.x / 2 ^ 32) (g.items - 2) 0 0).1
    (List.range 16).map (8 * i + ·)
  | 3 => List.range (8 * g.items)
  | _ =>
    let st := c.play.entry.start
    let lc := g.lengthM1 + 1 - st
    let lo := (c.play.x / 2 ^ 32 : Nat) - (backReach c.vals.inc : Int) - (st : Int)
    (List.range (min lc (backReach c.vals.inc + readAhead c.vals.inc + 1))).map fun (k : Nat) => st + ((lo + (k : Int)) % (lc : Int)).toNat

/-- The lost word that the code of the tick needs (R389): the first one, where the step plays that segment. (DEDUCED, log 36.) -/
def lostNeeded (x : State) (e : Nat) : Option Nat :=
  match (x.core e).src.lostWord with
  | some (n, w) => if playsContent x e n then (neededWords x e n).find? fun k => w ≤ k && k < w + 8 else none
  | none => none
where
  playsContent (x : State) (e n : Nat) : Bool :=
    let m := (x.core e).play.entry.segment
    let g := x.seg m
    m == n || (g.kind == 4 && (bits g.addr 15 0 == n || bits g.addr 31 16 == n))

/-- The word that the code of a sample tick needs and that is not present in state `s` (R155, R389). `x` is the state at that tick. -/
def missingWord (s x : State) (e : Nat) : Option Nat :=
  match sourceOf x e with
  | some n =>
    let w := sourcePos x e + readAhead (x.core e).vals.inc
    if wordPresent s e n w then none else some w
  | none => lostNeeded x e

/-- The values in force after the next ramp value is applied (R132). -/
def ramped (s : State) (e : Nat) (v : EngVals) : EngVals :=
  let o := engIdx e 6
  let i := v.rampIndex
  let sel := s.act o 1
  if i = s.act o 6 then v
  else { v with
    inc := if bit sel 0 then ((s.act o 2 : Int) + i * toInt 64 (s.act o 3)).toNat else v.inc,
    fund := if bit sel 1 then ((s.act o 4 : Int) + i * toInt 64 (s.act o 5)).toNat else v.fund,
    rampIndex := i + 1, rateAt := some s.now }

/-- The values that an entry sets at its first sample (R79, R127, R133). -/
def entryValues (en : Entry) (v : EngVals) : EngVals :=
  { v with
    inc := if en.rateEn then en.inc else v.inc,
    fund := if en.fundEn then en.fund else v.fund,
    phi := if en.phaseMode = 1 then 0 else if en.phaseMode = 2 then en.phase * 2 ^ 16 else v.phi,
    scale := if en.scaleEn then en.scale else v.scale,
    offset := if en.scaleEn then en.offset else v.offset }

/-- X(t − 1) + I(t − 1) and the number of pass ends in the accumulator step (R116). -/
def passSum (s : State) (c : EngCore) : Nat × Nat :=
  let g := contentSeg s c.play.entry.segment
  let lp := (g.lengthM1 + 1) * 2 ^ 32
  let lc := (g.lengthM1 + 1 - c.play.entry.start) * 2 ^ 32
  let sum := c.play.x + c.vals.incPrev
  if sum < lp || lc = 0 then (sum, 0) else (sum, (sum - lp) / lc + 1)

/-- F of a bridge at its first dead-time tick D (R78, R104), from the requests registered 20 ECLK before it: the first code of the
entry taken, or the sample that was due at H; none where a source word is not present. -/
def bridgeCode (e : Nat) (s : State) : Option Int :=
  let c := s.core e
  let d := s.now
  let g := s.gridE e
  let rs := c.pend.rate.filter fun q => q.2 + 20 ≤ d
  let run := fun (a b : Nat) (v : EngVals) => (rs.filter fun q => a ≤ q.1 && q.1 < b).foldl (fun v _ => ramped s e v) v
  let tick := fun (v : EngVals) => { v with phi := (v.phi + v.fund) % 2 ^ 48 }
  let v := tick (run (d + 1) (d + g + 1) (tick (run 0 (d + 1) c.vals)))
  let en := c.play.entry
  let lc := (contentSeg s en.segment).lengthM1 + 1 - en.start
  let (sum, n) := passSum s c
  let p := c.play
  let c := if !p.begun then
      { c with vals := run (d + g + 1) (d + 2 * g + 1) (entryValues en v),
               play := { p with x := en.start * 2 ^ 32, ends := 0, pass := 1, begun := true,
                                theta := match harmSeg s en.segment with | some g => freshTheta s g | none => [] } }
    else
      { c with vals := run (d + g + 1) (d + 2 * g + 1) v,
               play := { p with x := sum - n * lc * 2 ^ 32, ends := p.ends + n,
                                theta := match harmSeg s en.segment with | some g => nextTheta s g (nextTheta s g p.theta) | none => [] } }
  if (missingWord s (modCore e (fun _ => c) s) e).isSome then none else some (formCode s c).code

/-- The bridge of a dead time that begins at the edge of the step: L and F, where TRANS of the step asks for one (R78). (DEDUCED, log 13.) -/
def bridgeFor (e : Nat) (s : State) : Option (Int × Int) :=
  let p := (s.core e).play
  if p.entry.trans = 0 then none
  else
    let f := match p.formed with
      | some (d, k, f) => if d = s.now && k = p.step then f else bridgeCode e s
      | none => bridgeCode e s
    f.map fun f => (p.code, f)

/-- Is the entry of step `k` not present where the fetch has not brought it? An entry resident in the step cache always is (R72). -/
def lateAt (s : State) (e k : Nat) (late : Bool) : Bool := late && !(s.core e).cache.resident.contains k

/-- The first dead-time tick D of a transition into step `k` (R77): the current step and its TAG change (R108), the cache follows (R72), the
entry is taken unless it is late (R74), and the dead time bridges from the code of D − 1 to the F formed for D (R78). `late`: the fetch has
not brought the entry. -/
def enterStep (e k : Nat) (late : Bool) (s : State) : State :=
  let c := s.core e
  let late := lateAt s e k late
  let s := ignoreEvents e (b2n c.pend.release.isSome) s
  let s := fetchSteps e (modCore e (fun c => { c with
    st := .running, holdCause := 0, phase := .dead 0, pend := { c.pend with release := none, decisions := [], again := false },
    play := { c.play with step := k, pass := 0, begun := false, ends := 0, lateEntry := false, reentry := none, bridge := none } }) s)
  if late then
    let s := modPlay e (fun p => { p with lateEntry := true }) (beginEntry e s)
    let s := modCnt e (fun x => { x with late := sat32 (x.late + 1) }) s
    engineNotice 0x0003 2 e [(s.core e).cnt.late] s
  else
    let s := takeEntry e s
    modPlay e (fun p => { p with bridge := bridgeFor e s }) s

/-! ### Engine commands that fall due (R102) -/

/-- `IDLE_CODE` of engine `e`. -/
def idleCode (s : State) (e : Nat) : Int := toInt 32 (s.act (engIdx e 0) 5)

/-- The engine enters IDLE: the output is `IDLE_CODE`, Φ and F hold 0 (R127). -/
def toIdle (e : Nat) (s : State) : State :=
  modCore e (fun c => { c with
    st := .idle, phase := .still, holdCause := 0,
    play := { c.play with code := idleCode s e }, vals := { c.vals with phi := 0, fund := 0, fundPrev := 0 } }) s

/-- ARM acts (R100, R101, R134, R148, R161); the cache takes the start step and what follows it (R72). -/
def armEngine (e : Nat) (s : State) : State :=
  let s := modCore e (fun c => { c with
    st := .armed, phase := .still, stopCause := 0, holdCause := 0, l0 := 0, l1 := 0, l2 := 0, l3 := 0, armedAt := s.now,
    vals := { EngVals.reset with rateAt := none }, play := { c.play with pass := 0, begun := false },
    src := { dropLatch c.src with discarded := 0, rlSet := [] } }) s
  modCore e (fun c => { c with cache := cacheFor s e (s.act (engIdx e 0) 4) }) s

/-- Every pending request is discarded and counted; engine commands, rate steps and an underrun at their ticks remain. -/
def dropRequests (e : Nat) (s : State) : State :=
  let p := (s.core e).pend
  let k := ([p.release, p.start, p.hold, p.unhold, p.abort].filter Option.isSome).length + b2n p.jump.isSome
  modPend e (fun p => { EngPend.none with underrun := p.underrun, rate := p.rate, cmds := p.cmds })
    (discardAtEnd e (ignoreEvents e k s))

/-- The engine stops at A: ABORT input (cause 2) or command (3). Pending requests are discarded (R105). -/
def abortEngine (e cause : Nat) (s : State) : State :=
  let s := dropRequests e (releasePlayed e s)
  let s := modCore e (fun c => { c with st := .stopped, phase := .still, stopCause := cause, holdCause := 0 }) s
  engineLine e 12 (s.now + 1) (leaveStep e s)

/-- A RESUME enters its step (R102); LIVE segments start anew where the underrun latch had been set (R148). -/
def resumeEngine (e k : Nat) (late : Bool) (s : State) : State := enterStep e k late (leaveStep e (releasePlayed e (discardAtEnd e s)))

/-- Is engine command `k` permitted in the state that it finds (Table 3-12, R100, R161, R102)? -/
def commandPermitted (s : State) (e : Nat) (k : EngCmd) : Bool :=
  let c := s.core e
  match k.cmd with
  | 1 => (c.st == .idle || c.st == .stopped) && configured s e
  | 2 => c.st == .armed
  | 3 => c.active
  | 4 => (c.st == .stopped || (k.viaLatch && c.active)) && reachable s e k.step
  | 5 => c.st == .armed
  | 6 => c.st == .stopped
  | _ => false

/-- One engine command acts at its tick, judged again; one no longer permitted is counted in `IGNORED_EVENTS`. -/
def commandAct (e : Nat) (late : Bool) (k : EngCmd) (s : State) : State :=
  if commandPermitted s e k then
    match k.cmd with
    | 1 => armEngine e s
    | 2 => enterStep e (s.act (engIdx e 0) 4) late s
    | 3 => abortEngine e 3 s
    | 4 => resumeEngine e k.step late s
    | 5 => toIdle e s
    | _ => modSrc e dropLatch (toIdle e s)
  else ignoreEvents e 1 s

/-- Every accepted command that falls due acts, in order of receipt. -/
def dueCommands (e : Nat) (late : Bool) (s : State) : State :=
  let due := (s.core e).pend.cmds.filter fun k => k.tick ≤ s.now
  let s := modPend e (fun p => { p with cmds := p.cmds.filter fun k => s.now < k.tick }) s
  forAll due (commandAct e late) s

/-! ### Rate steps (R132, R133) -/

/-- One RATE_STEP application. -/
def applyRate (e : Nat) (s : State) : State :=
  let c := s.core e
  if c.active && c.vals.rampIndex != s.act (engIdx e 6) 6 then modVals e (ramped s e) s
  else ignoreEvents e 1 s

/-- The RATE_STEP events that fall due. -/
def dueRates (e : Nat) (s : State) : State :=
  let due := (s.core e).pend.rate.filter (·.1 ≤ s.now)
  let s := modPend e (fun p => { p with rate := p.rate.filter (s.now < ·.1) }) s
  forAll due (fun _ s => applyRate e s) s

/-! ### Underrun (R156 to R160) -/

/-- The underrun of Q acts; `w` is the index of the missing word. Where an ABORT stopped the engine at the same edge it is only
recorded (R157). -/
def underrunAct (e w : Nat) (src : Option Nat) (late : Bool) (s : State) : State :=
  let c := s.core e
  let u : UrCopy := { step := c.play.step, tag := c.play.tag, pass := c.play.pass, l0 := c.l0, l1 := c.l1, l2 := c.l2, l3 := c.l3,
                      position := c.play.x, index := w, time := s.time }
  let s := modSrc e (fun x => { x with ur := u, underruns := sat32 (x.underruns + 1), latch := true,
                                       latchSeg := src.getD 65536, lostWord := none }) s
  let s := engineLine e 11 (s.now + 1) s
  let s := engineNotice 0x0006 1 e [u.position, w, u.pass + 2 ^ 24 * u.l0, u.l1 + 2 ^ 24 * u.l2, u.l3] s
  let s := match src with | some n => emptySource e n s | none => s
  let s := modPend e (fun p => { p with underrun := none }) s
  if c.st == .stopped then s
  else
    let p := c.pend
    let s := discardAtEnd e (ignoreEvents e (b2n p.jump.isSome + b2n p.hold.isSome + b2n p.unhold.isSome) s)
    let s := leaveStep e (modPend e (fun p => { p with jump := none, hold := none, unhold := none }) s)
    let k := underrunTarget s.dev.dict.active e
    let w := targetWord s.dev.dict.active e k
    if k < 16 && targetEn w then enterStep e (targetStep w) late s
    else modCore e (fun c => { c with st := .holding, holdCause := 3, phase := .still }) s

/-! ### Requests that fall due -/

/-- An event start at D (R101). -/
def startAct (e : Nat) (late : Bool) (s : State) : State :=
  let s := modPend e (fun p => { p with start := none }) s
  if (s.core e).st == .armed then enterStep e (s.act (engIdx e 0) 4) late s else ignoreEvents e 1 s

/-- An IMMEDIATE jump at Q (R89, R92, R93). Where HOLD_IN has taken effect between E and Q the request is discarded and counted: R92 has it
begin its dead time at Q, Table 3-12 gives that hold no exit by a jump. (DESIGN CHOICE, log 57; DEDUCED, log 13.) -/
def jumpAct (e k : Nat) (late : Bool) (s : State) : State :=
  let s := modPend e (fun p => { p with jump := none }) s
  let c := s.core e
  let w := targetWord s.dev.dict.active e k
  if !c.src.latch && (c.st == .running || c.st == .waiting || (c.st == .holding && c.holdCause == 2)) && targetEn w then
    enterStep e (targetStep w) late (leaveStep e (releasePlayed e (discardAtEnd e s)))
  else ignoreEvents e 1 s

/-- A WAIT_SEL release at D (R82, R160), to NEXT of the active step table (R109). One that falls due at the second dead-time tick of its own
IDLE_LOOP entry abandons that transition, as a jump does (R93): R82 begins the dead time there. (DESIGN CHOICE, log 57; DEDUCED, log 13.) -/
def waitReleaseAct (e : Nat) (late : Bool) (s : State) : State :=
  let s := modPend e (fun p => { p with release := none }) s
  let c := s.core e
  if !c.src.latch && (c.st == .waiting || c.st == .running) then
    let s := modCnt e (fun x => { x with releases := sat32 (x.releases + 1) }) s
    enterStep e (s.entry e c.play.step).next late (leaveStep e (releasePlayed e s))
  else ignoreEvents e 1 s

/-- RELEASE at Q (R104): a dead time under TRANS of the current step; the sample that was due at H follows. -/
def unholdAct (e : Nat) (s : State) : State :=
  let s := modPend e (fun p => { p with unhold := none }) s
  let c := s.core e
  if !c.src.latch && c.st == .holding && c.holdCause == 1 then
    modCore e (fun c => { c with
      st := .running, holdCause := 0, phase := .dead 0,
      play := { c.play with bridge := bridgeFor e s } }) s
  else ignoreEvents e 1 s

/-- ABORT at A (R105, Table 3-12). -/
def abortAct (e : Nat) (s : State) : State :=
  let s := modPend e (fun p => { p with abort := none }) s
  let c := s.core e
  if c.st == .armed then toIdle e s else if c.active then abortEngine e 2 s else ignoreEvents e 1 s

def fallsDue (q : Option Nat) (s : State) : Bool := match q with | some n => n ≤ s.now | none => false

/-- The requests that fall due at the tick: ABORT, underrun, start, IMMEDIATE jump, WAIT_SEL release, RELEASE (R97, R157). `src`: the source
that the engine played as the tick began. -/
def dueRequests (e : Nat) (src : Option Nat) (late : Bool) (s : State) : State :=
  let s := if fallsDue (s.core e).pend.abort s then abortAct e s else s
  let s := match (s.core e).pend.underrun with
    | some u => if u.1 ≤ s.now then underrunAct e u.2 src late s else s
    | none => s
  let s := if fallsDue (s.core e).pend.start s then startAct e late s else s
  let s := match (s.core e).pend.jump with
    | some j => if j.q ≤ s.now then jumpAct e j.target late s else s
    | none => s
  let s := if fallsDue (s.core e).pend.release s then waitReleaseAct e late s else s
  let s := if fallsDue (s.core e).pend.unhold s then unholdAct e s else s
  let c := s.core e
  if fallsDue c.pend.hold s && (c.st != .running || c.src.latch)
  then ignoreEvents e 1 (modPend e (fun p => { p with hold := none }) s) else s

/-! ### Samples and pass ends -/

/-- The AT_END request that a decision for end tick `t` sees (R95). -/
def eligibleAtEnd (c : EngCore) (t : Nat) : Option Nat :=
  match c.pend.atEnd with
  | some j => if j.q + 24 ≤ t then some j.target else none
  | none => none

/-- What follows the pass that ends at end tick `t`, `n` pass ends falling into its step (R94, R95, R110, R117). -/
def decideEnd (s : State) (e n t : Nat) : EndWhat :=
  let c := s.core e
  let en := s.entry e c.play.step
  let re := match c.play.reentry with | some r => decide (r + 24 ≤ t) | none => false
  let act : EndWhat := if re then .reenter
    else if c.play.entry.rep != 0 && c.play.entry.rep < c.play.pass + n then .action en.endAction en.next en.branch
    else .goOn
  match eligibleAtEnd c t with
  | some k => if targetEn (targetWord s.dev.dict.active e k) then .jump k else act
  | none => act

/-- A decision for end tick `t`: END_ACTION of the active step table comes into force (R94, R109), and a request that acts is taken; one whose
target is disabled is discarded (R89). (DEDUCED, log 13.) -/
def settleAtEnd (e t : Nat) (w : EndWhat) (s : State) : State :=
  let s := modPlay e (fun p => { p with action := (s.entry e p.step).endAction }) s
  match eligibleAtEnd (s.core e) t with
  | some _ =>
    let s := modPend e (fun p => { p with atEnd := none }) s
    match w with | .jump _ => s | _ => ignoreEvents e 1 s
  | none => s

/-- Asserts the marker lines of `m` (Table 3-14). -/
def assertMarkers (e base m : Nat) (s : State) : State :=
  forAll [0, 1, 2, 3] (fun k s => if bit m k then engineLine e (base + k) (s.now + 1) s else s) s

/-- Content words that pass from the playback FIFO in a step from `x` to `y` (R153): a SPLINE has 8 per knot. -/
def wordsPassed (s : State) (g : Seg) (x y : Nat) : Nat :=
  if g.kind = 2 then
    let a := (knotInterval s g (x / 2 ^ 32) (g.items - 2) 0 0).1
    let b := (knotInterval s g (y / 2 ^ 32) (g.items - 2) 0 0).1
    8 * (if a ≤ b then b - a else b + (g.items - 1) - a)
  else if x ≤ y then y / 2 ^ 32 - x / 2 ^ 32 else 0

/-- Forms and latches the code of a sample tick (R135, R136), counting clamps and muted partials. -/
def latchSample (e : Nat) (s : State) : State :=
  let f := formCode s (s.core e)
  let s := modCore e (fun c => { c with
    play := { c.play with code := f.code }, phase := .play, vals := { c.vals with incPrev := c.vals.inc },
    cnt := { c.cnt with muted := f.muted, sat := if f.clamps = 0 then c.cnt.sat else sat32 (c.cnt.sat + 1),
                        satLast := if f.clamps = 0 then c.cnt.satLast else f.clamps } }) s
  match sourceOf s e with
  | some n =>
    let c := s.core e
    let y := unwrapped s c / 2 ^ 32
    let s := releaseBelow e n (c.src.e0 + (y - backReach c.vals.inc)) s
    fillChecks e (if (s.seg n).kind = 6 then copyLive e n s else s)
  | none => panicCheck e s

/-- The first sample tick S of an entry (R79, R107, R116, R127, R128, R133). -/
def firstSample (e : Nat) (s : State) : State :=
  let c := s.core e
  let en := c.play.entry
  let theta := match harmSeg s en.segment with | some g => freshTheta s g | none => []
  let s := modCore e (fun c => { c with
    vals := entryValues en c.vals,
    play := { c.play with x := en.start * 2 ^ 32, xPrev := en.start * 2 ^ 32, ends := 0, pass := 1, begun := true, theta := theta,
                          firstAt := some s.now } }) s
  let s := latchSample e (dueRates e s)
  let s := assertMarkers e 0 (markersOf s (s.core e) en.start) s
  engineLine e 8 (s.now + 1) (assertMarkers e 4 en.markers s)

/-- A further sample: `sum` and `n` pass ends (R116, R124). -/
def nextSample (e sum n : Nat) (s : State) : State :=
  let c := s.core e
  let g := contentSeg s c.play.entry.segment
  let lc := g.lengthM1 + 1 - c.play.entry.start
  let off := if isSource g.kind then c.play.ends * (g.lengthM1 + 1) else 0
  let m := markersBetween s c (c.play.x / 2 ^ 32 + off) (sum / 2 ^ 32 + off)
  let x := sum - n * lc * 2 ^ 32
  let used := wordsPassed s g c.play.x (if g.kind = 2 then x else sum)
  let s := modCore e (fun c => { c with
    play := { c.play with xPrev := c.play.x, x := x, ends := c.play.ends + n, pass := (c.play.pass + n) % 2 ^ 24 },
    src := { c.src with fill := c.src.fill - used } }) s
  assertMarkers e 0 m (latchSample e (dueRates e s))

/-- From the end tick the engine repeats its code in WAITING or HOLDING; a pending AT_END request acts as an IMMEDIATE request
registered at the edge of the end tick (R96). -/
def rest (e : Nat) (st : EState) (cause : Nat) (s : State) : State :=
  let p := (s.core e).pend
  let s := match p.atEnd with
    | some j => ignoreEvents e (b2n p.jump.isSome)
        (modPend e (fun p => { p with atEnd := none, jump := some { q := s.tickAt e (s.now + 16), target := j.target } }) s)
    | none => s
  leaveStep e (modCore e (fun c => { c with st := st, phase := .still, holdCause := cause }) s)

/-- The END_ACTION acts at the end tick (Table 3-4). -/
def endAct (e act next branch : Nat) (late : Bool) (s : State) : State :=
  match act with
  | 1 =>
    let k := (s.core e).play.entry.loopSel
    let v := (s.core e).loop k - 1
    let s := leaveStep e (modCore e (EngCore.setLoop k v) s)
    if v = 0 then enterStep e next late (engineLine e 10 (s.now + 1) s) else enterStep e branch late s
  | 2 => engineLine e 9 (s.now + 1) (rest e .waiting 0 s)
  | 3 => rest e .holding 2 s
  | 4 =>
    let s := leaveStep e (discardAtEnd e s)
    engineLine e 12 (s.now + 1) (modCore e (fun c => { c with st := .stopped, phase := .still, stopCause := 1 }) s)
  | _ => enterStep e next late (leaveStep e s)

/-- What the end tick of an entry leaves behind: the markers of the last knot (R126) and the released words (R152). -/
def endEntry (e sum : Nat) (s : State) : State :=
  let c := s.core e
  let g := contentSeg s c.play.entry.segment
  let s := if g.kind = 2 then assertMarkers e 0 (knotMarkers s g (g.items - 1)) s else s
  match sourceOf s e with
  | some m => releaseBelow e m (c.src.e0 + (sum + c.play.ends * (g.lengthM1 + 1) * 2 ^ 32) / 2 ^ 32) s
  | none => s

/-- A tick at which the accumulator moved to `sum` over `n` pass ends: a further sample, or the end tick of the entry (R117). -/
def leaveAt (e sum n : Nat) (w : EndWhat) (late : Bool) (s : State) : State :=
  let c := s.core e
  match w with
  | .jump k => enterStep e (targetStep (targetWord s.dev.dict.active e k)) late (leaveStep e (endEntry e sum s))
  | .reenter => enterStep e c.play.step late (leaveStep e (endEntry e sum s))
  | .action a next branch =>
    endAct e a next branch late (modPlay e (fun p => { p with pass := c.play.entry.rep % 2 ^ 24 }) (endEntry e sum s))
  | .goOn => nextSample e sum n s

/-- HOLD_IN acts at H (R103): the sample due is kept for a release. -/
def holdAct (e : Nat) (s : State) : State :=
  modCore e (fun c => { c with st := .holding, holdCause := 1, pend := { c.pend with hold := none } }) s

/-- A commit changed END_ACTION of the step in which the engine waits, or holds by END_ACTION: the new one acts at the commit tick (R109),
unless something else has moved the engine there. (DEDUCED, log 41.) -/
def changedAction (e : Nat) (late : Bool) (s : State) : State :=
  let c := s.core e
  let s := modPend e (fun p => { p with again := false }) s
  let en := s.entry e c.play.step
  if c.pend.again && (c.st == .waiting || (c.st == .holding && c.holdCause == 2)) && en.endAction != 5 then
    endAct e en.endAction en.next en.branch late s
  else s

/-- The decision taken for the tick at its decision point. -/
def decisionFor (s : State) (e : Nat) : Option EndWhat := ((s.core e).pend.decisions.find? (·.tick == s.now)).map Decision.what

/-- A tick of RUNNING at which a sample or an end action is due. -/
def sampleTick (e : Nat) (late : Bool) (s : State) : State :=
  let c := s.core e
  let hold := fallsDue c.pend.hold s
  match c.phase with
  | .first => if hold then holdAct e s else firstSample e s
  | .again => if hold then holdAct e s else nextSample e (passSum s c).1 (passSum s c).2 s
  | _ =>
    let (sum, n) := passSum s c
    let w := if n = 0 then EndWhat.goOn else (decisionFor s e).getD (decideEnd s e n s.now)
    let stops := match w with | .action a _ _ => a == 2 || a == 3 || a == 4 | _ => false
    let goes := match w with | .goOn => true | _ => false
    if hold && goes then holdAct e s
    else
      let s := if hold && stops then ignoreEvents e 1 (modPend e (fun p => { p with hold := none }) s) else s
      let s := if n = 0 then s else
        let s := if (decisionFor s e).isSome then s else settleAtEnd e s.now w s
        modPend e (fun p => { p with
          decisions := p.decisions.filter (s.now < ·.tick), atEnd := p.atEnd.map fun j => { j with q := 0 } }) s
      leaveAt e sum n w late s

/-- A dead-time tick (R77, R78, R74). -/
def deadTick (e : Nat) (s : State) : State :=
  modCore e (fun c =>
    let b := fun (k : Int) => match c.play.bridge with
      | some (l, f) => l + (k * (f - l) + 1) / 3
      | none => c.play.code
    let due : Phase := if c.play.begun then .again else .first
    match c.phase with
    | .dead 0 => { c with phase := .dead 1, play := { c.play with code := b 1 } }
    | .dead 1 => { c with phase := if c.play.lateEntry then .dead 2 else due, play := { c.play with code := b 2 } }
    | _ => c) s

/-- The playing part of a tick. -/
def playTick (e : Nat) (late : Bool) (s : State) : State :=
  let c := s.core e
  if c.st != .running then s
  else match c.phase with
    | .still => s
    | .dead _ => deadTick e s
    | _ =>
      let s := sampleTick e late s
      if (s.core e).phase == .dead 0 then deadTick e s else s

/-- The accumulators reach the tick (R127, R128). -/
def accumulate (e : Nat) (s : State) : State :=
  let c := s.core e
  if c.active || c.st == .stopped then
    let th := match harmSeg s c.play.entry.segment with | some g => nextTheta s g c.play.theta | none => c.play.theta
    modCore e (fun c => { c with vals := { c.vals with phi := (c.vals.phi + c.vals.fundPrev) % 2 ^ 48 },
                                 play := { c.play with theta := th } }) s
  else s

/-- One tick of engine `e` at the edge of the step. `late`: the fetch has not brought the step entry of a transition that begins here. An
engine in FAULT only counts the commands and rate steps that fall due (R102, R132). (DESIGN CHOICE, log 3.) -/
def engineTick (e : Nat) (late : Bool) (s : State) : State :=
  let c := s.core e
  if c.lastTick == some s.now || s.now % s.gridE e != 0 then s
  else if c.st == .fault then
    modCore e (fun c => { c with lastTick := some s.now }) (dueRates e (dueCommands e late s))
  else
    let s := modPlay e (fun p => { p with codePrev := p.code }) s
    let s := accumulate e s
    let src := sourceOf s e
    let s := dueCommands e late s
    let s := dueRequests e src late s
    let s := changedAction e late s
    let s := if (s.core e).st == .idle then modPlay e (fun p => { p with code := idleCode s e }) s else s
    let s := playTick e late s
    let s := dueRates e s
    modCore e (fun c => { c with lastTick := some s.now, vals := { c.vals with fundPrev := c.vals.fund } }) s

/-- The ticks that engine `e` has still to make up to edge `t`, at most four (a decision point and a code formation look two ticks
ahead). -/
def simTicks (e t : Nat) (s : State) : State :=
  let g := s.gridE e
  let l := ((s.core e).lastTick).getD (t - g)
  forAll ((List.range 4).filter fun i => l + (i + 1) * g ≤ t) (fun i s => engineTick e false (advance (l + (i + 1) * g) s)) s

/-- Did engine `e` play a sample at the tick that state `s` has reached? -/
def sampled (s : State) (e : Nat) : Bool := (s.core e).st == .running && (s.core e).phase == .play

end Sys2Proof.Machine
end

