-- ==== Sys2Proof/Machine/Request.lean ====
section
/-! DEFINITION. What every frame and every REQUEST of a session passes through before it acts: authentication, binding, request
numbering, the lowest abort code, and the stored response (R339, R346, R349, R363). -/

namespace Sys2Proof.Machine

/-- Does the link serve frames (R480 step 7, R484)? Before the dictionary is ready none is served. (DEDUCED, log 9.) -/
def linkServes (s : State) : Bool :=
  match s.dev.power.phase with
  | .ready => true
  | .mooring => true
  | _ => false

def mooring (s : State) : Bool := s.dev.power.phase == .mooring

/-- The harbourmaster session; 0 none (0x1200:07). -/
def harbourmaster (s : State) : Nat :=
  ([1, 2, 3, 4, 5, 6, 7, 8].find? fun k => (s.session k).isOpen && (s.session k).role == 1).getD 0

def isHm (s : State) (sess : Nat) : Bool := sess != 0 && harbourmaster s == sess

/-- The retransmission timers of a session stop while none of its bound ports is up, and go on where they stopped (R356). (DEDUCED, log 45.) -/
def settleTimers (sess : Nat) (s : State) : State :=
  let x := s.session sess
  match x.timersAt, boundUp s x with
  | none, false => if x.isOpen then modSession sess (fun x => { x with timersAt := some s.now }) s else s
  | some a, true => modSession sess (fun x => { x with
      timersAt := none, notices := x.notices.map fun n => { n with sent := n.sent.map fun q => (q.1, q.2.1 + (s.now - a), q.2.2) } }) s
  | _, _ => s

/-- An authenticated frame of a session arrives on a port: it binds and activates that port and restarts the timeout (R354, R363);
a port that had been down for the session lets its notices go on. (DEDUCED, log 9.) -/
def frameArrives (sess port : Nat) (s : State) : State :=
  pump sess (settleTimers sess (modSession sess (fun x => { x with
    lastFrame := s.now, bound0 := x.bound0 || port == 0, bound1 := x.bound1 || port == 1, activePort := port }) s))

/-- Handles a frame of an open session: without effect if the port is down, the session unknown or closed or the MAC wrong; a wrong
MAC is counted (R346). -/
def withFrame (sess port : Nat) (macOk : Bool) (f : State → State) (s : State) : State :=
  if linkServes s && (s.port port).up && (s.session sess).isOpen then
    if macOk then f (frameArrives sess port s) else modPort port (fun p => { p with macFails := sat32 (p.macFails + 1) }) s
  else s

/-! ### Responses (R347 to R349) -/

/-- The view `k` of a session. -/
def Session.view (x : Session) (k : Nat) : View :=
  if k = 0 then x.view0 else if k = 1 then x.view1 else if k = 2 then x.view2 else x.view3

def Session.setView (k : Nat) (v : View) (x : Session) : Session :=
  if k = 0 then { x with view0 := v } else if k = 1 then { x with view1 := v } else if k = 2 then { x with view2 := v }
  else { x with view3 := v }

/-- The port on which what a session's frame on port `p` causes leaves: `p`, or the other bound port if `p` is down and that one is up
(R348). -/
def replyPort (s : State) (sess p : Nat) : Nat :=
  let x := s.session sess
  if !(s.port p).up && (s.port (1 - p)).up && (if p = 0 then x.bound1 else x.bound0) then 1 - p else p

/-- EPOCH of a response: that of the open view that the request names, or `COMMIT_EPOCH` (Table 13-4). -/
def answerEpoch (r : Req) (s : State) : Nat :=
  match r.view with
  | some k => if ((s.session r.sess).view k).st = 2 then ((s.session r.sess).view k).epoch else s.dev.dict.commit.epoch
  | none => s.dev.dict.commit.epoch

/-- The response to request `r` with ABORT `code` and DATA `data`. -/
def answerOf (r : Req) (code : Nat) (data : List Byte) (s : State) : Response :=
  { seq := r.seq, code := code, epoch := answerEpoch r s, data := data, retransmit := false, port := replyPort s r.sess r.port, at_ := s.now }

/-- Stores the response of an executed request and sends it (R349): the responses of the highest 64 numbers are kept. -/
def respond (r : Req) (code : Nat) (data : List Byte) (s : State) : State :=
  let a := answerOf r code data s
  modSession r.sess (fun x =>
    let h := max x.highest r.seq
    { x with highest := h, resps := a :: x.resps.filter (fun p => p.seq + 63 ≥ h), last := some a }) s

/-- Executes a request: the lowest failing code, else the effect, with DATA as of before it; then the response. -/
def execute (r : Req) (codes : State → List Nat) (eff : State → State) (data : State → List Byte) (s : State) : State :=
  let c := lowest (codes s)
  if c = 0 then respond r 0 (data s) (eff s) else respond r c [] s

/-- A stored response is sent again with RETRANSMIT set (R349). -/
def resend (r : Req) (a : Response) (s : State) : State :=
  let b := { a with retransmit := true, port := replyPort s r.sess r.port, at_ := s.now }
  modSession r.sess (fun x => { x with
    dups := sat32 (x.dups + 1), resps := x.resps.map fun q => if q.seq = a.seq then b else q, last := some b }) s

/-- A REQUEST frame (R346, R349) that `run` executes. (DEDUCED, log 9.) -/
def requestRun (r : Req) (run : State → State) : State → State :=
  withFrame r.sess r.port r.macOk fun s =>
    let x := s.session r.sess
    if r.seq + 63 < x.highest then s
    else if r.seq ≤ x.highest then
      match x.resps.find? (fun p => p.seq == r.seq) with
      | some p => resend r p s
      | none => run s
    else if r.seq ≤ x.highest + 64 then run s
    else modSession r.sess (fun x => { x with last := some (answerOf r 0x01040000 [] s) }) s

/-- A REQUEST frame whose operation takes effect unless a code refuses it, and whose response carries DATA. -/
def requestWith (r : Req) (codes : State → List Nat) (eff : State → State) (data : State → List Byte) : State → State :=
  requestRun r (execute r codes eff data)

/-- A REQUEST frame whose response carries no DATA. -/
def request (r : Req) (codes : State → List Nat) (eff : State → State) : State → State := requestWith r codes eff fun _ => []

/-- Codes common to every write: an object outside the mooring dictionary in mooring mode (R317), a view named with a write (R337). -/
def writeCodes (r : Req) (index : Nat) (s : State) : List Nat :=
  [failIf (mooring s && !inMooringDict index) 0x02060000, failIf r.view.isSome 0x02090000]

/-- A write that only the harbourmaster session may make (R320). -/
def hmCodes (r : Req) (index : Nat) (s : State) : List Nat :=
  failIf (!isHm s r.sess) 0x02010000 :: writeCodes r index s

/-- A CMD write of the harbourmaster session. -/
def command (r : Req) (index : Nat) (codes : State → List Nat) (eff : State → State) : State → State :=
  request r (fun s => hmCodes r index s ++ codes s) eff

/-- A CMD whose only legal value is 1 (R319). (DEDUCED, log 43.) -/
def must1 (v : Nat) : Nat := failIf (v != 1) 0x03810000

/-! ### The objects of the link, as a session reads them (Table 13-12, R340) -/

/-- The key of slot `k`; empty: none. -/
def State.keySlot (s : State) (k : Nat) : List Byte := tget [] k s.link.keys

/-- `PORT_STATE` and `SESSION_PORTS` (Table 13-12). -/
def portState (s : State) (p : Nat) : Nat :=
  let x := s.port p
  b2n x.up + 2 * b2n x.speed25 + 4 * b2n x.rsFec + 8 * b2n (s.dev.clock.lclkPort == p)

def sessionPorts (x : Session) : Nat := b2n x.bound0 + 2 * b2n x.bound1 + 4 * (x.activePort % 2)

/-- Open sessions and transfers of the device. -/
def sessionsOpen (s : State) : Nat := (([1, 2, 3, 4, 5, 6, 7, 8] : List Nat).filter fun k => (s.session k).isOpen).length
def openTransfers (s : State) : Nat := (([1, 2, 3, 4, 5, 6, 7, 8] : List Nat).map fun k => (s.session k).transfers.length).sum

/-- The read-only value of an object of the link as session `sess` reads it; none: no object of the link. -/
def linkObject (s : State) (sess index sub : Nat) : Option Nat :=
  let x := s.session sess
  let port := fun (p : Nat) => match sub with
    | 1 => some (portState s p)
    | 3 => some (Config.macAddr p % 2 ^ 48)
    | 10 => some (s.port p).macFails
    | 11 => some (s.port p).downs
    | _ => none
  match index, sub with
  | 0x1100, _ => port 0
  | 0x1101, _ => port 1
  | 0x1110, 3 => some s.link.ptpState
  | 0x1110, 4 => some (ofInt 64 s.link.ptpOffset)
  | 0x1200, 1 => some sess
  | 0x1200, 2 => some x.role
  | 0x1200, 5 => some (sessionPorts x)
  | 0x1200, 6 => some (sessionsOpen s)
  | 0x1200, 7 => some (harbourmaster s)
  | 0x1200, 8 => some x.dups
  | 0x1300, 1 => some x.notices.length
  | 0x1300, 2 => some x.discarded
  | 0x1300, 3 => some x.lost
  | 0x1300, 4 => some x.nextSeq
  | 0x1400, 6 => some (([0, 1, 2, 3] : List Nat).foldl (fun m k => m + 2 ^ k * b2n (!(s.keySlot k).isEmpty)) 0)
  | 0x1500, 1 => some (openTransfers s)
  | 0x1500, 2 => some s.link.cargoBytes
  | 0x1500, 3 => some s.link.cargoCrcFails
  | 0x2110, 12 => some ((x.view 0).st + 4 * (x.view 1).st + 16 * (x.view 2).st + 64 * (x.view 3).st)
  | 0x2110, k =>
    if 4 ≤ k && k < 12 then
      let v := x.view ((k - 4) % 4)
      some (if v.st = 2 then (if k < 8 then v.epoch else v.v) else 2 ^ 64 - 1)
    else none
  | _, _ => none

/-- The objects of the link and of a session, by index and range of subindexes. -/
def linkKeys : List (Nat × Nat) :=
  [(0x1100, 11), (0x1101, 11), (0x1110, 4), (0x1200, 8), (0x1300, 4), (0x1400, 6), (0x1500, 3), (0x2110, 12), (0x4000, 1), (0xA010, 5),
   (0xA020, 1), (0xA040, 2)]

/-- Their values as session `sess` reads them now, its own RW objects among them. -/
def linkValues (s : State) (sess : Nat) : Tbl Nat :=
  linkKeys.flatMap fun (i, n) => (List.range (n + 1)).filterMap fun k =>
    match linkObject s sess i k with
    | some v => some (key i k, v)
    | none => if (object i k).any (·.acc == .rwSess) then some (key i k, (s.session sess).val i k) else none

/-! ### The segments of reads (R359, R360) -/

/-- Transfer `num` of a session. -/
def Session.transfer (x : Session) (num : Nat) : Option Transfer := x.transfers.find? fun a => a.num == num

/-- Transfer `num` of session `k` changes. -/
def modTransfer (k num : Nat) (f : Transfer → Transfer) : State → State :=
  modSession k fun x => { x with transfers := x.transfers.map fun a => if a.num = num then f a else a }

/-- The position up to which the window lets whole segments of a read go, or its end. -/
def Transfer.sendable (a : Transfer) : Nat :=
  if a.total ≤ a.acked + a.window then a.total
  else a.sentTo + (a.acked + a.window - a.sentTo) / a.segSize * a.segSize

/-- A read with the segments up to position `e` sent, alternately on the ports that are up; `up0`, `up1`: the session is bound to the port, and it
is up. -/
def Transfer.sendTo (up0 up1 : Bool) (e : Nat) (a : Transfer) : Transfer :=
  let n := (e - a.sentTo + a.segSize - 1) / a.segSize
  let first := if up0 && up1 then 1 - a.lastPort else if up0 then 0 else 1
  let own := if up0 && up1 then (n + 1) / 2 else n
  let last := if n = 0 then a.lastPort else if up0 && up1 && n % 2 = 0 then 1 - first else first
  { a with
    sentTo := max a.sentTo e, lastPort := last,
    sends0 := a.sends0 + (if first = 0 then own else n - own), sends1 := a.sends1 + (if first = 0 then n - own else own) }

/-- The device sends the segments of read `num` of session `k` that its window lets go, on the session's bound ports that are up (R360). -/
def sendSegments (k num : Nat) (s : State) : State :=
  let x := s.session k
  let up0 := x.bound0 && (s.port 0).up
  let up1 := x.bound1 && (s.port 1).up
  modTransfer k num (fun a => if a.write || !(up0 || up1) then a else a.sendTo up0 up1 a.sendable) s

/-- The reads of session `k` go on from ACKED, or from where they stand. -/
def sendReads (k : Nat) (fromAcked : Bool) (s : State) : State :=
  forAll ((s.session k).transfers.filter fun a => !a.write) (fun a s =>
    sendSegments k a.num (if fromAcked then modTransfer k a.num (fun a => { a with sentTo := a.acked }) s else s)) s

/-! ### Views -/

/-- A view of session `sess` opens at the edge of the step: the values are those of this edge (R335, R336). -/
def openView (sess : Nat) (s : State) : View :=
  { st := 2, v := s.now, epoch := s.dev.dict.commit.epoch, lastRead := s.now,
    snap := some { dev := s.dev, ticked := s.ticked, vals := linkValues s sess } }

/-- The views whose tick is the edge of the step hold the values as of the tick (R336). (DEDUCED, log 40.) -/
def refreshViews (s : State) : State :=
  forAll [1, 2, 3, 4, 5, 6, 7, 8] (fun k s =>
    if (s.session k).isOpen then
      forAll [0, 1, 2, 3] (fun v s =>
        let x := (s.session k).view v
        if x.st = 2 && x.v = s.now then modSession k (Session.setView v { x with snap := (openView k s).snap }) s else s) s
    else s) s

/-- A read that names a view restarts its time (R337). (DEDUCED, log 40.) -/
def touchView (r : Req) (s : State) : State :=
  match r.view with
  | some v => modSession r.sess (fun x => x.setView v { x.view v with lastRead := s.now }) s
  | none => s

end Sys2Proof.Machine
end

