-- ==== Sys2Proof/Machine/Pulse.lean ====
section
/-! DEFINITION. Trip latches, comparator consequences, blanking, and the generators of the pulse lines (chapters 6 and 8): what OUTPUT_TICK,
the carrier, pattern and one-shot events, the comparators and commits share. -/

namespace Sys2Proof.Machine

/-! ### Settings (R168, R198) -/

/-- The settings of line `p` in a copy. SAFE and TRIP_MODE act from the dictionary (R197) and are left out; `DEAD_TIME` counts with the
pair's first line. -/
def settingsOf (t : Tbl Nat) (p : Nat) : LineSet :=
  let v := fun k => copyVal t (lineIdx p) k
  { cfg := clearBits (v 1) 0x38, ratio := v 3, cphase := v 4, cinc := v 5, duty := v 6, minWidth := v 7, patSeg := v 8, patBit := v 9,
    patRepeat := v 10, osDelay := v 11, osWidth := v 12, dead := if p % 2 = 0 then copyVal t (pairIdx p) 1 else 0 }

def LineSet.mode (x : LineSet) : Nat := x.cfg % 8
def LineSet.saw (x : LineSet) : Bool := bit x.cfg 6
def LineSet.free (x : LineSet) : Bool := bit x.cfg 7
def LineSet.gate (x : LineSet) : Bool := bit x.cfg 10
def LineSet.copies (x : LineSet) : Bool := bit x.cfg 11
def LineSet.patStart (x : LineSet) : Nat := bits x.cfg 14 12
def LineSet.edgeSel (x : LineSet) : Nat := bits x.cfg 17 15

/-- The other line of the pair (R166). -/
def partner (p : Nat) : Nat := if p % 2 = 0 then p + 1 else p - 1

/-- MODE in force of line `p`: 0 OFF, 1 CARRIER, 2 PATTERN, 3 ONESHOT, 4 FOLLOW. -/
def lineMode (s : State) (p : Nat) : Nat := (s.line p).set.mode

/-- Line `p` follows its partner (R176). -/
def follows (s : State) (p : Nat) : Bool := lineMode s p == 4 && lineMode s (partner p) != 4

/-- Line `p` has carrier period starts: its own or its partner's (R188). -/
def hasPeriods (s : State) (p : Nat) : Bool := lineMode s p == 1 || (lineMode s p == 4 && lineMode s (partner p) == 1)

/-- SAFE of line `p`: 0 HIZ, 1 LOW, 2 HIGH (R197). -/
def safeState (s : State) (p : Nat) : Nat := bits (s.act (lineIdx p) 1) 4 3

/-- TRIP_MODE CYCLE (R197). -/
def cycleMode (s : State) (p : Nat) : Bool := bit (s.act (lineIdx p) 1) 5

/-- TRIP_LINK of the pair of line `p`. -/
def linked (s : State) (p : Nat) : Bool := s.act (pairIdx p) 2 == 1

/-- The first ECLK edge at or after an instant. -/
def edgeAfter (i : Nat) : Nat := (i + 63) / 64

/-! ### Trip latches (R185 to R191) -/

/-- Lines that share the trip latch of line `p` (R187). -/
def latchGroup (s : State) (p : Nat) : List Nat := if linked s p then [p / 2 * 2, p / 2 * 2 + 1] else [p]

/-- The comparators that set the latch: `TRIP_MASK`, or the union of both masks of a linked pair. -/
def tripMask (s : State) (p : Nat) : Nat :=
  if linked s p then s.act (lineIdx p) 2 ||| s.act (lineIdx (partner p)) 2 else s.act (lineIdx p) 2

/-- BLANK_CMP selects comparator `j` and the blanking of its channel is in force (R192). -/
def blanked (s : State) (j : Nat) : Bool :=
  match (s.out (j / 4)).blankEnd with
  | some n => s.now < n && bit (s.act (chIdx (j / 4) 0x36) 3) (j % 4)
  | none => false

/-- The output of comparator `j` as the trip tree, the latch and the event synchroniser see it (R193, R459). (DEDUCED, log 47.) -/
def cmpSeen (s : State) (j : Nat) : Bool := (s.cmp j).asserted && !blanked s j && !(s.out (j / 4)).lost

/-- Is a selected comparator of line `p` asserted and unblanked? -/
def tripHeld (s : State) (p : Nat) : Bool :=
  (List.range 32).any fun j => bit (tripMask s p) j && cmpSeen s (32 * (p / 32) + j)

/-- The edge at which a latch set from the edge of the step on is synchronised: the latch sets within 2.5 ns (Table 1-5), and the next
edge or the one after it samples it (Table 10-3). (DEDUCED, log 16.) -/
def tripEdge (s : State) (p : Nat) : Nat := s.now + 1 + b2n (Config.tripLate p s.now)

/-- Sets the trip latch of line `p`, synchronised at the edge named, or else as `tripEdge` has it (R185, R191). -/
def setTrip (at_ : Option Nat) (p : Nat) (s : State) : State :=
  let n := at_.getD (tripEdge s (if linked s p then p / 2 * 2 else p))
  forAll (latchGroup s p) (fun g s =>
    if (s.line g).trip then s
    else assertLine (n + 3) (1280 + 2 * g)
      (modLine g (fun l => { l with trip := true, keepsSafe := false, trips := sat32 (l.trips + 1) }) s)) s

/-- Comparator `j` sets the trip latch of every line of its quay whose mask selects it. -/
def tripLines (at_ : Option Nat) (j : Nat) (s : State) : State :=
  forAll ((List.range 32).map (32 * (j / 32) + ·)) (fun p s => if bit (tripMask s p) (j % 32) then setTrip at_ p s else s) s

/-! ### Comparator consequences (R193, R235 to R237) -/

/-- Line of a comparator event. -/
def cmpLine (j : Nat) : Nat := 1024 + j

/-- An assertion of comparator `j` is sampled at the edge of the step; `at_` says when the trip
latches are synchronised, where the command says so. -/
def seenAssert (at_ : Option Nat) (j : Nat) (s : State) : State :=
  let m := s.act (cmpIdx j) 6
  let ev := m == 0 || m == 2 || (m == 1 && !(s.cmp j).latched)
  let n := s.now
  let s := modCmp j (fun c => { c with asserts := sat32 (c.asserts + 1), latched := true, seenAt := some n }) s
  tripLines at_ j (if ev then assertLine (s.now + 3) (cmpLine j) s else s)

/-- The output is seen not asserted. -/
def seenDeassert (j : Nat) (s : State) : State :=
  if s.act (cmpIdx j) 6 == 2 then assertLine (s.now + 3) (cmpLine j) s else s

/-- The output of comparator `j` becomes `v`, with what the synchronised side sees of it. -/
def setOutput (at_ : Option Nat) (j : Nat) (v : Bool) (s : State) : State :=
  let old := cmpSeen s j
  let s := modCmp j (fun c => { c with asserted := v }) s
  let new := cmpSeen s j
  if new && !old then seenAssert at_ j s else if old && !new then seenDeassert j s else s

/-- Blanking of channel `c` starts or restarts on an edge at instant `i` (R192). -/
def startBlanking (c i : Nat) (s : State) : State :=
  let n := s.act (chIdx c 0x36) 1
  if n = 0 then s
  else
    let js := ([4 * c, 4 * c + 1, 4 * c + 2, 4 * c + 3] : List Nat).filter (cmpSeen s)
    let s := modOut c (fun o => { o with blankEnd := some (edgeAfter i + n) }) s
    forAll js (fun j s => if cmpSeen s j then s else seenDeassert j s) s

/-- A comparator latch in carrier mode at a period start of line `p` (R236): it clears unless its comparator is seen asserted. -/
def clearCarrierLatches (p : Nat) (s : State) : State :=
  let c := p / 4
  forAll [4 * c, 4 * c + 1, 4 * c + 2, 4 * c + 3] (fun j s =>
    let cfg := s.act (cmpIdx j) 5
    if bit cfg 0 && 4 * c + bits cfg 2 1 == p && !cmpSeen s j then modCmp j (fun x => { x with latched := false }) s else s) s

/-! ### The command of a line (R176 to R180, R191) -/

/-- ψ at an instant, unwrapped from the latest tick (R170). -/
def phaseAt (s : State) (p i : Nat) : Nat :=
  let l := s.line p
  l.psi + l.delta * (i - 64 * l.tickAt) / (64 * s.grid (p / 32))

/-- Rising and falling targets of Table 6-3. -/
def riseTarget (l : Line) : Nat := if l.set.saw then 0 else (2 ^ 24 - l.dw) * 2 ^ 23
def fallTarget (l : Line) : Nat := if l.set.saw then l.dwFall * 2 ^ 24 else (2 ^ 24 + l.dwFall) * 2 ^ 23

/-- The period that runs started by a natural wrap within the tick: ψ counts on past 2^48. -/
def wrapped (s : State) (p : Nat) : Bool :=
  let l := s.line p
  64 * l.tickAt ≤ l.perStart && 2 ^ 48 ≤ phaseAt s p l.perStart

/-- Instant at which the carrier phase of line `p` reaches `v`, unwrapped from the latest tick and not before the latest carrier
event. -/
def instantOf (s : State) (p v : Nat) : Nat :=
  let l := s.line p
  max l.evAt (64 * l.tickAt + ((v - l.psi) * (64 * s.grid (p / 32)) + (l.delta - 1)) / l.delta)

/-- Kinds of carrier events, in the order in which they act at one instant. -/
inductive CarrierEvent where
  | rise | apex | fall | start
  deriving DecidableEq, Repr

def CarrierEvent.rank : CarrierEvent → Nat
  | .rise => 0 | .apex => 1 | .fall => 2 | .start => 3

/-- The next event of a carrier with Δ ≠ 0 as its phase now runs (R171, R174). -/
def nextCarrier (s : State) (p : Nat) : Option (Nat × CarrierEvent) :=
  let l := s.line p
  if l.set.mode != 1 || l.delta = 0 then none
  else
    let w := if wrapped s p then 2 ^ 48 else 0
    let best := fun (a b : Nat × CarrierEvent) => if b.1 < a.1 || (b.1 == a.1 && b.2.rank < a.2.rank) then b else a
    let m := (instantOf s p (2 ^ 48 + w), CarrierEvent.start)
    let m := if !l.rose then best m (instantOf s p (riseTarget l + l.base + w), .rise)
             else if !l.fell then best m (instantOf s p (fallTarget l + l.base + w), .fall) else m
    some (if l.apexDue then best m (instantOf s p (2 ^ 47 + l.base + w), .apex) else m)

/-- Bit `k` of a PATTERN segment (R47). -/
def patternBit (s : State) (g : Seg) (k : Nat) : Bool := bit (segWord s g (k / 32)) (k % 32)

/-- The first pattern boundary after bit `k` at which the level differs from `v`: walks at most `n` bits. -/
def patternChange (s : State) (r : PatRun) (v : Bool) : Nat → Nat → Option Nat
  | 0, _ => none
  | n + 1, k =>
    let g := s.seg r.seg
    let len := g.lengthM1 + 1
    let lv := if r.passes != 0 && r.passes * len ≤ k then false else patternBit s g (k % len)
    if lv != v then some (r.start + k * r.taps) else patternChange s r v n (k + 1)

/-- Code of the engine of line `p` as a duty word. -/
def codeDuty (v : Int) : Nat := (v + 8388608).toNat

/-- The duty word at an update at instant `i` (R173); in a takeover a locked line keeps the last one (R175). -/
def dutyWord (s : State) (p i : Nat) : Nat :=
  let l := s.line p
  let e := p / 4
  let c := s.core e
  if bit l.set.cfg 8 then l.set.duty % 2 ^ 24
  else match (s.engine e).takeover with
    | some k => if l.set.free then codeDuty k.held else l.dwFall
    | none => if 64 * (c.lastTick.getD 0) + 256 ≤ i then codeDuty c.play.code else codeDuty c.play.codePrev

/-- The active settings differ from those in force (R198). -/
def awaits (s : State) (p : Nat) : Bool := settingsOf s.dev.dict.active p != (s.line p).set

/-- The duty word that the carrier of line `p` will take at instant `i` to come, where that is settled now: the code of R173 is that of a tick
past, and no change of the settings is due before. -/
def dutyKnown (s : State) (p i : Nat) : Option Nat :=
  if awaits s p || awaits s (partner p) then none
  else if bit (s.line p).set.cfg 8 || (s.engine (p / 4)).takeover.isSome ||
      i < 64 * ((s.core (p / 4)).lastTick.getD 0 + s.gridE (p / 4)) + 256 then some (dutyWord s p i)
  else none

/-- The next change of the waveform w of line `p` after it has taken level `v`, as far as it is settled (R179). (DEDUCED, log 15.) -/
def nextW (s : State) (p : Nat) (v : Bool) : Option Nat :=
  let l := s.line p
  if l.set.mode = 1 then
    if l.delta = 0 then none
    else
      let w := if wrapped s p then 2 ^ 48 else 0
      if v then
        let dw := if l.apexDue then dutyKnown s p (instantOf s p (2 ^ 47 + l.base + w)) else some l.dwFall
        dw.map fun d => instantOf s p (fallTarget { l with dwFall := d } + l.base + w)
      else if !l.rose then some (instantOf s p (riseTarget l + l.base + w))
      else if l.set.saw then some (instantOf s p (2 ^ 48 + w))
      else (dutyKnown s p (instantOf s p (2 ^ 48 + w))).map fun d => instantOf s p (2 ^ 48 + w + (2 ^ 24 - d) * 2 ^ 23)
  else if l.set.mode = 2 then l.pat.bind fun r => patternChange s r v (l.set.minWidth / 64 + 1) r.bit
  else if l.set.mode = 3 then l.shot.map fun x => if v then x.2 else x.1
  else none

/-- The edge of the command enters the output cell (R191, R192): edge event and blanking start. -/
def cellEdge (p i : Nat) (v : Bool) (s : State) : State :=
  let sel := (s.line p).set.edgeSel
  let s := modLine p (fun l => { l with cmd := v, lastEdge := some i, keepsSafe := false }) s
  let s := if sel = 3 || sel = (if v then 1 else 2) then assertLine (edgeAfter i + 2) (1281 + 2 * p) s else s
  if bit (s.act (chIdx (p / 4) 0x36) 2) (2 * (p % 4) + (if v then 0 else 1)) then startBlanking (p / 4) i s else s

/-- An edge of the command of line `p` to level `v` at instant `i` (R179): an interval shorter than `MIN_WIDTH` is removed with its two
edges. `next` is the edge that ends the interval, where it is already scheduled. -/
def commandEdge (p i : Nat) (v : Bool) (next : Option Nat) (s : State) : State :=
  let l := s.line p
  if l.cmd = v then s
  else if l.lastEdge.any (fun k => i < k + l.set.minWidth) then
    modLine p (fun l => { l with cmd := v, lastEdge := none, keepsSafe := false, dropped := sat32 (l.dropped + 1) })
      (modFabric (fun f => { f with sched := f.sched.filter fun x =>
        !(x.2 == 1281 + 2 * p && s.now < x.1 && l.lastEdge.map (fun k => edgeAfter k + 2) == some x.1) }) s)
  else if next.any (fun k => k < i + l.set.minWidth) then
    modLine p (fun l => { l with dropped := sat32 (l.dropped + 1) }) s
  else cellEdge p i v s

/-- A delayed edge of line `p` is scheduled; with no delay it happens at once. -/
def delayedEdge (p i dead : Nat) (v : Bool) (next : Option Nat) (s : State) : State :=
  if dead = 0 then commandEdge p i v next s else modLine p (fun l => { l with queue := l.queue ++ [(i + dead, v)] }) s

/-- The waveform w of line `p` takes level `v` at instant `i` (R176, R177). (DEDUCED, log 15.) -/
def setW (p i : Nat) (v : Bool) (s : State) : State :=
  if (s.line p).w = v then s
  else
    let s := modLine p (fun l => { l with w := v }) s
    let nx := nextW s p v
    let f := partner p
    if !follows s f then commandEdge p i v nx s
    else
      let dead := (s.line (p / 2 * 2)).set.dead
      if (s.line f).set.copies then delayedEdge f i dead v (nx.map (· + dead)) (commandEdge p i v nx s)
      else
        -- complement: the line that falls does so at once, the other rises after the dead time
        let (up, down) := if v then (p, f) else (f, p)
        let s := modLine down (fun l => { l with queue := [] }) s
        delayedEdge up i dead true nx (commandEdge down i false (nx.map (· + dead)) s)

/-- The next change of w that ends an interval begun by a delayed edge of line `p`. -/
def delayedNext (s : State) (p : Nat) : Option Nat :=
  let x := if follows s p then partner p else p
  let nx := nextW s x (s.line x).w
  if follows s p && (s.line p).set.copies then
    match (s.line p).queue with
    | q :: _ => some q.1
    | [] => nx.map (· + (s.line (p / 2 * 2)).set.dead)
  else nx

/-- The next edge of the command of line `p`, as far as it is scheduled. -/
def nextEdge (s : State) (p : Nat) : Option Nat :=
  match (s.line p).queue with
  | q :: _ => some q.1
  | [] =>
    let x := if follows s p then partner p else p
    let dead := (s.line (p / 2 * 2)).set.dead
    let copies := (s.line p).set.copies
    let late := if follows s p then copies || !(s.line p).cmd
      else follows s (partner p) && !(s.line (partner p)).set.copies && !(s.line p).cmd
    (nextW s x (s.line x).w).map fun i => if late then i + dead else i

/-- Line `p` is released at instant `i` (R188): it takes the level of its command; an interval that this begins and that is shorter than
`MIN_WIDTH` is removed, so the line keeps its safe state to the next edge. An edge of the command at `i` itself begins the interval.
(DEDUCED, log 15.) -/
def releaseLine (i p : Nat) (s : State) : State :=
  let l := s.line p
  let same := safeState s p == (if l.cmd then 2 else 1)
  let nx := nextEdge s p
  let short := !same && l.set.mode != 0 && !l.gated && nx.any fun k => i < k && k < i + l.set.minWidth
  if short then modLine p (fun l => { l with trip := false, keepsSafe := true, lastEdge := none, dropped := sat32 (l.dropped + 1) }) s
  else modLine p (fun l => { l with trip := false, lastEdge := if nx = some i then none else some i }) s

/-- A release point of line `p` at instant `i` (R187, R188): a linked pair releases at those of its first line. -/
def releasePoint (i p : Nat) (s : State) : State :=
  if linked s p && p % 2 = 1 then s
  else
    let armed := (s.line p).clearArmed
    let cyc := cycleMode s p
    let s := modLine p (fun l => { l with clearArmed := false }) s
    if !(s.line p).trip || !(cyc || armed) then s
    else if tripHeld s p then
      if cyc then s else modLine p (fun l => { l with clearFails := sat32 (l.clearFails + 1) }) s
    else forAll (latchGroup s p) (releaseLine i) s

/-- The first delayed edge of line `p` happens. -/
def takeDelayed (p : Nat) (s : State) : State :=
  match (s.line p).queue with
  | (i, v) :: r =>
    let s := modLine p (fun l => { l with queue := r }) s
    commandEdge p i v (delayedNext s p) s
  | [] => s

/-! ### Patterns (R181, R182) -/

/-- A pattern starts at bit 0 at instant `i`. -/
def patternStart (p i : Nat) (s : State) : State :=
  let x := (s.line p).set
  let s := modLine p (fun l => { l with
    pat := some { start := i, bit := 1, seg := x.patSeg, taps := x.patBit, passes := x.patRepeat } }) s
  setW p i (patternBit s (s.seg x.patSeg) 0) s

/-- The next bit period of a pattern begins; after the last pass w is low. -/
def patternNext (p : Nat) (s : State) : State :=
  match (s.line p).pat with
  | some r =>
    let g := s.seg r.seg
    let len := g.lengthM1 + 1
    let i := r.start + r.bit * r.taps
    if r.passes != 0 && r.passes * len ≤ r.bit then setW p i false (modLine p (fun l => { l with pat := none }) s)
    else setW p i (patternBit s g (r.bit % len)) (modLine p (fun l => { l with pat := some { r with bit := r.bit + 1 } }) s)
  | none => s

/-! ### The carrier (R170 to R175) -/

/-- ψ and Δ that R170 gives at the tick, for the settings in force. -/
def carrierAt (s : State) (p psi : Nat) : Nat × Nat :=
  let x := (s.line p).set
  let v := (s.core (p / 4)).vals
  if x.free then (psi, x.cinc) else ((x.ratio * v.phi + x.cphase * 2 ^ 16) % 2 ^ 48, x.ratio * v.fund)

/-- Does line `p` await its apply point: settings committed or checked, and not yet in force (R198)? -/
def linePending (s : State) (p : Nat) : Bool :=
  awaits s p || (s.dev.dict.commit.st == 2 && settingsOf s.dev.dict.staged p != (s.line p).set)

/-- GATE holds line `p` in IDLE, ARMED and STOPPED (R195). -/
def gateHolds (s : State) (p : Nat) : Bool :=
  (s.line p).set.gate && !(s.engine (p / 4)).takeover.isSome && !(s.core (p / 4)).active

/-- The active settings of line `p` come into force at instant `i` (R198): a line that changes mode starts its new mode with w low; a
CARRIER line declares a period start (R172); a PATTERN with PAT_START 0 starts (R182); a GATE that holds acts at once (R195). -/
def applyLine (i p : Nat) (s : State) : State :=
  let x := settingsOf s.dev.dict.active p
  let old := (s.line p).set
  if x = old then s
  else
    let s := if x.mode = old.mode then s else
      modLine p (fun l => { l with queue := [] })
        (setW p i false (modLine p (fun l => { l with
          pat := none, patDue := [], shot := none, rose := true, fell := true, apexDue := false, delta := 0 }) s))
    let s := modLine p (fun l => { l with set := x, declare := x.mode == 1 }) s
    let s := if gateHolds s p then modLine p (fun l => { l with gated := true }) s else s
    if x.mode = 2 && x.patStart = 0 then patternStart p i s else s

/-- The level that the settings in force give line `q` from the waveform w of its pair. (DEDUCED, log 15.) -/
def settledLevel (s : State) (q : Nat) : Bool :=
  if follows s q then (s.line (partner q)).w == (s.line q).set.copies else (s.line q).w

/-- A CARRIER line with Δ ≠ 0 (R198). -/
def runsCarrier (s : State) (p : Nat) : Bool := lineMode s p == 1 && (s.line p).delta != 0

/-- The line whose first period start is the apply point of line `p`: its own, or its partner's for a FOLLOW line; none: the commit tick. -/
def applyPoint (s : State) (p : Nat) : Option Nat :=
  if runsCarrier s p then some p else if lineMode s p = 4 && runsCarrier s (partner p) then some (partner p) else none

/-- The line whose first period start is the apply point of the pair `a`, `a + 1` (R198): that of the line whose settings change; where both
change, they switch at one instant, that of the first line unless it is the commit tick. (DEDUCED, log 15.) -/
def pairPoint (s : State) (a : Nat) : Option Nat :=
  match awaits s a, awaits s (a + 1) with
  | true, false => applyPoint s a
  | false, true => applyPoint s (a + 1)
  | _, _ => (applyPoint s a).orElse fun _ => applyPoint s (a + 1)

/-- Both lines of a pair switch at one instant (R198); each then takes the level that its settings give it, unless a delayed edge of the
pair is still to come. (DEDUCED, log 15.) -/
def applyPair (i p : Nat) (s : State) : State :=
  let a := p / 2 * 2
  let s := modLine a (fun l => { l with applyBy := none }) (applyLine i (a + 1) (applyLine i a s))
  if !(s.line a).queue.isEmpty || !(s.line (a + 1)).queue.isEmpty then s
  else forAll [a, a + 1] (fun q s => commandEdge q i (settledLevel s q) (delayedNext s q) s) s

/-- Line `p`, and the line that follows it. -/
def withFollower (s : State) (p : Nat) : List Nat := if follows s (partner p) then [p, partner p] else [p]

/-- What a period start at instant `i`, or a tick edge that stands for one while Δ is 0, does for the line and for one that follows it:
comparator latches in carrier mode clear and trip latches are released (R188, R189, R236). -/
def latchPoint (i p : Nat) (s : State) : State :=
  let ps := withFollower s p
  forAll ps (fun q s => releasePoint i q s) (forAll ps (fun q s => clearCarrierLatches q s) s)

/-- What a period start at instant `i` does beside starting the period (R188, R191, R195, R236). -/
def periodPoint (i p : Nat) (s : State) : State :=
  let ps := withFollower s p
  let s := forAll ps (fun q s => if (s.line q).set.edgeSel = 4 then assertLine (edgeAfter i + 2) (1281 + 2 * q) s else s) s
  forAll ps (fun q s => if gateHolds s q then s else modLine q (fun l => { l with gated := false }) s) (latchPoint i p s)

/-- A period of a CARRIER line begins at instant `i`, naturally or declared (R171, R172, R174). -/
def beginPeriod (i p : Nat) (natural : Bool) (s : State) : State :=
  if lineMode s p != 1 then s
  else
    let changed := (s.line p).declare
    let v := carrierAt s p (s.line p).psi
    let s := if changed then modLine p (fun l => { l with psi := v.1, delta := v.2, declare := false }) s else s
    let base := if natural && !changed then 0 else phaseAt s p i % 2 ^ 48
    let d := dutyWord s p i
    let s := modLine p (fun l => { l with
      base := base, perStart := i, evAt := i, dw := d, dwFall := d, rose := false, fell := false,
      apexDue := bit l.set.cfg 9 && !l.set.saw }) s
    periodPoint i p (setW p i false s)

/-- A period start of line `p` at instant `i`. Where it is the apply point of the pair, the pair applies, and a period of the partner whose
settings changed is declared at the same instant (R172, R198); at a tick edge that the partner has not reached its own tick does so. -/
def periodStart (i p : Nat) (natural : Bool) (s : State) : State :=
  let q := partner p
  let due := (s.line (p / 2 * 2)).applyBy == some p && (awaits s p || awaits s q)
  let s := beginPeriod i p natural (if due then applyPair i p s else s)
  if due && (s.line q).declare && i < 64 * ((s.line q).tickAt + s.grid (q / 32)) then beginPeriod i q false s else s

/-- A carrier event happens at its instant. -/
def carrierEvent (p i : Nat) (k : CarrierEvent) (s : State) : State :=
  match k with
  | .rise => setW p i true (modLine p (fun l => { l with rose := true, evAt := i }) s)
  | .fall => setW p i false (modLine p (fun l => { l with fell := true, evAt := i }) s)
  | .apex =>
    let d := dutyWord s p i
    modLine p (fun l => { l with apexDue := false, dwFall := d, evAt := i }) s
  | .start => periodStart i p true s

/-- Delayed edges of line `p` up to instant `lim`. -/
def queueRun (p lim : Nat) : Nat → State → State
  | 0, s => s
  | n + 1, s =>
    match (s.line p).queue with
    | (i, _) :: _ => if i ≤ lim then queueRun p lim n (takeDelayed p s) else s
    | [] => s

/-- Delayed edges of the pair of line `p` up to instant `lim`. -/
def pairQueues (p lim : Nat) (s : State) : State := queueRun (partner p) lim 8 (queueRun p lim 8 s)

/-- The carrier events of line `p` up to one of rank `k` at instant `lim` (exclusive), and the delayed edges of its pair among them. At
most `fuel` happen. -/
def carrierRun (p lim k : Nat) : Nat → State → State
  | 0, s => s
  | n + 1, s =>
    match nextCarrier s p with
    | some (i, x) =>
      if i < lim || (i == lim && x.rank < k) then carrierRun p lim k n (carrierEvent p i x (pairQueues p i s)) else s
    | none => s

/-- What is due on line `p` before the tick edge of the step. -/
def lineCatchUp (p : Nat) (s : State) : State := pairQueues p (64 * s.now) (carrierRun p (64 * s.now) 3 8 s)

/-- The tick of a CARRIER line: ψ and Δ of the tick (R170, R175), a period start that falls on its edge (R171), declared starts (R172),
and what a tick stands for while Δ is 0 (R189). -/
def carrierTick (p : Nat) (s : State) : State :=
  let l := s.line p
  let e := p / 4
  let c := s.core e
  let a := 64 * s.now
  let end_ := l.psi + l.delta
  let onEdge := l.delta != 0 && nextCarrier s p == some (a, .start)
  let held := (s.engine e).takeover.isSome && !l.set.free
  let (psi, delta) := if held then (end_ % 2 ^ 48, l.delta) else carrierAt s p (end_ % 2 ^ 48)
  let replaced := !l.set.free && !held && c.play.firstAt == some s.now && c.play.entry.phaseMode != 0
  let s := modLine p (fun l => { l with psi := psi, delta := delta, tickAt := s.now, held := held }) s
  let declared := l.declare || replaced || (l.held && !held && psi != end_ % 2 ^ 48)
  if declared then periodStart a p false (modLine p (fun l => { l with declare := false }) s)
  else if onEdge then periodStart a p true s
  else if delta = 0 then latchPoint a p s
  else s

/-- The level at the ball: 0 low, 1 high, 2 high impedance (R169, R186, R194 to R196, R459, R478). -/
def ballLevel (s : State) (p : Nat) : Nat :=
  let l := s.line p
  if l.trip || l.keepsSafe || l.gated || l.railSafe || l.set.mode = 0 || (s.out (p / 4)).lost || (s.core (p / 4)).st == .fault then
    (match safeState s p with | 1 => 0 | 2 => 1 | _ => 2)
  else b2n l.cmd

/-- The tick of line `p`, after the tick of its engine: carrier, release points of the modes without period starts (R188), gating
(R195), and patterns that a step marker starts at a first sample that the DAC latches (R182, R451). -/
def lineTick (p : Nat) (s : State) : State :=
  let c := s.core (p / 4)
  let s := if lineMode s p = 1 then carrierTick p s else modLine p (fun l => { l with tickAt := s.now }) s
  let s := if hasPeriods s p then s else releasePoint (64 * s.now) p s
  let x := (s.line p).set
  let s := if x.mode = 2 && 2 ≤ x.patStart && x.patStart ≤ 5 && (s.engine (p / 4)).takeover.isNone && c.play.firstAt == some s.now && bit c.play.entry.markers (x.patStart - 2)
    then patternStart p (64 * s.now) s else s
  if gateHolds s p then modLine p (fun l => { l with gated := true }) s
  else if (s.line p).gated && !hasPeriods s p then modLine p (fun l => { l with gated := false }) s
  else s

end Sys2Proof.Machine
end

