-- ==== Sys2Proof/Machine/Output.lean ====
section
/-! DEFINITION. The output stages: mapper and DAC latch, the enable, soft-park and range-change sequences, hard park, lost channels,
supervision and restart (chapter 7, R458, R459). -/

namespace Sys2Proof.Machine

/-! ### Mapper (R137, R202, R203) -/

/-- Number of a mode and range among the five of Table 7-1. -/
def rangeIdx (mode range : Nat) : Nat := 3 * mode + range

/-- The k-th element of a list, or a default. -/
def listAt {α : Type} (d : α) : Nat → List α → α
  | _, [] => d
  | 0, x :: _ => x
  | n + 1, _ :: r => listAt d n r

/-- K and OC of the channel in the range that is switched in; unity where the table lists none (R441). -/
def gainK (s : State) (c : Nat) : Nat := listAt 0x400000 (rangeIdx (s.out c).modeIn (s.out c).rangeIn) (s.cal c).table.k
def offsetC (s : State) (c : Nat) : Int := listAt 0 (rangeIdx (s.out c).modeIn (s.out c).rangeIn) (s.cal c).table.oc

/-- The code of engine `e` that crosses the quay link: held during a takeover (R451). -/
def linkCode (s : State) (e : Nat) : Int :=
  match (s.engine e).takeover with
  | some k => k.held
  | none => (s.core e).play.code

/-- DAC code that the mapper forms from code `v`. -/
def dacOf (s : State) (c : Nat) (v : Int) : Nat := mapCode (gainK s c) (offsetC s c) v

/-- Z of the range switched in (R202). -/
def zeroCode (s : State) (c : Nat) : Nat := dacOf s c 0

/-- Code k of a 60-tick ramp (R210). -/
def rampCode (a b k : Nat) : Nat := ((a : Int) + (((b : Int) - a) * k + 30) / 60).toNat

/-- The DAC latches the engine's code at a tick of the grid, but not during a sequence (R205, R210), and no code of a lost channel
reaches a ball (R459). The tick at which a sequence starts is still one: its code is where the ramp begins (R212, R216). (DEDUCED, log 17.) -/
def latchDac (c : Nat) (s : State) : State :=
  let o := s.out c
  if o.lost then s
  else
    let d := dacOf s c (linkCode s c)
    match o.seq with
    | none => modOut c (fun o => { o with dac := d }) s
    | some q =>
      if q.start = s.now && q.latch then modOut c (fun o => { o with dac := d, seq := some { q with from_ := d } }) s else s

/-- Full scale of a mode and range (Table 7-1), in µV or nA. -/
def fullScale (mode range : Nat) : Nat :=
  if mode = 0 then (if range = 0 then 10240000 else if range = 1 then 5120000 else 2560000)
  else if range = 0 then 24000000 else 2400000

/-- The ideal output Y of channel `c` for its DAC code and the range switched in (R202), in 1/524,288 of a µV or nA. -/
def idealOutput (s : State) (c : Nat) : Int :=
  let o := s.out c
  ((o.dac : Int) - 524288) * fullScale o.modeIn o.rangeIn

/-- The unary part of a DAC code: how many elements are on, and the code of the 14-bit ladder (R204). -/
def unaryOn (d : Nat) : Nat := bits d 19 14
def ladderCode (d : Nat) : Nat := bits d 13 0

/-- The elements of channel `c` that are on: those that serve the positions switched on (R204, R432). -/
def elementsOn (s : State) (c : Nat) : List Nat := (s.cal c).map.take (unaryOn (s.out c).dac)

/-! ### Sequences (R211, R212, R216 to R218) -/

/-- Starts a sequence at the edge of the step; `latch`: no other sequence ran there. -/
def startSeq (c : Nat) (k : SeqKind) (latch : Bool) (s : State) : State :=
  let m := activeMode s c
  let r := activeRange s c
  modOut c (fun o => { o with
    seq := some { kind := k, start := s.now, from_ := o.dac, latch := latch, mode := m, range := r }, rangeNext := o.rangeNext && k == .softPark,
    enabled := o.enabled && k != .softPark, rangePending := k == .rangeChange || (o.rangePending && k == .softPark) }) s

/-- The enable sequence starts: the range elements are set at its ECLK +0 (R211, R217). -/
def startEnable (c : Nat) (s : State) : State :=
  let m := activeMode s c
  let r := activeRange s c
  startSeq c .enable true (modOut c (fun o => { o with modeIn := m, rangeIn := r, rangeSwitchAt := none }) s)

/-- A sequence ends; the newest committed mode and range follow (R218). -/
def endSeq (c : Nat) (s : State) : State :=
  let o := s.out c
  let s := modOut c (fun o => { o with seq := none, rangeNext := false }) s
  let m := activeMode s c
  let r := activeRange s c
  if !o.rangeNext || (m == o.modeIn && r == o.rangeIn) then s
  else if o.enabled then startSeq c .rangeChange true s
  else modOut c (fun o => { o with modeIn := m, rangeIn := r }) s

/-- Step `d` ECLK after the start of the enable sequence (Table 7-3). -/
def enableStep (c d : Nat) (s : State) : State :=
  let z := zeroCode s c
  let dt := dacOf s c (linkCode s c)
  let s :=
    if d = 800 then modOut c (fun o => { o with amp := true, dac := z }) s
    else if d = 1560 then modOut c (fun o => { o with parkSwitch := false, parkCause := 0 }) s
    else if 1600 < d && d ≤ 2800 && d % 20 = 0 then modOut c (fun o => { o with dac := rampCode z dt ((d - 1600) / 20) }) s
    else s
  if d = 2800 then endSeq c (modOut c (fun o => { o with enabled := true, supFrom := s.now }) s) else s

/-- Step `d` of a soft park (R212). (DEDUCED, log 19.) -/
def softParkStep (c d : Nat) (q : Seq) (s : State) : State :=
  let z := zeroCode s c
  if 0 < d && d ≤ 1200 && d % 20 = 0 then modOut c (fun o => { o with dac := rampCode q.from_ z (d / 20) }) s
  else if d = 1240 then modOut c (fun o => { o with parkSwitch := true }) s
  else if d = 1280 then endSeq c (modOut c (fun o => { o with amp := false, parkCause := 2, parkEdge := s.now }) s)
  else s

/-- Step `d` of a range change (Table 7-4). -/
def rangeStep (c d : Nat) (q : Seq) (s : State) : State :=
  let z := zeroCode s c
  let dt := dacOf s c (linkCode s c)
  if 0 < d && d ≤ 1200 && d % 20 = 0 then modOut c (fun o => { o with dac := rampCode q.from_ z (d / 20) }) s
  else if d = 1240 then modOut c (fun o => { o with parkSwitch := true }) s
  else if d = 1280 then modOut c (fun o => { o with amp := false }) s
  else if d = 2000 then modOut c (fun o => { o with modeIn := q.mode, rangeIn := q.range, rangePending := false }) s
  else if d = 2800 then modOut c (fun o => { o with amp := true, dac := z }) s
  else if d = 3560 then modOut c (fun o => { o with parkSwitch := false }) s
  else if 3600 < d && d ≤ 4800 && d % 20 = 0 then
    let s := modOut c (fun o => { o with dac := rampCode z dt ((d - 3600) / 20) }) s
    if d = 4800 then endSeq c (modOut c (fun o => { o with rangeChanges := sat32 (o.rangeChanges + 1), supFrom := s.now }) s) else s
  else s

/-- The elements still switch at ECLK +2,000 of a range change that a park ended (R218). -/
def lateSwitch (c : Nat) (s : State) : State :=
  match (s.out c).rangeSwitchAt with
  | some (n, m, r) =>
    if n = s.now then
      let s := modOut c (fun o => { o with modeIn := m, rangeIn := r, rangePending := false, rangeSwitchAt := none }) s
      if (s.out c).seq.isNone && !(s.out c).enabled then
        let m := activeMode s c
        let r := activeRange s c
        modOut c (fun o => { o with modeIn := m, rangeIn := r }) s
      else s
    else s
  | none => s

/-- A commit sets `OUT_ENABLE` of channel `c` from 1 to 0 (R212, R218). A channel that has not left park keeps its cause (R214). -/
def commitDisable (c : Nat) (s : State) : State :=
  let o := s.out c
  let s := modOut c (fun o => { o with restartAt := none }) s
  if o.parkCause != 0 && o.seq.isNone then s
  else if o.amp then startSeq c .softPark o.seq.isNone (abandonSeq s.now c s)
  else settleRange c (modOut c (fun o => { o with
      parkSwitch := true, enabled := false, parkCause := if o.parkCause = 0 then 2 else o.parkCause, parkEdge := s.now })
    (abandonSeq s.now c s))

/-- What a commit does to the output of channel `c`, whose enable, mode and range were `en`, `m`, `r` before it (R211, R212, R216 to
R218). (DEDUCED, log 24.) -/
def commitOutput (c en m r : Nat) (s : State) : State :=
  let o := s.out c
  let en' := s.act (chIdx c 0) 1
  let m' := activeMode s c
  let r' := activeRange s c
  if o.lost then s
  else if en = 0 && en' = 1 then
    (if o.seq.isNone then startEnable c s else s)
  else if en = 1 && en' = 0 then
    let s := commitDisable c s
    if m == m' && r == r' then s
    else if (s.out c).seq.isSome then modOut c (fun o => { o with rangeNext := true }) s
    else modOut c (fun o => { o with modeIn := m', rangeIn := r' }) s
  else if m == m' && r == r' then s
  else if o.seq.isSome then modOut c (fun o => { o with rangeNext := true }) s
  else if o.enabled then startSeq c .rangeChange true s
  else if o.rangeSwitchAt.isSome then s
  else modOut c (fun o => { o with modeIn := m', rangeIn := r' }) s

/-! ### Lost channels (R22, R459) -/

/-- Location of channel `c` on its quay die (Table 17-7), in the control hierarchy, of which a quay and its function blocks are levels (Table
1-6, R31). -/
def channelLoc (c macro_ : Nat) : Loc :=
  { die := 1 + c / 8, tile := c % 8, macro_ := macro_, bank := 0, word := 0, bit_ := 0, depth := 4, data := false, physical := false,
    repair := false, retired := false }

/-- Channel `c` is lost: it stays parked, its lines stay safe, its comparators assert nothing; class CHANNEL, notice CHANNEL_LOST and a
replacement reason. Its objects keep their values as of the loss. (DEDUCED, log 47.) -/
def loseChannel (c : Nat) (l : Loc) (s : State) : State :=
  if (s.out c).lost then s
  else
    let code := locate s l
    let s := modOut c (fun o => { o with lost := true, parkSwitch := true, amp := false, seq := none, restartAt := none }) s
    let s := modCal c (fun x => { x with pass := none, dueAt := none,
                                         discards := if x.pass.isSome then sat32 (x.discards + 1) else x.discards }) s
    let s := modDev (fun d => { d with lostCopies := tset c {
      out := s.out c, lines := [0, 1, 2, 3].map fun k => (4 * c + k, s.line (4 * c + k)),
      pendingLines := [4 * c, 4 * c + 1, 4 * c + 2, 4 * c + 3].filter (linePending s),
      cmps := [0, 1, 2, 3].map fun k => (4 * c + k, s.cmp (4 * c + k)), sense := s.sense c, cal := s.cal c } d.lostCopies }) s
    let s := reportFault 1 2 c 0x0055 code code 0 s
    raiseReason 6 (notice 0x0055 0 2 c [code] s)

/-! ### Commands -/

/-- The running sequence of channel `c` and the ECLK count since its start. -/
def seqCount (s : State) (c : Nat) : Option (Seq × Nat) := (s.out c).seq.map fun q => (q, s.now - q.start)

/-- ENABLE_SEQUENCE_STEP (R211). -/
def execEnableSequenceStep (t : Nat) (c : Fin 64) : State → Host.Outcome State Fault Refusal :=
  atEdge t fun s => match seqCount s c with
    | some (q, d) => if q.kind == .enable then enableStep c d s else s
    | none => s

/-- SOFT_PARK_STEP (R212). -/
def execSoftParkStep (t : Nat) (c : Fin 64) : State → Host.Outcome State Fault Refusal :=
  atEdge t fun s => match seqCount s c with
    | some (q, d) => if q.kind == .softPark then softParkStep c d q s else s
    | none => s

/-- RANGE_CHANGE_STEP (R216, R218). -/
def execRangeChangeStep (t : Nat) (c : Fin 64) : State → Host.Outcome State Fault Refusal :=
  atEdge t fun s =>
    let s := lateSwitch c s
    match seqCount s c with
    | some (q, d) => if q.kind == .rangeChange then rangeStep c d q s else s
    | none => s

/-- N of Table 7-5a: the edges for which a detector must have been seen asserted. -/
def supCount (f : Nat) : Nat := if f = 0 then 400 else if f = 1 then 800 else 100

/-- Can flag `f` set at the edge of the step: an enabled channel outside a sequence, in the mode of Table 7-5a, whose supervision has run for the
count N of the flag (R219)? -/
def watched (s : State) (c f : Nat) : Bool :=
  let o := s.out c
  o.enabled && o.seq.isNone && !o.lost && (if f = 2 then o.modeIn == 0 else o.modeIn == 1) && o.supFrom + supCount f ≤ s.now

/-- A supervision flag sets (R220); its action parks the channel at the next edge (R221). -/
def setFlag (c f : Nat) (s : State) : State :=
  let p := (s.core c).play
  let s := modOut c (fun o => { o with
    supFlags := setBit o.supFlags f, det := setBit o.det f,
    compliance := if f = 0 then sat32 (o.compliance + 1) else o.compliance,
    openCnt := if f = 1 then sat32 (o.openCnt + 1) else o.openCnt,
    overcurrent := if f = 2 then sat32 (o.overcurrent + 1) else o.overcurrent }) s
  let s := notify 0x0008 0 2 c p.step p.tag [2 ^ f] (assertLine (s.now + 4) (2032 + c / 8) s)
  if bit (s.act (chIdx c 0) 4) f then parkAt (s.now + 1) c 3 f s else s

/-- SUPERVISION_FLAG (R219): the edge at which a detector has been seen asserted at every edge of its count. -/
def execSupervisionFlag (t : Nat) (c : Fin 64) (f : Fin 3) : State → Host.Outcome State Fault Refusal :=
  atEdge t (occurs (fun s => watched s c f) (setFlag c f))

/-- Clears supervision flags (R222). -/
def supClear (c v : Nat) : State → State := modOut c fun o => { o with supFlags := clearBits o.supFlags v }

/-- SUP_CLEAR (R222). -/
def execSupClear (t : Nat) (r : Req) (c : Fin 64) (v : Nat) : State → Host.Outcome State Fault Refusal :=
  atEdge t (command r (chIdx c 0) (fun _ => [failIf (8 ≤ v) 0x03830000]) (supClear c v))

/-- A restart is permitted: parked by supervision, enabled, its detector no longer asserted (R215). -/
def restartPermitted (s : State) (c : Nat) : Bool :=
  let o := s.out c
  o.parkCause == 3 && !o.lost && s.act (chIdx c 0) 1 == 1 && !bit o.det o.parkFlag

/-- What the analog stage of channel `c` shows at the edge of the step: bits 2:0 the detectors, bit 3 LIMIT (R219, R225). -/
def setDetectors (c det : Nat) (s : State) : State :=
  if (s.out c).lost || ((s.out c).det == det % 8 && (s.out c).limit == bit det 3) then s
  else modOut c (fun o => { o with det := det % 8, limit := bit det 3 }) s

/-- The refusals of `OUT_RESTART`, and an accepted one (R215). -/
def restartCodes (c v : Nat) (s : State) : List Nat := [must1 v, failIf (!restartPermitted s c) (0x06200000 + c)]
def outRestart (c : Nat) (s : State) : State := modOut c (fun o => { o with restartAt := some (s.usTick c (s.now + 16)), restartFrom := s.now + 16 }) s

/-- OUT_RESTART (R215). `det`: the detectors asserted at the edge. -/
def execOutRestart (t : Nat) (r : Req) (c : Fin 64) (v det : Nat) : State → Host.Outcome State Fault Refusal :=
  atEdge t fun s => command r (chIdx c 0) (restartCodes c v) (outRestart c) (setDetectors c det s)

/-- OUT_RESTART_ACTION (R215): judged again at its tick. -/
def execOutRestartAction (t : Nat) (c : Fin 64) (det : Nat) : State → Host.Outcome State Fault Refusal :=
  atEdge t (occurs (fun s => (s.out c).restartAt == some s.now) fun s =>
    let s := modOut c (fun o => { o with restartAt := none }) (setDetectors c det s)
    if restartPermitted s c then startEnable c s else s)

end Sys2Proof.Machine
end

