-- ==== Sys2Proof/Machine/Boot.lean ====
section
/-! DEFINITION. Resets and starts: what a reset keeps, boot attempts, image selection, mooring mode, a failed start, and a FATAL fault
(R412, R413, R441, R460, R461, R480 to R486). -/

namespace Sys2Proof.Machine

/-! ### What a reset keeps (Table 18-6) -/

/-- Objects that NVM holds (R343, R350, R483): the addresses of both ports, `FW_PREFERRED`, and `KEY_RIGHTS` with the keys, so that a key which
can open a harbourmaster session remains. (DEDUCED, log 10.) -/
def nvmKey (k : Nat) : Bool :=
  k == key 0x5100 3 || k == key 0x1400 5 || ([0, 1] : List Nat).any fun p => ([2, 4, 5, 6, 7, 8, 9] : List Nat).any fun i => k == key (0x1100 + p) i

/-- NVM objects as NVM holds them: a write that still waits is lost (Table 18-7). (DEDUCED, log 10.) -/
def nvmObjects (s : State) : Tbl Nat :=
  s.dev.power.nvmWait.foldl (fun t w => putRw w.1 w.2 t) (s.dev.dict.rw.filter fun p => nvmKey p.1)

/-- Keys as NVM holds them. -/
def nvmKeys (s : State) : Tbl (List Byte) := s.dev.power.keyWait.foldl (fun t w => tset w.1 w.2 t) s.link.keys

/-- A record write that has not completed leaves the copy that it writes without a good CHECK: the copy of the lower SEQUENCE (R440).
(DEDUCED, log 10, log 33.) -/
def tornRecord (c : Cal) : Cal :=
  let seq := fun (r : Option CalRec) => match r with | some r => if r.good then r.seq else 0 | none => 0
  let c := { c with waiting := none }
  if seq c.copyA ≤ seq c.copyB then { c with copyA := none } else { c with copyB := none }

/-- The records of a channel across a reset. (DEDUCED, log 33.) -/
def keptCal (c : Cal) : Cal :=
  let c := if c.waiting.isSome then tornRecord c else c
  { Cal.reset with copyA := c.copyA, copyB := c.copyB, retired := c.retired }

/-- Power state across a reset of kind `k`. The rail comparators run on; a supply reset and PORn end the brace state. What a brace state that
goes on has found stays; otherwise its objects return to their defaults (R8). (DEDUCED, log 33.) -/
def keptPower (k : Nat) (ph : RunPhase) (p : Power) : Power :=
  let torn := fun (i : Nat) => p.imageWait.contains i
  let b := k != 3 && k != 2 && p.brace
  { Power.reset with
    phase := ph, railMv := p.railMv, below := if b then p.below else 0, brace := b, braceAt := if b then p.braceAt else 0,
    braceRails := if b then p.braceRails else 0, braceMin := if b then p.braceMin else 0, clearAt := if b then p.clearAt else none, resetCause := p.resetCause, pendingCause := k,
    bootAlways := p.bootAlways, bootNvm := p.bootNvm, bootUsed := p.bootUsed, startFail := p.startFail, mooringReason := 0,
    bootsel := p.bootsel, running := 0xFF, imageA := p.imageA && !torn 0, imageB := p.imageB && !torn 1, imageIdA := p.imageIdA,
    imageIdB := p.imageIdB, imagesHeld := p.imagesHeld, starts := p.starts }

/-- Faults across a reset: the log, retirements and the state of FAULTn; of the waiting entries only those of FATAL faults (R460).
(DEDUCED, log 33.) -/
def keptFaults (f : Faults) : Faults :=
  { Faults.reset with
    log := f.log, queue := f.queue.filter fun e => e.cls == 4, faultnLow := f.faultnLow, pe64 := f.pe64, pe65 := f.pe65,
    retired := f.retired }

/-- A reset of kind `k` (R486): every channel parks, every pulse line goes to high impedance, all content, configuration and sessions are
cleared. (DEDUCED, log 33.) -/
def resetDevice (k : Nat) (ph : RunPhase) (s : State) : State :=
  { s with
    dev := { Device.reset with
      clock := { Clock.reset with
        n := s.now, locked := false, epochSet := false, syncSource := 0, refPresent := s.dev.clock.refPresent, dramClkLocked := false },
      dict := { Dict.reset with rw := nvmObjects s },
      ring := { Ring.reset with devpos := s.dev.ring.devpos, st := 1 },
      scratch := { Scratch.reset with repairs := s.dev.scratch.repairs },
      cals := s.dev.cals.map fun p => (p.1, keptCal p.2),
      faults := keptFaults s.dev.faults,
      power := keptPower k ph s.dev.power },
    link := { Link.reset with
      keys := nvmKeys s, nonces := s.link.nonces, ports := [(0, { Port.reset 0 with up := false }), (1, { Port.reset 1 with up := false })] },
    ticked := [] }

/-! ### Steps 1 to 3 (R480 to R484) -/

/-- Sets the bits of `m` in `REPLACE_REASONS` at one edge, with one notice (R463). -/
def raiseReasons (m : Nat) (s : State) : State :=
  if clearBits m s.dev.faults.reasons = 0 then s
  else requestNotice (modFaults (fun f =>
    { f with reasons := f.reasons ||| m, since := if f.reasons = 0 then s.time else f.since }) s)

/-- Both links come up with the settings that NVM holds (R341, R343, Table 18-4): at 25 Gb/s with RS-FEC, or at 10 Gb/s where `PORT_SPEED_SEL`
asks for it. (DESIGN CHOICE, log 60.) -/
def linksUp (s : State) : State :=
  forAll [0, 1] (fun p s =>
    let c := portCfgOf s p
    modPort p (fun x => { x with cfg := c, up := true, speed25 := c.speedSel != 2, rsFec := c.speedSel != 2 }) s) s

/-- What a start finds in NVM: a used standby slot, a fault reset before it, images that fail (Table 17-5). (DEDUCED, log 34.) -/
def startReasons (s : State) : State :=
  let p := s.dev.power
  let s := raiseReasons (b2n (!s.dev.faults.retired.isEmpty) + 512 * b2n (p.resetCause == 4) + 1024 * b2n (!p.badImages.isEmpty)) s
  forAll p.badImages (fun i s => notice 0x0066 1 0 0 [i] s) s

/-- The fault log entries that always-on logic held are written (R460). (DEDUCED, log 10.) -/
def writeHeld (s : State) : State := if s.dev.power.brace then s else flushLog s

/-- The boot ROM enters mooring mode (R484). -/
def moor (reason : Nat) (s : State) : State :=
  startReasons (writeHeld (linksUp (modPower (fun p => { p with phase := .mooring, mooringReason := reason, running := 0xFF }) s)))

/-- Does image `i` pass its check? -/
def imageOk (s : State) (i : Nat) : Bool := if i = 0 then s.dev.power.imageA else s.dev.power.imageB

/-- Image selection and the start of resident firmware (R482): then the start waits for REFCLK. (DEDUCED, log 32.) -/
def runImage (s : State) : State :=
  let a := s.rwv 0x5100 3
  let b := 1 - a
  let go := fun (i : Nat) (bad : List Nat) =>
    startReasons (writeHeld (linksUp (modPower (fun p => { p with phase := .starting 4, running := i, badImages := bad }) s)))
  if imageOk s a then go a []
  else if imageOk s b then go b [a]
  else moor 2 (modPower (fun p => { p with badImages := [a, b] }) s)

/-- A start begins: the cause of the reset is recorded and the start counted. -/
def beginStart (s : State) : State :=
  modPower (fun p => { p with phase := .starting 1, resetCause := p.pendingCause, starts := wrap32 (p.starts + 1), startAt := s.now }) s

/-- The start ends with a start reset at step `k` (R480). -/
def failStart (k : Nat) (s : State) : State := resetDevice 5 (.starting 1) (modPower (fun p => { p with startFail := k }) s)

/-- Steps 1 to 3. A start that a start reset ends begins again at once: with the same local memory it fails until the counter reads 3
(R481). (DEDUCED, log 32.) -/
def bootFrom : Nat → Bool → Bool → State → State
  | 0, _, _, s => s
  | k + 1, localOk, vioDropped, s =>
    let s := beginStart s
    let v := if vioDropped then s.dev.power.bootNvm else s.dev.power.bootAlways
    let s := modPower (fun p => { p with bootUsed := v }) s
    if v ≥ 3 then moor 1 s
    else
      let s := modPower (fun p => { p with bootAlways := v + 1, bootNvm := v + 1 }) s
      if !localOk then bootFrom k localOk false (failStart 1 s)
      else if s.dev.power.bootsel then moor 3 s
      else runImage s

/-- A start from the state that a reset has left. -/
def boot (localOk vioDropped : Bool) : State → State := bootFrom 5 localOk vioDropped

/-- A later step fails: a start reset, and the next start (R480). (DEDUCED, log 32.) -/
def startFails (k : Nat) (s : State) : State := boot true false (failStart k s)

/-! ### FATAL (R460, R461) -/

/-- A FATAL fault is declared: FAULTn low, the notice, the log entry, the fault reset and the start after it. (DESIGN CHOICE, log 31.) -/
def declareFatal (cause location : Nat) (s : State) : State :=
  let s := modFaults (fun f => { f with faultnLow := true }) s
  let s := reportFault 4 0 0 0x0056 location cause location (notice 0x0056 0 0 0 [cause, location] s)
  boot true false (resetDevice 4 .resetWait s)

/-! ### March test and row repair at start (R412, R413) -/

/-- Location of a scratchpad bank, or of a word of it. -/
def bankLoc (b : Nat) : Loc :=
  { die := 0, tile := 33 + b / 8, macro_ := 0, bank := b, word := 0, bit_ := 0, depth := 5, data := true, physical := false,
    repair := false, retired := false }

/-- Rows of bank `b` to be replaced. -/
def failingRows (bad : List (Nat × Nat)) (b : Nat) : List Nat :=
  ((bad.filter fun x => x.1 == b && x.2 < 1024).map Prod.snd).eraseDups

/-- A bank of B124 to B127 that can take a role. -/
def freeBank (s : State) : Option Nat :=
  ([124, 125, 126, 127] : List Nat).find? fun x => !(s.bank x).retired && (s.bank x).replaces == 0xFF

/-- Bank `b` is retired: its role passes, with its owner. (DEDUCED, log 34.) -/
def retireBank (b : Nat) (s : State) : State :=
  let x := if b < 124 then freeBank s else none
  let s := match x with
    | some x => modDict (fun d => { d with
        active := putVal (0x3100 + x) 1 (ownerDefault b) d.active, staged := putVal (0x3100 + x) 1 (ownerDefault b) d.staged })
        (modBank x (fun k => { k with replaces := b }) s)
    | none => s
  let p := x.getD 0xFF
  let s := reportFault 3 0 b 0x0033 (locate s { bankLoc b with retired := true }) p 0 (notice 0x0033 0 0 b [p] s)
  degraded (raiseReason 3 s)

/-- The march test at start, with the rows that failed it. -/
def startMarch (badRows : List (Nat × Nat)) (s : State) : State :=
  let bad := badRows ++ s.dev.scratch.repairs
  let s := modScratch (fun x => { x with repairs := [] }) s
  let bs := (List.range 128).filter fun b => !(failingRows bad b).isEmpty
  let s := forAll bs (fun b s =>
    let n := (failingRows bad b).length
    modBank b (fun k => { k with spareUsed := min n 4, retired := decide (n > 4) }) s) s
  forAll (bs.filter fun b => decide ((failingRows bad b).length > 4)) retireBank s

/-- A retired bank of B0 to B123 whose role no bank has taken. -/
def roleLost (s : State) : Bool :=
  (List.range 124).any fun b => (s.bank b).retired && !([124, 125, 126, 127] : List Nat).any fun x => (s.bank x).replaces == b

/-! ### DRAM training at start (R392) -/

/-- Location of DRAM channel `m`. -/
def dramLoc (m : Nat) : Loc := Loc.die2 (9 + m) true

/-- Channel `m` is out of service for good (R388): reason 1 third freeze, 2 reinitialisation, 3 training. -/
def dramOffline (m reason : Nat) (s : State) : State :=
  let s := modChan m (fun c => { c with st := 5, phase := .none, changing := false, afterRelease := false, retry := none }) s
  let s := modDram (fun d => { d with due := d.due.filter fun k => k / 2 != m / 2 }) s
  let s := reportFault 3 6 (9 + m) 0x0022 (locate s { dramLoc m with retired := true }) reason 0 (notice 0x0022 0 6 (9 + m) [reason] s)
  degraded (raiseReason 1 s)

/-- Twin of channel `m`. -/
def twin (m : Nat) : Nat := m / 2 * 2 + (1 - m % 2)

/-! ### Calibration records at start (R441) -/

/-- The factory record of channel `c`. -/
def factoryRecord (c : Nat) : CalRec :=
  { good := true, seq := 0, time := Config.factoryTime c, temp := Config.factoryTemp c, retired := [],
    table := {
      trims := (List.range 66).map (Config.factoryTrim c), k := (List.range 5).map (Config.factoryK c),
      oc := (List.range 5).map (Config.factoryOC c), thOffset := (List.range 8).map (Config.factoryThOffset c),
      senseCorr := (List.range 4).map (Config.factorySenseCorr c), monOffset := Config.factoryMonOffset c,
      monGain := Config.factoryMonGain c } }

def goodCopy (r : Option CalRec) : Option CalRec := match r with | some r => if r.good then some r else none | none => none

/-- Takes record `r`, read from source `src`, in both copies. -/
def takeRecordCopy (r : CalRec) (src : Nat) (c : Cal) : Cal :=
  { c with table := r.table, source := src, tCal := r.temp, time := r.time, copyA := some r, copyB := some r }

/-- Location of the calibration records in NVM. Table 1-6 places the NVM in neither hierarchy: the model takes the data hierarchy, since a record
is stored content. (DESIGN CHOICE, log 55.) -/
def calNvmLoc : Loc :=
  { die := 15, tile := 0, macro_ := 2, bank := 0, word := 0, bit_ := 0, depth := 4, data := true, physical := false, repair := false,
    retired := false }

/-- The active table of channel `c` at a start. (DEDUCED, log 34.) -/
def selectRecord (c : Nat) (s : State) : State :=
  match goodCopy (s.cal c).copyA, goodCopy (s.cal c).copyB with
  | some a, some b =>
    if a.seq ≥ b.seq then modCal c (fun x => { x with table := a.table, source := 0, tCal := a.temp, time := a.time }) s
    else modCal c (fun x => { x with table := b.table, source := 1, tCal := b.temp, time := b.time }) s
  | some a, none => modCal c (takeRecordCopy a 0) s
  | none, some b => modCal c (takeRecordCopy b 1) s
  | none, none =>
    if Config.factoryGood c then
      let s := modCal c (fun x => { takeRecordCopy (factoryRecord c) 2 x with fallback := true }) s
      reportFault 0 2 c 0x0043 (locate s calNvmLoc) 0 0 (notice 0x0043 1 2 c [] s)
    else
      let s := modCal c (fun x => { x with table := CalTable.unity, source := 3 }) s
      let s := reportFault 3 2 c 0x0044 (locate s calNvmLoc) 0 0 (notice 0x0044 0 2 c [] s)
      degraded (raiseReason 5 s)

/-- A channel at a start: its table, and the elements that serve (R434). -/
def startChannel (c : Nat) (s : State) : State :=
  let s := selectRecord c s
  let ret := (s.cal c).retired
  if ret.isEmpty then s
  else
    let s := modCal c (fun x => { x with map := ((List.range 66).filter fun k => !ret.contains k).take 63 }) s
    let s := if ret.length ≥ 3 then raiseReason 4 s else s
    if ret.length ≥ 4 then loseChannel c (channelLoc c 0) s else s

/-- Location of block `b` of physical slot `k` (Table 17-7), in the control hierarchy (R31); the slot is retired. -/
def slotLoc (k b : Nat) : Loc :=
  { die := 0, tile := k / 2, macro_ := 128 * (k % 2) + b, bank := 0, word := 0, bit_ := 0, depth := 4, data := false, physical := true,
    repair := false, retired := true }

/-- Engines at a start: the mapping of R23. An engine whose slot is retired and which no standby slot serves is in FAULT (R24). The spec gives
this start no report and no location: the model loses the channel at the retired slot, of whose blocks it names the state (9). (DESIGN CHOICE,
log 55.) -/
def startEngine (e : Nat) (s : State) : State :=
  if !s.dev.faults.retired.contains e then s
  else if s.dev.faults.pe64 = e then modEngine e (fun g => { g with phys := 64 }) s
  else if s.dev.faults.pe65 = e then modEngine e (fun g => { g with phys := 65 }) s
  else loseChannel e (slotLoc e 9) (modCore e (fun c => { c with st := .fault }) s)

/-! ### Commands -/

/-- PORN_RELEASE (R480, R461). -/
def execPornRelease (t : Nat) (devpos : Fin 8) (bootsel localMemOk vioDropped : Bool) : State → Host.Outcome State Fault Refusal :=
  atEdge t (occurs (fun s => s.dev.power.phase == .porLow) fun s =>
    let s := modFaults (fun f => { f with faultnLow := false }) (modRing (fun r => { r with devpos := devpos }) s)
    boot localMemOk vioDropped (modPower (fun p => { p with bootsel := bootsel, pendingCause := if vioDropped then 1 else 2 }) s))

/-- PORN_ASSERT (R472, R486): a pulse shorter than 1 µs is ignored. -/
def execPornAssert (t ns : Nat) : State → Host.Outcome State Fault Refusal :=
  atEdge t (occurs (fun _ => 1000 ≤ ns) (resetDevice 2 .porLow))

/-- ECLK_LOCK (R270, R292, R412, R392): the edges count from here, and the watch of SYNC begins; without SYNC the epoch edge is the first edge
after its 5 ms. `dramClk`: the DRAM clock's crystal loop has locked (Table 10-9). (DESIGN CHOICE, log 60.) -/
def execEclkLock (t : Nat) (dramClk : Bool) (badRows : List (Nat × Nat)) (badDram : List Nat) : State → Host.Outcome State Fault Refusal :=
  fun s => if s.dev.power.phase != .starting 4 then atEdge t id s
  else
    let s := modClock (fun c => { c with
      n := t, numbering := .watch t [] (some (t + watchEdges + 1)), timeAcc := 0, refPresent := true, locked := true, dramClkLocked := dramClk }) s
    let s := startMarch badRows s
    if roleLost s then .next (startFails 4 s)
    else
      let ms := (List.range 6).filter badDram.contains
      let s := forAll ms (fun m s => dramOffline m 3 s) s
      if (List.range 3).any fun p => (s.chan (2 * p)).st == 5 && (s.chan (2 * p + 1)).st == 5 then .next (startFails 5 s)
      else .next (modPower (fun p => { p with phase := .starting 7 }) s)

/-- DICTIONARY_READY (R480, R481, R461, R441): once the epoch edge is set. `us`: the start's duration. -/
def execDictionaryReady (t us : Nat) : State → Host.Outcome State Fault Refusal :=
  atEdge t (occurs (fun s => s.dev.power.phase == .starting 7 && s.dev.clock.epochSet) fun s =>
    let s := modClock (fun c => { c with numbering := .plain }) s
    let s := modPower (fun p => { p with phase := .ready, bootAlways := 0, bootNvm := 0, duration := us % 2 ^ 32, mooringReason := 0 }) s
    let s := modFaults (fun f => { f with faultnLow := false }) s
    let s := forAll (List.range 64) startEngine (forAll (List.range 64) startChannel s)
    notice 0x0064 3 0 0 [s.dev.power.resetCause, s.dev.power.bootUsed, us] s)

/-- REFCLK_WAIT_TIMEOUT (Table 18-4, step 4): no REFCLK within 10 s. -/
def execRefclkWaitTimeout (t : Nat) : State → Host.Outcome State Fault Refusal :=
  atEdge t (occurs (fun s => s.dev.power.phase == .starting 4) (startFails 4))

/-- RESTART_CMD (R485, R487). The reset falls 10 ms after the response. -/
def restartCmd (into : Bool) (s : State) : State :=
  modPower (fun p => { p with
    restart := some (s.now + 4000000, into), bootAlways := if into then p.bootAlways else 0,
    bootNvm := if into then p.bootNvm else 0 }) s

/-- RESTART_NORMAL (R485, R487). -/
def execRestartNormal (t : Nat) (r : Req) : State → Host.Outcome State Fault Refusal :=
  atEdge t (command r 0x2210 (fun _ => []) (restartCmd false))

/-- RESTART_MOORING (R487). -/
def execRestartMooring (t : Nat) (r : Req) : State → Host.Outcome State Fault Refusal :=
  atEdge t (command r 0x2210 (fun _ => []) (restartCmd true))

/-- SOFTWARE_RESET (Table 18-6): 10 ms after the response to `RESTART_CMD`. -/
def execSoftwareReset (t : Nat) : State → Host.Outcome State Fault Refusal :=
  atEdge t fun s => match s.dev.power.restart with
    | some (n, into) =>
      if s.now < n then s
      else
        let s := resetDevice 6 .resetWait s
        if into then moor 4 (beginStart s) else boot true false s
    | none => s

/-- SUPPLY_RESET (R477): a digital rail is seen below its reset level. -/
def execSupplyReset (t : Nat) (k : Fin 11) : State → Host.Outcome State Fault Refusal :=
  atEdge t (occurs (fun s => k.val < 7 && s.dev.power.phase != .porLow) (resetDevice 3 .resetWait))

/-- SUPPLY_RESET_RESTART (Table 18-6): 1 ms after every rail has recovered. -/
def execSupplyResetRestart (t : Nat) (vioDropped localMemOk : Bool) : State → Host.Outcome State Fault Refusal :=
  atEdge t (occurs (fun s => s.dev.power.phase == .resetWait && s.dev.power.pendingCause == 3) (boot localMemOk vioDropped))

end Sys2Proof.Machine
end

