-- ==== Sys2Proof/Machine/Calib.lean ====
section
/-! DEFINITION. Calibration: temperature reads, passes, element rotation, swaps and records (chapter 16). -/

namespace Sys2Proof.Machine

/-- |a − b| is more than `d` hundredths of a degree, for temperatures in 1/1,024 °C. -/
def tempMoved (a b : Int) (d : Nat) : Bool := decide (100 * (a - b).natAbs > 1024 * d)

/-- `CAL_DELTA_T`. -/
def calDelta (s : State) : Nat := s.act 0x5000 2

/-- A pass runs on channel `c`. -/
def inPass (s : State) (c : Nat) : Bool := (s.cal c).pass.any fun p => p.done.isNone

/-- No pass can run on channel `c`: three elements are retired, or the channel is lost (R434, R459). -/
def passesStopped (s : State) (c : Nat) : Bool := decide ((s.cal c).retired.length ≥ 3) || (s.out c).lost

/-- A pass in progress is discarded (R437). -/
def discardPass (c : Nat) (s : State) : State :=
  if inPass s c then modCal c (fun x => { x with pass := none, discards := sat32 (x.discards + 1) }) s else s

/-- The read of channel `c` (R435, R437): it may discard the pass in progress, or make the channel due. (DEDUCED, log 39.) -/
def readChannel (c : Nat) (temp : Int) (s : State) : State :=
  let x := s.cal c
  match x.pass with
  | some p =>
    if p.done.isNone && decide (200 * (temp - p.tStart).natAbs > 1024 * calDelta s) then
      notice 0x0041 2 2 c [ofInt 64 p.tStart, ofInt 64 temp] (discardPass c s)
    else s
  | none =>
    if tempMoved temp x.tCal (calDelta s) && x.dueAt.isNone && !passesStopped s c then
      let n := s.now
      modCal c (fun x => { x with dueAt := some n }) s
    else s

/-- The channel of quay `q` whose pass starts next (R436): due longest, then lowest. (DEDUCED, log 39.) -/
def nextPass (s : State) (q : Nat) : Option Nat :=
  let l := ((List.range 8).map (8 * q + ·)).filter fun c => (s.cal c).dueAt.isSome && (s.cal c).pass.isNone && !passesStopped s c
  l.foldl (fun m c => match m with
    | none => some c
    | some d => if (s.cal c).dueAt.getD 0 < (s.cal d).dueAt.getD 0 then some c else some d) none

/-- The first element from `k` up that is not retired; 66 for none. -/
def nextElement (retired : List Nat) (k : Nat) : Nat := ((List.range 66).find? fun e => k ≤ e && !retired.contains e).getD 66

/-- A free converter starts a pass at the read edge (R436). -/
def startPass (q : Nat) (temps : List Int) (s : State) : State :=
  if s.act 0x5000 1 != 1 || (List.range 8).any (fun k => inPass s (8 * q + k)) then s
  else match nextPass s q with
    | some c =>
      let n := s.now
      modCal c (fun x => { x with pass := some {
        start := n, tStart := listAt 0 (c % 8) temps, element := nextElement x.retired 0, trims := [], result := none, done := none } }) s
    | none => s

/-- CAL_TEMP_READ (R435 to R437). `temps`: the eight channels of the quay, in 1/1,024 °C. -/
def execCalTempRead (t : Nat) (q : Fin 8) (temps : List Int) : State → Host.Outcome State Fault Refusal :=
  atEdge t (occurs (fun s => s.now % 4000000 == 0 && s.dev.power.phase == .ready && temps.length == 8) fun s =>
    startPass q temps (forAll (List.range 8) (fun k s => readChannel (8 * q + k) (listAt 0 k temps) s) s))

/-- An element is retired (R434). -/
def retireElement (c e : Nat) (s : State) : State :=
  let s := modCal c (fun x => { x with retired := x.retired ++ [e] }) s
  let n := (s.cal c).retired.length
  let s := notice 0x0042 1 2 c [e, n] s
  let l := locate s { channelLoc c 0 with bank := e, depth := 5, retired := true }
  if n = 4 then loseChannel c (channelLoc c 0) s
  else if n = 3 then
    degraded (raiseReason 4 (reportFault 3 2 c 0x0042 l e n (modCal c (fun x => { x with pass := none, dueAt := none }) s)))
  else reportFault 0 2 c 0x0042 l e n s

/-- CAL_ELEMENT_MEASURED (R433, R434): 30 ms for each element. -/
def execCalElementMeasured (t : Nat) (c : Fin 64) (trim : Int) : State → Host.Outcome State Fault Refusal :=
  atEdge t fun s => match (s.cal c).pass with
    | some p =>
      if p.done.isSome || p.element ≥ 66 || s.now != p.start + 12000000 * (p.element + 1) then s
      else
        let e := p.element
        let bad := decide (trim < -128) || decide (trim > 127)
        let s := modCal c (fun x => { x with pass := some { p with
          element := nextElement x.retired (e + 1), trims := if bad then p.trims else tset e trim p.trims } }) s
        if bad then retireElement c e s else s
    | none => s

/-- Replaces element `a` by `b` where it serves. (DEDUCED, log 39.) -/
def substitute (a b : Nat) (map : List Nat) : List Nat := map.map fun k => if k = a then b else k

/-- ELEMENT_SUBSTITUTION (R432): a trimmed spare takes over the position of the element that is measured next, at a tick edge of the quay
(R205). -/
def execElementSubstitution (t : Nat) (c : Fin 64) : State → Host.Outcome State Fault Refusal :=
  atEdge t (occurs (fun s => s.now % s.gridE c == 0) fun s => match (s.cal c).pass with
    | some p =>
      let x := s.cal c
      let spare := (List.range 66).find? fun k => k != p.element && !x.map.contains k && !x.retired.contains k
      match spare with
      | some k => if p.done.isNone && x.map.contains p.element then modCal c (fun x => { x with map := substitute p.element k x.map }) s else s
      | none => s
    | none => s)

/-- A pass produces no value outside the ranges of R431. -/
def inRange (r : CalResult) : CalResult :=
  { r with k := r.k.map fun k => max 0x380000 (min k 0x480000), oc := r.oc.map fun v => max (-4096) (min v 4095) }

/-- CAL_PASS_END (R433, R438): P, 800,000,000 ECLK after the start. -/
def execCalPassEnd (t : Nat) (c : Fin 64) (res : CalResult) : State → Host.Outcome State Fault Refusal :=
  atEdge t fun s => match (s.cal c).pass with
    | some p =>
      if p.done.isNone && s.now == p.start + 800000000 then
        let n := s.now
        modCal c (fun x => { x with pass := some { p with result := some (inRange res), done := some n } }) s
      else s
    | none => s

/-- The table that a pass makes: an uncalibrated channel keeps unity K and OC 0 (R441). (DEDUCED, log 39.) -/
def newTable (x : Cal) (p : CalPass) (r : CalResult) : CalTable :=
  { trims := (List.range 66).map fun e => tget (listAt 0 e x.table.trims) e p.trims,
    k := if x.source = 3 then x.table.k else r.k, oc := if x.source = 3 then x.table.oc else r.oc,
    thOffset := r.thOffset, senseCorr := r.senseCorr, monOffset := r.monOffset, monGain := r.monGain }

/-- Channel `c` swaps (R438, R439); its record waits to be written (R440). -/
def swapChannel (c : Nat) (s : State) : State :=
  match (s.cal c).pass with
  | some p =>
    match p.result with
    | some r =>
      let time := s.time
      let n := s.now
      let s := modCal c (fun x =>
        let tb := newTable x p r
        { x with
          table := tb, source := if x.source = 3 then 3 else 4, tCal := p.tStart, time := time, count := sat32 (x.count + 1), dueAt := none,
          pass := none, waiting := some { good := true, seq := 0, time := time, temp := p.tStart, table := tb, retired := x.retired } }) s
      forAll [0, 1, 2, 3] (fun k s =>
        if (s.cmp (4 * c + k)).armed then modCmp (4 * c + k) (fun x => { x with thChanged := some n }) s else s) s
    | none => s
  | none => s

/-- Channels whose finished pass swaps at the edge of the step: the first epoch edge at or after P + 40,000. -/
def swapping (s : State) : List Nat :=
  (List.range 64).filter fun c => (s.cal c).pass.any fun p => p.done.any fun d => d + 40000 ≤ s.now

/-- CAL_SWAP (R438). -/
def execCalSwap (t : Nat) : State → Host.Outcome State Fault Refusal :=
  atEdge t (occurs (fun s => s.now % 400000 == 0 && !(swapping s).isEmpty) fun s =>
    let cs := swapping s
    let time := s.time
    let s := forAll cs swapChannel s
    let s := modDev (fun d => { d with calSwaps := sat32 (d.calSwaps + 1), calLast := time }) s
    notice 0x0040 3 0 0 [(cs.map fun c => 2 ^ c).foldl (· + ·) 0] (assertLine (s.now + 1) 2020 s))

/-- SEQUENCE of a copy. -/
def copySeq (r : Option CalRec) : Nat := match goodCopy r with | some r => r.seq | none => 0
where
  goodCopy (r : Option CalRec) : Option CalRec := match r with | some r => if r.good then some r else none | none => none

/-- CAL_RECORD_WRITTEN (R440): the copy of the lower SEQUENCE takes the record, its SEQUENCE one above the other's. -/
def execCalRecordWritten (t : Nat) (c : Fin 64) : State → Host.Outcome State Fault Refusal :=
  atEdge t (occurs (fun s => !s.dev.power.brace) fun s =>
    match (s.cal c).waiting with
    | some r => modCal c (fun x =>
        let a := copySeq x.copyA
        let b := copySeq x.copyB
        if a ≤ b then { x with waiting := none, copyA := some { r with seq := wrap32 (b + 1) } }
        else { x with waiting := none, copyB := some { r with seq := wrap32 (a + 1) } }) s
    | none => s)

/-- The refusals of `CAL_REQ` (R444). -/
def calReqCodes (v : Nat) (s : State) : List Nat :=
  (List.range 64).map fun c => failIf (bit v c && (s.act 0x5000 1 != 1 || passesStopped s c)) (0x06800000 + c)

/-- The selected channels become due. -/
def calDue (v : Nat) (s : State) : State :=
  let n := s.now
  forAll ((List.range 64).filter (bit v)) (fun c s => modCal c (fun x =>
    { x with dueAt := if x.dueAt.isNone && x.pass.isNone then some n else x.dueAt }) s) s

/-- CAL_REQ (R435, R444). -/
def execCalReq (t : Nat) (r : Req) (v : Nat) : State → Host.Outcome State Fault Refusal :=
  atEdge t (command r 0x5000 (calReqCodes v) (calDue v))

end Sys2Proof.Machine
end

