-- ==== Sys2Proof/Machine/Tick.lean ====
section
/-! DEFINITION. One tick of the grid of a quay (R114, R116, R205), which OUTPUT_TICK runs. -/

namespace Sys2Proof.Machine

/-- The engines, lines and channels of quay `q` at the tick at the edge of the step: what was due on the lines before the edge, the engines,
the lines with what their engines now hold, and the DAC latches. Bit k of `late`: the fetch has not brought the step entry of a transition that
engine 8q + k begins at the tick (R72, R74). Bits 4k + 3 to 4k of `det`: what the analog stage of channel 8q + k shows at the tick (R225).
(DESIGN CHOICE, log 3, log 58.) -/
def quayTick (q late det : Nat) (s : State) : State :=
  let s := forAll (List.range 8) (fun k s => setDetectors (8 * q + k) (bits det (4 * k + 3) (4 * k)) s) s
  let s := forAll (List.range 32) (fun k s => lineCatchUp (32 * q + k) s) s
  let s := forAll (List.range 8) (fun k s => engineTick (8 * q + k) (bit late k) s) s
  let s := forAll (List.range 32) (fun k s => lineTick (32 * q + k) s) s
  refreshViews (forAll (List.range 8) (fun k s => latchDac (8 * q + k) s) s)

end Sys2Proof.Machine
end

