-- ==== Sys2Proof/Machine/Clock.lean ====
section
/-! DEFINITION. Clocks, SYNC and time of day: REFCLK loss and return, SYNC edges and realignment, the PTP servo (chapter 10). -/

namespace Sys2Proof.Machine

/-- SYNC checks are suspended in holdover and while relocking (R286, Table 10-8). -/
def syncChecked (s : State) : Bool :=
  s.dev.clock.syncSource == 1 && !s.dev.clock.holdover && !s.dev.clock.relocking

/-- Edges from the expected sampling edge, at which N + 64 is a multiple of 400,000, to the edge of the step (R272). -/
def syncDifference (n : Nat) : Int :=
  let d := (n + 64) % 400000
  if d ≤ 200000 then (d : Int) else (d : Int) - 400000

/-! ### SYNC (R270, R272, R288, R300) -/

/-- A sampling edge of SYNC during a start: three edges 400,000 ECLK apart within 5 ms of the lock, unless the timing master reads
`SYNC_SOURCE` 0 (R300); the epoch edge lies 64 ECLK after the first edge that follows those 5 ms, shifted by the alignment.
(DESIGN CHOICE, log 60.) -/
def watchSync (lock : Nat) (edges : List Nat) (epoch : Option Nat) (s : State) : State :=
  let n := s.now
  if n ≤ lock + watchEdges then
    let sees := edges.contains (n - 400000) && edges.contains (n - 800000) && 800000 ≤ n && s.dev.ring.masterSync != some false
    modClock (fun c => { c with
      numbering := .watch lock (n :: edges) (if sees then none else epoch), syncSource := if sees then 1 else c.syncSource }) s
  else match epoch with
    | none => modClock (fun c => { c with
        numbering := .watch lock (n :: edges) (some ((n : Int) + 64 + s.dev.ring.epochShift).toNat) }) s
    | some _ => s

/-- The edge of a SYNC pulse is measured against the expected one (R272). -/
def checkSync (s : State) : State :=
  let d := syncDifference s.now
  if !syncChecked s then s
  else if d.natAbs ≤ 1 then modClock (fun c => { c with syncOffset := d, syncMissed := false }) s
  else notice 0x000B 2 0 0 [ofInt 64 d] (modClock (fun c => { c with syncOffset := d, syncSlips := sat32 (c.syncSlips + 1) }) s)

/-- In a ring of more than one aligned module (R304). -/
def inRing (s : State) : Bool :=
  let r := s.dev.ring
  (r.st == 3 || r.st == 4) && ((List.range 8).filter (bit r.members)).length ≥ 2

/-- SYNC_EDGE (R270, R272, R288): the sampling edge of a SYNC rising edge. An accepted realignment takes its epoch edge from it. -/
def execSyncEdge (t : Nat) : State → Host.Outcome State Fault Refusal :=
  atEdge t fun s =>
    match s.dev.clock.numbering with
    | .watch lock edges epoch => watchSync lock edges epoch s
    | _ =>
      if s.dev.clock.syncSource != 1 then s
      else
        let s := modClock (fun c => { c with lastSync := some c.n }) (checkSync s)
        if s.dev.clock.realign then
          modClock (fun c => { c with realign := false, numbering := .realign (c.n + 64) }) s
        else s

/-- SYNC_MISS (R272): an expected edge has passed 2 ECLK without a sampling edge. -/
def execSyncMiss (t : Nat) : State → Host.Outcome State Fault Refusal :=
  atEdge t (occurs (fun s => syncChecked s && (s.now + 62) % 400000 == 0 && !s.dev.clock.lastSync.any fun e => decide (s.now ≤ e + 3))
    (modClock fun c => { c with syncMissed := true, syncMisses := sat32 (c.syncMisses + 1) }))

/-- Is the engine IDLE, STOPPED or FAULT (R288, R303)? -/
def engineRests (s : State) (e : Nat) : Bool :=
  let c := s.core e
  !(s.engine e).takeover.isSome && (c.st == .idle || c.st == .stopped || c.st == .fault)

/-- The refusals of `SYNC_REALIGN` (R288, R304), an engine of another module as last reported among them. (DESIGN CHOICE, log 20.) -/
def realignCodes (s : State) : List Nat :=
  let own := (List.range 64).find? fun e => !engineRests s e
  let p := s.dev.ring.devpos
  [failIf (s.dev.clock.syncSource != 1 || s.dev.clock.holdover) 0x06310000] ++
  (if inRing s then
    [failIf (s.dev.ring.master != p) 0x06320000,
     match own with | some e => 0x06330000 + 256 * p + e | none => 0,
     match s.dev.ring.blocker with | some (q, e) => 0x06330000 + 256 * q + e | none => 0]
   else [match own with | some e => 0x06300000 + e | none => 0])

/-- An accepted realignment waits for the next SYNC edge. -/
def acceptRealign : State → State := modClock fun c => { c with realign := true }

/-- Is the module a member of a running ring that follows its timing master? -/
def followsMaster (s : State) : Bool := inRing s && s.dev.ring.master != s.dev.ring.devpos && s.dev.clock.numbering == .plain

/-- SYNC_REALIGN (R288, R304): a request of the host, or, on a module that follows the timing master, the realignment that the master has
accepted, which the ring tells it (`none`). `blocked`: an engine of another module that blocks it, by position and number. -/
def execSyncRealign (t : Nat) (r : Option Req) (v : Nat) (blocked : Option (Nat × Nat)) : State → Host.Outcome State Fault Refusal :=
  atEdge t fun s => match r with
    | some r => command r 0x2001 (fun s => must1 v :: realignCodes s) acceptRealign (modRing (fun x => { x with blocker := blocked }) s)
    | none => occurs followsMaster acceptRealign s

/-- REFCLK_LOSS (R286): the loop runs in holdover. -/
def execRefclkLoss (t : Nat) : State → Host.Outcome State Fault Refusal :=
  atEdge t (occurs (fun s => s.dev.clock.refPresent) fun s =>
    notice 0x000C 1 0 0 [] (modClock (fun c => { c with
      refPresent := false, locked := false, holdover := true, relocking := false, refLosses := sat32 (c.refLosses + 1), holdFrom := c.n }) s))

/-- Time in holdover, ns: the holdovers that have ended, and the one that runs (0x2000:03). How long an edge of a holdover lasts is free
(R286). (DESIGN CHOICE, log 20.) -/
def holdoverNs (s : State) : Nat :=
  let c := s.dev.clock
  c.holdoverNs + (if c.holdover then Config.holdoverTime (c.n - c.holdFrom) else 0)

/-- REFCLK_RETURN (R287): REFCLK has been present without a gap for `ns`, 1 ms at least, and relocking begins. -/
def execRefclkReturn (t ns : Nat) : State → Host.Outcome State Fault Refusal :=
  atEdge t (occurs (fun s => s.dev.clock.holdover && decide (1000000 ≤ ns)) fun s =>
    let ns := holdoverNs s
    modClock (fun c => { c with refPresent := true, holdover := false, relocking := true, holdoverNs := ns }) s)

/-- REFCLK_RELOCKED (R287). -/
def execRefclkRelocked (t : Nat) : State → Host.Outcome State Fault Refusal :=
  atEdge t (occurs (fun s => s.dev.clock.relocking) (modClock fun c => { c with relocking := false, locked := true }))

/-! ### The PTP servo (R282, R344) -/

/-- The rate word with the servo's n-th trim: at most ±500 ppm from 2.5 ns (R282). (DESIGN CHOICE, log 20.) -/
def trimmedRate (n : Nat) : Nat := (10737418240 + max (-5368709) (min (Config.servoTrim n) 5368709)).toNat

/-- The servo measures an offset from its master: it steps the counter above `PTP_STEP_LIMIT`, and else trims the rate word.
(DESIGN CHOICE, log 20.) -/
def servoMeasures (ns : Int) (s : State) : State :=
  if decide (ns.natAbs > s.rwv 0x1110 5) then
    assertLine (s.now + 1) 2040 (modLink (fun l => { l with ptpState := 1, ptpOffset := ns })
      (modClock (fun c => { c with timeAcc := ((c.timeAcc : Int) - ns * 2 ^ 32).toNat }) s))
  else
    let rate := trimmedRate s.undefined
    modLink (fun l => { l with ptpState := if decide (ns.natAbs ≤ 8) then 2 else 1, ptpOffset := ns })
      (modClock (fun c => { c with timeRate := rate }) { s with undefined := s.undefined + 1 })

/-- The offset from the master of a delay request-response exchange (R344; IEEE 1588-2019). -/
def ptpOffsetOf (t1 t2 t3 t4 : Int) : Int := ((t2 - t1) - (t4 - t3)) / 2

/-- PTP_MESSAGE (R344): messages of `PTP_DOMAIN` are taken, of one-step and two-step masters alike. The servo runs on the port that drives
LCLK while `PTP_ENABLE` is 1; each port records Announce messages. -/
def execPtpMessage (t : Nat) (port : Fin 2) (msg : PtpMessage) : State → Host.Outcome State Fault Refusal :=
  atEdge t (occurs (fun s => linkServes s && (s.port port).up) fun s =>
    let runs := s.dev.clock.lclkPort == port.val && s.rwv 0x1110 1 == 1
    match msg with
    | .announce domain =>
      if domain != s.rwv 0x1110 2 then s
      else modLink (fun l => { l with
        announce0 := l.announce0 || port.val == 0, announce1 := l.announce1 || port.val == 1,
        ptpState := if runs && l.ptpState == 0 then 1 else l.ptpState }) s
    | .exchange domain _ t1 t2 t3 t4 => if runs && domain == s.rwv 0x1110 2 then servoMeasures (ptpOffsetOf t1 t2 t3 t4) s else s)

end Sys2Proof.Machine
end

