-- ==== Sys2Proof/Machine/Segments.lean ====
section
/-! DEFINITION. The segment directory and the waveform store: definition, content, verification, locks and deletion (chapter 2). -/

namespace Sys2Proof.Machine

/-! ### CRC-32C (Table 2-7) -/

/-- One bit of the reflected CRC. -/
def crcBit (c : BitVec 32) : BitVec 32 := if c.getLsbD 0 then (c >>> 1) ^^^ 0x82F63B78#32 else c >>> 1

/-- One byte of the reflected CRC. -/
def crcByte (c : BitVec 32) (b : Byte) : BitVec 32 :=
  crcBit (crcBit (crcBit (crcBit (crcBit (crcBit (crcBit (crcBit (c ^^^ b.setWidth 32))))))))

/-- CRC-32C of bytes. -/
def crc32c (l : List Byte) : Nat := ((l.foldl crcByte 0xFFFFFFFF#32) ^^^ 0xFFFFFFFF#32).toNat

/-! ### Content and blocks (R36 to R48) -/

/-- Content is held in the sample store: SAMPLE, SPLINE, HARMONIC, PATTERN. -/
def storedKind (k : Nat) : Bool := k == 1 || k == 2 || k == 3 || k == 7

/-- Content bytes of a segment. -/
def contentSize (kind lengthM1 items : Nat) : Nat :=
  if kind = 1 then 4 * (lengthM1 + 1) else if kind = 2 || kind = 3 then 32 * items else if kind = 7 then 4 * items else 0

def Seg.size (g : Seg) : Nat := contentSize g.kind g.lengthM1 g.items

/-- Blocks that a content takes. -/
def blocksOf (size : Nat) : Nat := (size + 4095) / 4096

/-- Blocks of the host content area (R36). -/
def storeBlocks : Nat := 7340032

/-- Block runs that a definition of segment `n` finds held: (segment, first block, blocks). An INVALID segment `n` releases its own first (R51);
a VALID or LOADING one holds them, and the definition overlaps it (R66). -/
def heldRuns (s : State) (n : Nat) : List (Nat × Nat × Nat) :=
  (s.dev.store.segs.filter fun p => !(p.1 == n && p.2.st == 3) && p.2.st != 0 && storedKind p.2.kind).map fun p => (p.1, p.2.addr, blocksOf p.2.size)

/-- The segments that blocks `a` to `a + k` overlap, of those listed. -/
def overlaps (l : List (Nat × Nat × Nat)) (a k : Nat) : List Nat :=
  (l.filter fun r => a < r.2.1 + r.2.2 && r.2.1 < a + k).map Prod.fst

/-- The lowest-numbered free run of `k` blocks (Table 2-6). -/
def freeRun (l : List (Nat × Nat × Nat)) (k : Nat) : Option Nat :=
  let starts := (0 :: l.map fun r => r.2.1 + r.2.2).filter fun a => a + k ≤ storeBlocks && (overlaps l a k).isEmpty
  starts.foldl (fun m a => match m with | none => some a | some b => some (min a b)) none

/-- `bytes` written from store byte address `a` up. Every byte written is listed, since what the store held before is unspecified
(R52). -/
def storeWrite (a : Nat) : List Byte → Mem → Mem
  | [], m => m
  | v :: r, m => storeWrite (a + 1) r (tset a v m)

/-! ### Locks (R45, R46, R60 to R62, R183) -/

/-- `ALLOY_REFS` of segment `n`. -/
def alloyRefs (s : State) (n : Nat) : Nat :=
  (s.dev.store.segs.filter fun p => p.2.kind == 4 && p.2.st == 2 && (bits p.2.addr 15 0 == n || bits p.2.addr 31 16 == n)).length

/-- Does engine `e` count in PLAYING of segment `n`: its own, or a component of the ALLOY that it plays (R62)? -/
def playsSeg (s : State) (e n : Nat) : Bool :=
  match (s.core e).play.seg with
  | some m => m == n || ((s.seg m).kind == 4 && (bits (s.seg m).addr 15 0 == n || bits (s.seg m).addr 31 16 == n))
  | none => false

/-- Does a line of the channel of engine `e` name PATTERN segment `n`: in force, active, or in a checked change (R183)? -/
def patternNames (s : State) (e n : Nat) : Bool :=
  ([0, 1, 2, 3] : List Nat).any fun k =>
    let p := 4 * e + k
    let names := fun (x : LineSet) => x.mode == 2 && x.patSeg == n
    names (s.line p).set || names (settingsOf s.dev.dict.active p) ||
    (s.dev.dict.commit.st == 2 && names (settingsOf s.dev.dict.staged p))

/-- PLAYING of segment `n`. -/
def playingCount (s : State) (n : Nat) : Nat :=
  ((List.range 64).filter fun e => playsSeg s e n || ((s.seg n).kind == 7 && patternNames s e n)).length

/-- Reachable entries of a step table that name segment `n`. -/
def entryRefs (s : State) (t : Tbl Nat) (m : Mem) (check : Bool) (n : Nat) : Nat :=
  ((List.range 64).filter (configuredIn s t check)).foldl (fun a e =>
    a + ((reachableSteps t m e).filter fun i => (entryAt m (partBase t e + i)).segment == n).length) 0

/-- LOCK_COUNT of segment `n` (R60). -/
def lockCount (s : State) (n : Nat) : Nat :=
  let d := s.dev.dict
  entryRefs s d.active d.stepsActive false n + (if d.commit.st = 2 then entryRefs s d.staged d.stepsStaged true n else 0) +
  alloyRefs s n + playingCount s n

/-! ### Store operations (R49 to R58) -/

/-- Store operations are refused while a commit check runs and from a ring member's READY on (R49, R309). -/
def storeBusy (s : State) : Bool := s.dev.dict.commit.st == 1 || s.dev.ring.commit.readySent

def storeCodes (s : State) : List Nat := [failIf (storeBusy s) 0x06030000]

/-- A definition record (Table 2-6). -/
structure DefRec where
  n : Nat
  kind : Nat
  addr : Nat
  lengthM1 : Nat
  items : Nat
  crc : Nat
  reserved : Bool
  deriving DecidableEq, Repr

/-- The record of 32 bytes. -/
def defRecord (d : List Byte) : DefRec :=
  let w := fun (k : Nat) => leVal ((d.drop (4 * k)).take 4)
  { n := bits (w 0) 15 0, kind := bits (w 0) 19 16, addr := w 1, lengthM1 := w 2, items := w 3, crc := w 4,
    reserved := bits (w 0) 31 20 != 0 || w 5 != 0 || w 6 != 0 || w 7 != 0 }

/-- ITEMS is a power of two from 2^a to 2^16 (R48). -/
def powerOf2 (a v : Nat) : Bool := (List.range 17).any fun k => a ≤ k && v == 2 ^ k

/-- Fields that must be zero (R48, R50). -/
def defReserved (r : DefRec) : Bool :=
  r.kind == 0 || 8 ≤ r.kind || r.reserved || (r.kind == 4 && r.lengthM1 != 0) || ((r.kind == 1 || r.kind == 4) && r.items != 0) ||
  ((r.kind == 4 || r.kind == 5 || r.kind == 6) && r.crc != 0) || (r.kind == 5 && bits r.addr 31 7 != 0) ||
  (r.kind == 6 && bits r.addr 15 7 != 0)

/-- LENGTH_M1 or ITEMS out of range (R42 to R48). -/
def defRange (r : DefRec) : Bool :=
  match r.kind with
  | 2 => r.items < 2
  | 3 => r.items == 0 || 128 < r.items
  | 5 => !powerOf2 10 r.items
  | 6 => !powerOf2 8 r.items
  | 7 => r.items != (r.lengthM1 + 32) / 32
  | _ => false

/-- An ALLOY component that is not VALID or of the wrong kind. -/
def defComponents (s : State) (r : DefRec) : List Nat :=
  if r.kind != 4 then []
  else
    let b := bits r.addr 15 0
    let h := bits r.addr 31 16
    let okB := (s.seg b).st == 2 && ((s.seg b).kind == 1 || (s.seg b).kind == 2)
    let okH := (s.seg h).st == 2 && (s.seg h).kind == 3
    [failIf (!okB) (0x03030000 + b), failIf (!okH) (0x03030000 + h)]

/-- Where the content of a record would lie: its first block, and the codes of placement. -/
def defPlace (s : State) (r : DefRec) : Nat × List Nat :=
  if !storedKind r.kind then (r.addr, [])
  else
    let k := blocksOf (contentSize r.kind r.lengthM1 r.items)
    let l := heldRuns s r.n
    if r.addr = 0xFFFFFFFF then
      match freeRun l k with | some a => (a, []) | none => (0, [0x05030000])
    else (r.addr, failIf (decide (r.addr + k > storeBlocks)) 0x03050000 :: (overlaps l r.addr k).map (0x05020000 + ·))

/-- Segments in LOADING. -/
def loadingCount (s : State) : Nat := (s.dev.store.segs.filter fun p => p.2.st == 1).length

/-- The refusals of a definition record (Table 2-11). -/
def defineCodes (offset : Nat) (d : List Byte) (s : State) : List Nat :=
  failIf (256 < d.length) 0x01160000 :: failIf (d.length != 32 || offset != 0) 0x03850000 :: storeCodes s ++
  (if d.length != 32 || offset != 0 then []
   else
    let r := defRecord d
    [failIf (defReserved r) 0x03010000, failIf (defRange r) 0x03020000,
     failIf (r.kind == 6 && 65536 < bits r.addr 31 16 + r.items) 0x03040000,
     failIf (storedKind r.kind && 16 ≤ loadingCount s) 0x05040000,
     failIf ((s.seg r.n).st != 0 && (s.seg r.n).st != 3) (0x06010000 + r.n)] ++ defComponents s r ++ (defPlace s r).2)

/-- SCALE_HINT of an ALLOY (Table 2-2). -/
def alloyHint (s : State) (addr : Nat) : Nat := min 0xFFFFFF ((s.seg (bits addr 15 0)).hint + (s.seg (bits addr 31 16)).hint)

/-- An accepted definition (R51). Only deletion clears CRC_FAULT (R56). CRC of the entry shows EXPECTED_CRC from here on: for a segment that is
LOADING, or INVALID for reason 1, whose content has another CRC, Table 2-1 does not say which is shown. (DESIGN CHOICE, log 56.) -/
def defineSeg (d : List Byte) (s : State) : State :=
  let r := defRecord d
  let g : Seg :=
    { kind := r.kind, st := if storedKind r.kind then 1 else 2, error := 0, crcFault := (s.seg r.n).crcFault,
      addr := (defPlace s r).1,
      lengthM1 := if r.kind = 4 then (s.seg (bits r.addr 15 0)).lengthM1 else r.lengthM1,
      items := if r.kind = 4 then (s.seg (bits r.addr 31 16)).items else r.items,
      hint := if r.kind = 4 then alloyHint s r.addr else 0, crc := r.crc }
  modStore (fun x => { x with segs := tset r.n g x.segs, streams := terase r.n x.streams }) s

/-- SEG_DEFINE (R50, R51). -/
def execSegDefine (t : Nat) (r : Req) (offset : Nat) (data : List Byte) : State → Host.Outcome State Fault Refusal :=
  atEdge t (command r 0xA010 (defineCodes offset data) (defineSeg data))

/-- Cargo transfers that write segment `n` end (R58). The spec gives no ABORT for them: they go without a CARGO_ACK. (DESIGN CHOICE, log 56.) -/
def endSegTransfers (n : Nat) (s : State) : State :=
  forAll [1, 2, 3, 4, 5, 6, 7, 8] (fun k s =>
    if (s.session k).transfers.isEmpty then s
    else modSession k (fun x => { x with transfers := x.transfers.filter fun a => !(a.key == key 0xA012 1 && a.offset / 2 ^ 48 == n) }) s) s

/-- An accepted deletion (R57, R58). -/
def deleteSeg (n : Nat) (s : State) : State :=
  endSegTransfers n (modStore (fun x => { x with
    segs := terase n x.segs, streams := terase n x.streams, verify := x.verify.filter (· != n) }) s)

/-- The refusals of `SEG_DELETE` (R58). -/
def deleteCodes (n : Nat) (s : State) : List Nat := failIf (lockCount s n != 0) (0x05010000 + n) :: storeCodes s

/-- SEG_DELETE (R58). -/
def execSegDelete (t : Nat) (r : Req) (n : Nat) : State → Host.Outcome State Fault Refusal :=
  atEdge t (command r 0xA010 (deleteCodes (n % 65536)) (deleteSeg (n % 65536)))

/-- The refusals of `SEG_VERIFY` (R56, R57). R57 accepts a write that names a waiting or running segment and refuses a write while 16 wait: where
both hold, the model accepts. (DESIGN CHOICE, log 56.) -/
def verifyCodes (n : Nat) (s : State) : List Nat :=
  let q := s.dev.store.verify
  failIf ((s.seg n).st == 0) (0x06040000 + n) :: failIf (17 ≤ q.length && !q.contains n) 0x05050000 :: storeCodes s

/-- A verification or recheck is queued (R57). -/
def queueVerify (n : Nat) : State → State :=
  modStore fun x => { x with verify := if x.verify.contains n then x.verify else x.verify ++ [n] }

/-- SEG_VERIFY (R53, R56, R57). -/
def execSegVerify (t : Nat) (r : Req) (n : Nat) : State → Host.Outcome State Fault Refusal :=
  atEdge t (command r 0xA010 (verifyCodes (n % 65536)) (queueVerify (n % 65536)))

/-! ### Verification (R53, Table 2-8) -/

/-- Item size and number of items of the content of a segment. -/
def itemSize (g : Seg) : Nat := if g.kind = 2 || g.kind = 3 then 32 else 4
def itemCount (g : Seg) : Nat := g.size / itemSize g

/-- Reasons that item `i` gives. -/
def itemReasons (s : State) (g : Seg) (unreadable : Option Nat) (i : Nat) : List Nat :=
  let w := fun (k : Nat) => segWord s g k
  let bad := failIf (unreadable.any fun o => o / itemSize g == i) 7
  match g.kind with
  | 1 => [failIf (bits (w i) 3 0 != 0) 2, bad]
  | 2 =>
    [failIf (bits (w (8 * i + 1)) 3 0 != 0 || w (8 * i + 6) != 0 || w (8 * i + 7) != 0) 2,
     failIf ((w (8 * i) == 0) != (i == 0)) 3, bad]
  | 3 =>
    [failIf (bits (w (8 * i)) 31 10 != 0 || bits (w (8 * i + 1)) 31 24 != 0 || bits (w (8 * i + 4)) 31 16 != 0 ||
             w (8 * i + 5) != 0 || w (8 * i + 6) != 0 || w (8 * i + 7) != 0) 2,
     failIf (decide (partialAmpl s g i > 0x7FFFFF) || (partialHarm s g i != 0 && partialFreq s g i != 0)) 5, bad]
  | 7 => [failIf (i + 1 == g.items && (g.lengthM1 + 1) % 32 != 0 && w i / 2 ^ ((g.lengthM1 + 1) % 32) != 0) 6, bad]
  | _ => [bad]

/-- The first item that breaks a rule, with its lowest reason, among `k` items from `i` up. -/
def firstOffence (s : State) (g : Seg) (unreadable : Option Nat) : Nat → Nat → Option (Nat × Nat)
  | 0, _ => none
  | k + 1, i =>
    let r := lowest (itemReasons s g unreadable i)
    if r = 0 then firstOffence s g unreadable k (i + 1) else some (r, i * itemSize g)

/-- Sum of the DELTAs of a spline's knots. -/
def knotSum (s : State) (g : Seg) : Nat := (List.range g.items).foldl (fun a i => a + knotDelta s g i) 0

/-- The bytes of the content. -/
def contentBytes (s : State) (g : Seg) : List Byte := storeBytes s (g.addr * 4096) g.size

/-- Reason and `SEG_ERROR_OFFSET` of a verification that fails; none: it passes (R53). -/
def judge (s : State) (g : Seg) (unreadable : Option Nat) : Option (Nat × Nat) :=
  match firstOffence s g unreadable (itemCount g) 0 with
  | some x => some x
  | none =>
    if g.kind = 2 && knotSum s g != g.lengthM1 + 1 then some (4, g.size)
    else if crc32c (contentBytes s g) != g.crc then some (1, g.size) else none

/-- SCALE_HINT of stored content (Table 2-2). -/
def scaleHint (s : State) (g : Seg) : Nat :=
  match g.kind with
  | 1 => (List.range (g.lengthM1 + 1)).foldl (fun a i => max a (wordSample (segWord s g i)).natAbs) 0
  | 2 => (List.range g.items).foldl (fun a i => max a (knotValue s g i).natAbs) 0
  | 3 => min 0xFFFFFF ((List.range g.items).foldl (fun a i => a + partialAmpl s g i) 0)
  | _ => 0

/-- `SEG_VERIFY_RESULT`. -/
def verifyResult (s : State) : Nat :=
  let x := s.dev.store
  x.verifyLast + 65536 * b2n (!x.verify.isEmpty) + 131072 * b2n x.mismatch

/-- The notice SEGMENT_VERIFIED (R53, R56). -/
def verifiedNotice (n : Nat) (s : State) : State := notice 0x0001 3 4 n [verifyResult s, (s.seg n).error, s.dev.store.errorOffset] s

/-- The verification of a LOADING segment ends. Table 2-10 gives MISMATCH to the last recheck, R57 to the last verification or recheck: a
verification, which compares with EXPECTED_CRC, sets it to 0. (DEDUCED, log 23; DESIGN CHOICE, log 56.) -/
def endVerification (n : Nat) (unreadable : Option Nat) (s : State) : State :=
  let g := s.seg n
  let s := modStore (fun x => { x with verifyLast := n, mismatch := false }) s
  match judge s g unreadable with
  | none => modSeg n (fun g => { g with st := 2, error := 0, hint := scaleHint s g }) s
  | some (r, o) => modSeg n (fun g => { g with st := 3, error := r }) (modStore (fun x => { x with errorOffset := o % 2 ^ 32 }) s)

/-- A recheck ends (R56). The spec does not say what one reports whose read is uncorrectable: it counts as a mismatch. (DESIGN CHOICE, log 56.) -/
def endRecheck (n : Nat) (unreadable : Option Nat) (s : State) : State :=
  let g := s.seg n
  let c := crc32c (contentBytes s g)
  let bad := c != g.crc || unreadable.isSome
  let s := modStore (fun x => { x with verifyLast := n, mismatch := bad }) s
  if bad then notice 0x0002 1 4 n [g.crc, c] (modSeg n (fun g => { g with crcFault := true }) s) else s

/-- SEGMENT_VERIFIED (R53, R56, R57): the running verification or recheck completes. `unreadable`: the byte offset of an uncorrectable
read. What runs is judged by the segment's state and content as they stand now: content written while a verification ran is part of it, and a
recheck that waited while its INVALID segment was redefined is the verification of the LOADING segment (the spec is silent on both). (DESIGN
CHOICE, log 56.) -/
def execSegmentVerified (t : Nat) (unreadable : Option Nat) : State → Host.Outcome State Fault Refusal :=
  atEdge t fun s =>
    match s.dev.store.verify with
    | [] => s
    | n :: r =>
      let s := modStore (fun x => { x with verify := r }) s
      verifiedNotice n (if (s.seg n).st = 1 then endVerification n unreadable s else endRecheck n unreadable s)

/-! ### Content (R52, R361) -/

/-- The refusals of a write of `len` bytes at a `SEG_CONTENT` offset. -/
def contentCodes (offset len : Nat) (s : State) : List Nat :=
  let n := offset / 2 ^ 48 % 65536
  let g := s.seg n
  failIf (g.st != 1) (0x06020000 + n) :: failIf (g.st != 0 && decide (g.size < offset % 2 ^ 48 + len)) 0x03060000 :: storeCodes s

/-- Is a write to the pair of sample channel `m` kept from `m` and marked in its write log: frozen, reinitialising or offline, or in use and
not yet in replay (R385, Table 14-8)? -/
def logsWrites (c : Dram) : Bool :=
  c.st == 2 || c.st == 3 || c.st == 5 || ((c.st == 1 || c.st == 6) && c.phase != .replay)

/-- Inserts a granule into a rising list without repeats. -/
def insertGranule (v : Nat) : List Nat → List Nat
  | [] => [v]
  | x :: r => if v < x then v :: x :: r else if v = x then x :: r else x :: insertGranule v r

/-- A write of `len` bytes from store byte address `a` up marks the granules that it touches, of the pair that holds them (R37). -/
def markWrites (a len : Nat) (s : State) : State :=
  if len = 0 then s
  else
    let gs := (List.range ((a + len - 1) / 1024 - a / 1024 + 1)).map (a / 1024 + ·)
    forAll [0, 1, 2, 3] (fun m s =>
      if logsWrites (s.chan m) then
        modChan m (fun c => { c with writeLog := (gs.filter fun g => g % 2 == m / 2).foldl (fun l g => insertGranule g l) c.writeLog }) s
      else s) s

/-- Accepted content bytes. -/
def writeContent (offset : Nat) (d : List Byte) (s : State) : State :=
  let a := (s.seg (offset / 2 ^ 48 % 65536)).addr * 4096 + offset % 2 ^ 48
  markWrites a d.length (modStore (fun x => { x with content := storeWrite a d x.content }) s)

end Sys2Proof.Machine
end

