-- ==== Sys2Proof/Machine/Check.lean ====
section
/-! DEFINITION. The commit check: every rule that names it, over the configuration as it would stand after the commit, which is the staged
copies (R111, R138, R162, R199, R265, R328, R382, R426). -/

namespace Sys2Proof.Machine

/-- A rule that fails: its code, `CHECK_FAIL_OBJECT` and `STEP_CHECK_INDEX`. -/
structure Fail where
  code : Nat
  obj : Nat
  step : Nat
  deriving DecidableEq, Repr

/-- All ones: no object, no entry. -/
def noObj : Nat := 0xFFFFFFFF

/-- A rule with `code` fails where `c` holds; it concerns the object `obj` (a key, or none). (DEDUCED, log 25.) -/
def failsAt (c : Bool) (code obj : Nat) : List Fail := if c then [{ code := code, obj := obj, step := noObj }] else []

/-- A rule that no single object breaks. -/
def fails (c : Bool) (code : Nat) : List Fail := failsAt c code noObj

/-- Has an accepted write marked the object as changed, whatever value it wrote (R323)? (DEDUCED, log 24.) -/
def marked (s : State) (index sub : Nat) : Bool := s.dev.dict.changed.contains (key index sub)

/-- The failing rule of the lowest code, then of the lowest entry. (DEDUCED, log 25.) -/
def firstFail (l : List Fail) : Option Fail :=
  l.foldl (fun m f => match m with
    | none => some f
    | some g => if f.code < g.code || (f.code == g.code && f.step < g.step) then some f else some g) none

/-- A staged copy of an engine, a line or a channel object. -/
def State.stgE (s : State) (e off sub : Nat) : Nat := s.stg (engIdx e off) sub
def State.stgL (s : State) (p sub : Nat) : Nat := s.stg (lineIdx p) sub
def State.stgC (s : State) (c off sub : Nat) : Nat := s.stg (chIdx c off) sub

/-! ### Generic values (Table 12-6) -/

/-- 0x0401: an RS object out of its stated range for which its chapter gives no code. -/
def genericFails (s : State) : List Fail :=
  failsAt (decide (s.stg 0x3050 9 > 15)) 0x04013050 (key 0x3050 9) ++
  (List.range 64).flatMap fun e =>
    let v := toInt 32 (s.stgE e 0 5)
    failsAt (decide (v < -8388608) || decide (v > 8388607)) (0x04010000 + engIdx e 0) (key (engIdx e 0) 5)

/-! ### Sequences (Table 3-15), rates (Table 4-5), sources (Table 5-3) -/

/-- The partition rules 0x0420 to 0x0422 (R70, R71). -/
def partitionFails (s : State) (e : Nat) : List Fail :=
  let t := s.dev.dict.staged
  let b := partBase t e
  let n := partSize t e
  let k := key (engIdx e 1)
  let laps := (List.range e).any fun j =>
    n != 0 && partSize t j != 0 && b < partBase t j + partSize t j && partBase t j < b + n
  let idle := !(s.engine e).takeover.isSome && ((s.core e).st == .idle || (s.core e).st == .stopped)
  failsAt (b % 16 != 0 || n % 16 != 0 || decide (b + n > 524288)) (0x04200000 + e) (if b % 16 != 0 then k 1 else k 2) ++
  failsAt laps (0x04210000 + e) (k 1) ++
  failsAt ((marked s (engIdx e 1) 1 || marked s (engIdx e 1) 2) && !idle) (0x04220000 + e)
    (if marked s (engIdx e 1) 1 then k 1 else k 2)

/-- 0x0423: start step, targets and maps of a configured engine. -/
def targetFails (s : State) (e : Nat) : List Fail :=
  let t := s.dev.dict.staged
  let n := partSize t e
  let u := underrunTarget t e
  failsAt (n ≤ s.stgE e 0 4) (0x04230000 + e) (key (engIdx e 0) 4) ++
  ((List.range 16).flatMap fun k => let w := targetWord t e k
    failsAt (targetEn w && n ≤ targetStep w) (0x04230000 + e) (key (engIdx e 3) (k + 1))) ++
  ((List.range 16).flatMap fun m => let w := mapWord t e m
    failsAt ((List.range 8).any fun k => mapEn w k && !targetEn (targetWord t e (mapTarget w k))) (0x04230000 + e)
      (key (engIdx e 4) (m + 1))) ++
  failsAt (u < 16 && !targetEn (targetWord t e u)) (0x04230000 + e) (key (engIdx e 3) 17)

/-- 0x042A: reserved fields of the maps and targets, `START_SEL`, `UNDERRUN_TARGET` of every engine. -/
def reservedFails (s : State) (e : Nat) : List Fail :=
  let t := s.dev.dict.staged
  let u := underrunTarget t e
  failsAt (decide (s.stgE e 0 3 > 9)) (0x042A0000 + e) (key (engIdx e 0) 3) ++
  ((List.range 16).flatMap fun k =>
    failsAt (bits (targetWord t e k) 30 19 != 0) (0x042A0000 + e) (key (engIdx e 3) (k + 1))) ++
  ((List.range 16).flatMap fun m =>
    failsAt (decide (mapWord t e m / 2 ^ 48 > 0)) (0x042A0000 + e) (key (engIdx e 4) (m + 1))) ++
  failsAt (decide (16 ≤ u) && decide (u ≤ 0xFE)) (0x042A0000 + e) (key (engIdx e 3) 17)

/-- The engine whose staged partition holds the absolute entry `i`; 0xFF for none (R111). -/
def ownerOfEntry (t : Tbl Nat) (i : Nat) : Nat :=
  ((List.range 64).find? fun e => partBase t e ≤ i && i < partBase t e + partSize t e).getD 0xFF

/-- 0x042A of the written entries: those that the change writes; the others passed the check that made them active. -/
def entryReservedFails (s : State) : List Fail :=
  (s.dev.dict.stepChanged.filter fun i => entryReserved s.dev.dict.stepsStaged i).map fun i =>
    { code := 0x042A0000 + ownerOfEntry s.dev.dict.staged i, obj := noObj, step := i }

/-- The rules on one reachable entry: 0x0424 to 0x0431. -/
def stepCodes (s : State) (e i : Nat) : List Nat :=
  let t := s.dev.dict.staged
  let en := entryAt s.dev.dict.stepsStaged (partBase t e + i)
  let g := s.seg en.segment
  [failIf ((successors en).any fun k => partSize t e ≤ k) 0x0424,
   failIf (decide (en.endAction > 5) || decide (en.loopOp > 1) || en.phaseMode == 3) 0x0425,
   failIf (decide (en.waitSel > 8) || ((en.endAction == 2 || en.endAction == 5) && en.waitSel == 0) ||
           (en.endAction == 5 && en.rep != 0)) 0x0426,
   failIf (g.st != 2 || g.kind == 7) 0x0427,
   failIf (g.st == 2 && decide (en.start > g.lengthM1)) 0x0428,
   failIf (en.loopOp == 1 && en.endAction == 1 && en.branch == i) 0x0429,
   failIf (en.rateEn && (en.inc == 0 || decide (en.inc > 0x1000000000))) 0x0430,
   failIf (en.fundEn && decide (en.fund ≥ muteLimit)) 0x0431]

/-- The reachable steps of engine `e` after the commit (R59). -/
def stagedReach (s : State) (e : Nat) : List Nat :=
  let d := s.dev.dict
  if configuredIn s d.staged true e then reachableSteps d.staged d.stepsStaged e else []

/-- The entry of staged step `i` of engine `e`. -/
def stagedEntry (s : State) (e i : Nat) : Entry := entryAt s.dev.dict.stepsStaged (partBase s.dev.dict.staged e + i)

def stepFails (s : State) (e : Nat) : List Fail :=
  (stagedReach s e).flatMap fun i => ((stepCodes s e i).filter (· != 0)).map fun c =>
    { code := c * 65536 + e, obj := noObj, step := partBase s.dev.dict.staged e + i }

/-- A value of a ramp at application `i`. -/
def rampValue (first delta i : Nat) : Int := (first : Int) + i * toInt 64 delta

/-- 0x0432 (R134). -/
def rampFails (s : State) (e : Nat) : List Fail :=
  let o := engIdx e 6
  let n := s.stg o 6
  let ends := if n = 0 then [] else [0, n - 1]
  let badInc := bit (s.stg o 1) 0 && ends.any fun i =>
    let v := rampValue (s.stg o 2) (s.stg o 3) i
    decide (v < 1) || decide (v > 0x1000000000)
  let badFund := bit (s.stg o 1) 1 && ends.any fun i =>
    let v := rampValue (s.stg o 4) (s.stg o 5) i
    decide (v < 0) || decide (v ≥ muteLimit)
  failsAt (decide (s.stg o 1 > 3)) (0x04320000 + e) (key o 1) ++
  failsAt (decide (s.stg o 2 / 2 ^ 48 > 0)) (0x04320000 + e) (key o 2) ++
  failsAt (decide (s.stg o 4 / 2 ^ 48 > 0)) (0x04320000 + e) (key o 4) ++ fails (badInc || badFund) (0x04320000 + e)

/-- 0x0433 (R115). -/
def gridFails (s : State) (q : Nat) : List Fail :=
  let busy := (List.range 8).any fun k => !engineRests s (8 * q + k)
  failsAt (decide (s.stg 0x2010 (q + 1) > 5) || (marked s 0x2010 (q + 1) && busy)) (0x04330000 + q) (key 0x2010 (q + 1))

/-- Segments of kind `k` that reachable steps of engine `e` name after the commit. -/
def namedOf (s : State) (e k : Nat) : List Nat :=
  ((stagedReach s e).map fun i => (stagedEntry s e i).segment).filter fun n => (s.seg n).kind == k

/-- Owner of bank `b` after the commit. -/
def stagedOwner (s : State) (b : Nat) : Nat := s.stg (0x3100 + b) 1

/-- Bank of a STREAM or LIVE segment. -/
def segBank (g : Seg) : Nat := bits g.addr 6 0

/-- The index word of a LIVE segment lies inside its ring. -/
def indexInRing (g : Seg) : Bool :=
  let o := bits g.addr 31 16
  let w := (o + g.items) % 65536
  o ≤ w && w < o + g.items

/-- A step that the recovery set may not hold (Table 5-3). -/
def recoveryBad (s : State) (e i : Nat) : Bool :=
  let en := stagedEntry s e i
  isSource (s.seg en.segment).kind || en.loopOp == 1 || en.endAction == 1

/-- Table 5-3. -/
def sourceFails (s : State) (e : Nat) : List Fail :=
  let d := s.dev.dict
  let st := namedOf s e 5
  let lv := namedOf s e 6
  let rec_ := if configuredIn s d.staged true e then recoverySteps d.staged d.stepsStaged e else []
  ((stagedReach s e).flatMap fun i =>
    let en := stagedEntry s e i
    if isSource (s.seg en.segment).kind && en.start != 0 then
      [{ code := 0x04400000 + e, obj := noObj, step := partBase d.staged e + i }] else []) ++
  fails (st.any fun n => (List.range e).any fun j => (namedOf s j 5).contains n) (0x04410000 + e) ++
  fails (st.any fun n => stagedOwner s (segBank (s.seg n)) != e) (0x04420000 + e) ++
  fails (lv.any fun n => stagedOwner s (segBank (s.seg n)) != 0x42 || indexInRing (s.seg n)) (0x04430000 + e) ++
  failsAt (lv.any fun n => (s.seg n).items / 2 < s.stgE e 7 7) (0x04440000 + e) (key (engIdx e 7) 7) ++
  fails (rec_.any fun i => recoveryBad s e i) (0x04450000 + e)

/-- Every rule of chapters 3 to 5 on engine `e`. -/
def engineFails (s : State) (e : Nat) : List Fail :=
  partitionFails s e ++ (if configuredIn s s.dev.dict.staged true e then targetFails s e else []) ++ reservedFails s e ++ stepFails s e ++
  rampFails s e ++ sourceFails s e

/-! ### Pulse lines (Table 6-5) -/

def stgMode (s : State) (p : Nat) : Nat := s.stgL p 1 % 8

/-- Line `p` is CARRIER, or FOLLOW of a CARRIER partner, after the commit. -/
def stgPeriods (s : State) (p : Nat) : Bool := stgMode s p == 1 || (stgMode s p == 4 && stgMode s (partner p) == 1)

/-- The greatest FUND of engine `e` (R199). -/
def fundMax (s : State) (e : Nat) : Nat :=
  let o := engIdx e 6
  let n := s.stg o 6
  let ramp := if bit (s.stg o 1) 1 && n != 0 then [0, n - 1] else []
  let reach := ((stagedReach s e).map (stagedEntry s e)).filter Entry.fundEn
  (reach.map Entry.fund ++ ramp.map fun i => (rampValue (s.stg o 4) (s.stg o 5) i).toNat).foldl max (s.core e).vals.fund

/-- Δmax of line `p` (R199). -/
def deltaMax (s : State) (p : Nat) : Nat :=
  if bit (s.stgL p 1) 7 then s.stgL p 5 else s.stgL p 3 * fundMax s (p / 4)

/-- Table 6-5 for line `p`. The carrier rules concern lines in CARRIER. -/
def lineFails (s : State) (p : Nat) : List Fail :=
  let v := s.stgL p
  let cfg := v 1
  let m := cfg % 8
  let k := key (lineIdx p)
  let seg := s.seg (v 8)
  let pm := stgMode s (partner p)
  failsAt (decide (m > 4) || bits cfg 4 3 == 3 || decide (bits cfg 14 12 > 5) || decide (bits cfg 17 15 > 4) || bits cfg 31 18 != 0 ||
           (bit cfg 6 && bit cfg 9)) (0x04500000 + p) (k 1) ++
  failsAt (v 3 == 0 || decide (v 3 > 4095)) (0x04500000 + p) (k 3) ++
  failsAt (decide (v 5 / 2 ^ 48 > 0)) (0x04500000 + p) (k 5) ++
  failsAt (decide (v 6 / 2 ^ 24 > 0)) (0x04500000 + p) (k 6) ++
  failsAt (decide (v 7 < 64) || decide (v 7 > 262144)) (0x04500000 + p) (k 7) ++
  failsAt (decide (v 9 < 64) || decide (v 9 > 16777215)) (0x04500000 + p) (k 9) ++
  failsAt (decide (v 12 < 64)) (0x04500000 + p) (k 12) ++
  fails (m == 1 && decide (deltaMax s p ≥ 2 ^ 46)) (0x04510000 + p) ++
  failsAt (m == 4 && (pm == 4 || pm == 0)) (0x04530000 + p) (k 1) ++
  failsAt (bit cfg 5 && !stgPeriods s p) (0x04540000 + p) (k 1) ++
  failsAt (m == 2 && (seg.st != 2 || seg.kind != 7)) (0x04550000 + p) (k 8)

/-- 0x0452 for the pair whose first line is `p` (R199). -/
def pairFails (s : State) (p : Nat) : List Fail :=
  let d := s.stg (pairIdx p) 1
  let dm := deltaMax s p
  let g := gridOf (s.stg 0x2010 (p / 32 + 1))
  failsAt (decide (d > 262144) || (stgMode s p == 1 && dm != 0 && decide (2 ^ 54 * g / dm ≤ 2 * d))) (0x04520000 + p) (key (pairIdx p) 1)

/-! ### Outputs and sensing (Tables 7-6 and 8-9) -/

/-- Rules on channel `c`: blanking, output, sensing. -/
def channelFails (s : State) (c : Nat) : List Fail :=
  let v := s.stgC c
  let k := fun (o i : Nat) => key (chIdx c o) i
  let m := v 0 2
  let r := v 0 3
  failsAt (decide (v 0x36 1 > 2048)) (0x04560000 + c) (k 0x36 1) ++ failsAt (decide (v 0x36 3 > 15)) (0x04560000 + c) (k 0x36 3) ++
  failsAt (decide (m > 1)) (0x04600000 + c) (k 0 2) ++
  failsAt (decide (r > 2) || (r == 2 && m == 1)) (0x04600000 + c) (k 0 3) ++
  failsAt (decide (v 0 4 > 7)) (0x04610000 + c) (k 0 4) ++
  ([0, 1] : List Nat).flatMap (fun i =>
    failsAt (decide (v (0x10 + i) 1 > 1)) (0x04700000 + c) (k (0x10 + i) 1) ++
    failsAt (decide (v (0x10 + i) 2 > 256)) (0x04700000 + c) (k (0x10 + i) 2)) ++
  ([0, 1, 2, 3] : List Nat).flatMap (fun i =>
    let o := 0x12 + i
    let l := v o 5
    failsAt (decide (v o 2 > 16383)) (0x04700000 + c) (k o 2) ++ failsAt (decide (v o 3 > 15)) (0x04700000 + c) (k o 3) ++
    failsAt (decide (v o 4 > 1)) (0x04700000 + c) (k o 4) ++ failsAt (decide (l > 7)) (0x04700000 + c) (k o 5) ++
    failsAt (decide (v o 6 > 3)) (0x04700000 + c) (k o 6) ++
    failsAt (bit l 0 && !stgPeriods s (4 * c + bits l 2 1)) (0x04710000 + c) (k o 5)) ++
  failsAt ((List.range 16).any fun i => let n := v 0x18 1 / 2 ^ (4 * i) % 16; 9 ≤ n && n ≤ 14) (0x04700000 + c) (k 0x18 1) ++
  failsAt (decide (v 0x19 1 > 60000)) (0x04700000 + c) (k 0x19 1) ++
  failsAt (v 0x19 2 == 0 || decide (v 0x19 2 > 64)) (0x04700000 + c) (k 0x19 2) ++
  failsAt (decide (v 0x19 3 > 15)) (0x04700000 + c) (k 0x19 3)

/-! ### The route graph (R253, R256, R265, R308) -/

/-- Lines that input `i` can cause (Table 9-5). -/
def causes (i : Nat) : List Nat :=
  if i < 768 then
    let e := i / 12
    (List.range 13).map (16 * e + ·) ++ (List.range 4).map fun k => 1281 + 2 * (4 * e + k)
  else if i < 1024 then [1281 + 2 * (i - 768)]
  else if 1056 ≤ i && i < 1120 then [1824 + (i - 1056)]
  else []

/-- The slots of the staged copies: (input, slot, word). -/
def stagedSlots (s : State) : List (Nat × Nat × Nat) :=
  (List.range 1248).flatMap fun i => [(i, 0, slotWord s.dev.dict.staged i 0), (i, 1, slotWord s.dev.dict.staged i 1)]

/-- (line, input) of every enabled slot without a limiter. -/
def freeLinks (slots : List (Nat × Nat × Nat)) : List (Nat × Nat) :=
  (slots.filter fun x => slotEn x.2.2 && !slotLim x.2.2).map fun x => (slotSel x.2.2, x.1)

/-- Lines that line `v` causes over one slot, rising, of those that lead on. -/
def nextLines (l : List (Nat × Nat)) (v : Nat) : List Nat :=
  ((l.filter fun x => x.1 == v).flatMap fun x => (causes x.2).filter fun w => l.any fun y => y.1 == w).foldl (fun a w => insertNat w a) []

/-- One level of the search for `goal`: paths (latest line first) in the order of their lines, each line reached once. -/
def levelUp (l : List (Nat × Nat)) (ps : List (List Nat)) (seen : List Nat) : List (List Nat) × List Nat :=
  ps.foldl (fun a p => match p with
    | [] => a
    | v :: _ => (nextLines l v).foldl (fun (a : List (List Nat) × List Nat) w =>
        if a.2.contains w then a else (a.1 ++ [w :: p], w :: a.2)) a) ([], seen)

/-- The shortest cycle through `goal`, first in order of lines (R265). -/
def cycleFrom (l : List (Nat × Nat)) (goal : Nat) : Nat → List (List Nat) → List Nat → Option (List Nat)
  | 0, _, _ => none
  | k + 1, ps, seen =>
    if ps.isEmpty then none
    else match ps.find? fun p => match p with | [] => false | v :: _ => (nextLines l v).contains goal with
      | some p => some p.reverse
      | none => let (ps', seen') := levelUp l ps seen; cycleFrom l goal k ps' seen'

/-- The cycle that `FABRIC_CHECK_CYCLE` reports; empty for none. -/
def limiterFreeCycle (l : List (Nat × Nat)) : List Nat :=
  let vs := l.foldl (fun a x => insertNat x.1 a) []
  (vs.findSome? fun v => cycleFrom l v (l.length + 1) [[v]] []).getD []

/-- Lines reached from the lines `todo` over slots without a limiter. -/
def reachLines (l : List (Nat × Nat)) : Nat → List Nat → List Nat → List Nat
  | 0, _, seen => seen
  | _, [], seen => seen
  | k + 1, v :: r, seen => if seen.contains v then reachLines l k r seen else reachLines l k (nextLines l v ++ r) (v :: seen)

/-- The reach matrix of R308: inbound x reaches outbound input y. -/
def reachMatrix (s : State) : List (Nat × Nat) :=
  let l := freeLinks (stagedSlots s)
  let outs := l.filter fun x => 1184 ≤ x.2
  if outs.isEmpty then []
  else (List.range 64).flatMap fun x =>
    let seen := reachLines l (20 * l.length + 20) [1952 + x] []
    (outs.filter fun o => seen.contains o.1).map fun o => (x, o.2 - 1184)

/-- X lines whose outbound input is enabled after the commit. -/
def drivenLines (s : State) : List Nat :=
  (List.range 64).filter fun x => slotEn (slotWord s.dev.dict.staged (1184 + x) 0) || slotEn (slotWord s.dev.dict.staged (1184 + x) 1)

/-- Lines selected by more than one enabled slot. -/
def sharedLines (slots : List (Nat × Nat × Nat)) : List Nat :=
  ((slots.filter fun x => slotEn x.2.2).foldl (fun (a : List Nat × List Nat) x =>
    let v := slotSel x.2.2
    if a.1.contains v then (a.1, v :: a.2) else (v :: a.1, a.2)) ([], [])).2

/-- Slots, single consumer and loops: 0x0480 to 0x0482. -/
def routeFails (slots : List (Nat × Nat × Nat)) : List Fail :=
  (slots.flatMap fun x =>
    let w := x.2.2
    failsAt (bits w 15 13 != 0 || (slotLim w && slotSpacing w < 16)) (0x04800000 + x.1)
      (key (slotObj x.1).1 ((slotObj x.1).2 + x.2.1))) ++
  ((sharedLines slots).flatMap fun v => fails true (0x04810000 + v)) ++
  (match limiterFreeCycle (freeLinks slots) with | [] => [] | v :: _ => fails true (0x04820000 + v))

/-- 0x0483. -/
def timerFails (s : State) (k : Nat) : List Fail :=
  let v := s.stg (0x4040 + k)
  let m := v 1 % 4
  let src := bits (v 1) 3 2
  let o := fun i => key (0x4040 + k) i
  let c := 0x04830000 + k
  failsAt (decide (v 1 > 15) || src == 3 || (src == 2 && m != 1) || (m == 3 && src != 0)) c (o 1) ++
  failsAt (m == 1 && v 2 < 2) c (o 2) ++
  failsAt ((src == 2 && v 2 ≤ v 3) || ((m == 2 || (m == 1 && src < 2)) && v 3 == 0)) c (o 3) ++
  failsAt (v 4 == 0 || decide (v 4 > 2 ^ 24)) c (o 4)

/-- 0x0484. -/
def trigFails (s : State) (k : Nat) : List Fail :=
  let cfg := s.stg (0x4010 + k) 1
  failsAt (decide (cfg > 15) || (!bit cfg 0 && bits cfg 2 1 == 0)) (0x04840000 + k) (key (0x4010 + k) 1) ++
  failsAt (s.stg (0x4010 + k) 2 == 0) (0x04840000 + k) (key (0x4010 + k) 2)

/-! ### The read budget (R379 to R382) -/

/-- Adds two fractions. -/
def addFrac (a b : Nat × Nat) : Nat × Nat := (a.1 * b.2 + b.1 * a.2, a.2 * b.2)

/-- A segment that is read from the sample store as it plays. -/
def budgeted (s : State) (n : Nat) : Bool := let k := (s.seg n).kind; k == 1 || k == 2 || k == 4

/-- The current step of engine `e` names such a segment. -/
def currentBudgeted (s : State) (e : Nat) : Bool :=
  let c := s.core e
  (c.active || c.st == .stopped) && budgeted s c.play.entry.segment

/-- The greatest INC of R379 in copies `t`, `m`; 0 where the engine places no demand. -/
def incMax (s : State) (t : Tbl Nat) (m : Mem) (check : Bool) (e : Nat) : Nat :=
  let reach := if configuredIn s t check e then (reachableSteps t m e).map fun i => entryAt m (partBase t e + i) else []
  let l := reach.filter fun en => budgeted s en.segment
  if l.isEmpty && !currentBudgeted s e then 0
  else
    let o := engIdx e 6
    let n := copyVal t o 6
    let ramp := if bit (copyVal t o 1) 0 && n != 0 then
        [0, n - 1].map fun i => (rampValue (copyVal t o 2) (copyVal t o 3) i).toNat else []
    (((l.filter Entry.rateEn).map Entry.inc) ++ ramp).foldl max (s.core e).vals.inc

/-- Demand of line `p` in bytes per second (R381). -/
def patternDemand (s : State) (t : Tbl Nat) (p : Nat) : Nat × Nat :=
  let v := fun k => copyVal t (lineIdx p) k
  let g := s.seg (v 8)
  if v 1 % 8 = 2 && v 9 != 0 && !(g.kind == 7 && g.lengthM1 < 8192) then (3200000000, v 9) else (0, 1)

/-- The demand of a configuration, bytes per second, rounded up. (DEDUCED, log 25.) -/
def demand (s : State) (t : Tbl Nat) (m : Mem) (check : Bool) : Nat :=
  let eng := (List.range 64).foldl (fun a e =>
    a + incMax s t m check e * 1600000000 * 2 ^ 7 / gridOf (copyVal t 0x2010 (e / 8 + 1))) 0
  let f := (List.range 256).foldl (fun a p => let d := patternDemand s t p; if d.1 = 0 then a else addFrac a d) (eng, 2 ^ 39)
  (f.1 + f.2 - 1) / f.2

/-- B of Table 14-2. -/
def budget (rate : Nat) : Nat := if rate = 0 then 44000000000 else if rate = 1 then 33000000000 else 16500000000

/-- The operating point running on the slowest sample member. -/
def slowestRate (s : State) : Nat := ([0, 1, 2, 3] : List Nat).foldl (fun a m => max a (s.chan m).rate) 0

/-- 0x04A0 and 0x04A1. -/
def dramFails (s : State) (need : Nat) : List Fail :=
  let r := s.stg 0x3000 1
  failsAt (decide (r > 2)) 0x04A00000 (key 0x3000 1) ++ fails (decide (r ≤ 2) && decide (budget (max r (slowestRate s)) < need)) 0x04A10000

/-! ### Scratchpad and Berth (Table 15-11), calibration -/

/-- May the host change the bank (Table 15-2)? A replacement follows the role that it took (R413). -/
def hostMay (s : State) (b : Nat) : Bool :=
  let r := (s.bank b).replaces
  let b := if r < 128 then r else b
  b < 64 || (112 ≤ b && b < 120) || 124 ≤ b

/-- Banks that enabled slots map after the commit: (slot, bank). -/
def mappedBanks (t : Tbl Nat) : List (Nat × Nat) :=
  ((List.range 8).filter fun k => let w := copyVal t 0x3050 (k + 1); bit w 8 && !bit w 10).map fun k =>
    (k, copyVal t 0x3050 (k + 1) % 128)

/-- Banks that reachable STREAM and LIVE steps name after the commit. -/
def sourceBanks (s : State) : List Nat :=
  (List.range 64).flatMap fun e => (namedOf s e 5 ++ namedOf s e 6).map fun n => segBank (s.seg n)

def bankFails (s : State) (held : List Nat) (b : Nat) : List Fail :=
  let o := s.stg (0x3100 + b) 1
  let p := s.stg (0x3100 + b) 2
  let mo := marked s (0x3100 + b) 1
  let mp := marked s (0x3100 + b) 2
  let k := key (0x3100 + b)
  failsAt (decide (o > 0x43)) (0x04B00000 + b) (k 1) ++ failsAt (decide (p > 1)) (0x04B00000 + b) (k 2) ++
  failsAt ((mo || mp) && (!hostMay s b || (s.bank b).retired)) (0x04B10000 + b) (if mo then k 1 else k 2) ++
  failsAt (p == 1 && held.contains b) (0x04B40000 + b) (k 2) ++
  failsAt (mo && s.dev.scratch.march.any fun r => r.destructive && r.bank == b) (0x04B50000 + b) (k 1)

/-- 0x04B2 and 0x04B3 for slot `k`. -/
def slotFails (s : State) (k : Nat) : List Fail :=
  let w := s.stg 0x3050 (k + 1)
  let map := bit w 8 && !bit w 10
  let o := key 0x3050 (k + 1)
  failsAt (bit w 7 || decide (w / 2048 > 0) || (bit w 10 && k != 7) || (map && stagedOwner s (w % 128) != 0x42)) (0x04B20000 + k) o ++
  failsAt (map && (mappedBanks s.dev.dict.staged).any fun x => x.1 < k && x.2 == w % 128) (0x04B30000 + w % 128) o

def scratchFails (s : State) : List Fail :=
  let held := (mappedBanks s.dev.dict.staged).map Prod.snd ++ sourceBanks s
  (List.range 128).flatMap (bankFails s held) ++ (List.range 8).flatMap (slotFails s)

/-- 0x04C0. -/
def calFails (s : State) : List Fail :=
  let v := s.stg 0x5000 2
  failsAt (decide (v < 50) || decide (v > 1000)) 0x04C00000 (key 0x5000 2)

/-- Every rule of the check but the commit-tick rules and R314. (DEDUCED, log 25.) -/
def allFails (s : State) (slots : List (Nat × Nat × Nat)) (need : Nat) : List Fail :=
  genericFails s ++ (List.range 64).flatMap (engineFails s) ++ entryReservedFails s ++ (List.range 8).flatMap (gridFails s) ++
  (List.range 256).flatMap (lineFails s) ++ ((List.range 128).map (2 * ·)).flatMap (pairFails s) ++
  (List.range 64).flatMap (channelFails s) ++ routeFails slots ++ (List.range 64).flatMap (timerFails s) ++
  (List.range 32).flatMap (trigFails s) ++ dramFails s need ++ scratchFails s ++ calFails s

/-- What a check finds. -/
structure CheckResult where
  fail : Option Fail
  cycle : List Nat
  demand : Nat
  deriving DecidableEq, Repr

/-- The commit check of the staged change, with further rules `more` (R328). -/
def runCheck (s : State) (more : List Fail) : CheckResult :=
  let slots := stagedSlots s
  let need := demand s s.dev.dict.staged s.dev.dict.stepsStaged true
  { fail := firstFail (more ++ allFails s slots need), cycle := limiterFreeCycle (freeLinks slots), demand := need }

end Sys2Proof.Machine
end

