-- ==== Sys2Proof/Machine/Dram.lean ====
section
/-! DEFINITION. The DRAM channels: read results, freezes and releases, lost data, refresh, row counters, scrub, retraining and changes of
the operating point (chapter 14). DRAM timing makes no edge of this model (R278). -/

namespace Sys2Proof.Machine

/-- A notice of channel `m` (R399). -/
def dramNotice (code cls m : Nat) (params : List Nat) : State → State := notice code cls 6 (9 + m) params

/-- Channel `m` is in service. -/
def inService (s : State) (m : Nat) : Bool := (s.chan m).st == 0

/-- TEMP of a delay set (Table 14-7, W1). -/
def setTemp (set : List Byte) : Int := toInt 32 (leVal ((set.drop 4).take 4))

/-- The stored set of a channel for an operating point. -/
def storedSet (c : Dram) (rate : Nat) : List Byte := tget (startSet rate) rate c.sets

/-- The channel is more than 10 °C from TEMP of a set. -/
def tempFar (c : Dram) (set : List Byte) : Bool := decide ((c.temp - setTemp set).natAbs > 10240)

/-- A retraining in use, in phases 1 to 4 of Table 14-8. -/
def retraining (c : Dram) : Bool := c.st == 1 && !c.afterRelease && c.phase != .none

/-! ### Retraining and changeover (R393 to R396) -/

/-- Member `m` leaves service for phase 1. -/
def startMember (m : Nat) (changing : Bool) : State → State :=
  modChan m fun c => { c with st := if changing then 6 else 1, phase := .drain, changing := changing, oldSet := c.set }

/-- Due retrainings that can proceed begin, oldest first: not during a changeover, and never while the twin is out of service. -/
def startDue (s : State) : State :=
  forAll s.dev.dram.due (fun m s =>
    if s.dev.dram.change.isNone && inService s m && inService s (twin m) then
      startMember m false (modDram (fun d => { d with due := d.due.filter (· != m) }) s)
    else s) s

/-- Member `m` is in service away from point `p`. -/
def awayFrom (s : State) (p m : Nat) : Bool := inService s m && (s.chan m).rate != p

/-- Members of round `r` that can start a changeover to point `p` begin; those whose twin is out of service wait. -/
def startRound (p r : Nat) (s : State) : State :=
  forAll [r, 2 + r, 4 + r] (fun m s => if awayFrom s p m && inService s (twin m) then startMember m true s else s) s

/-- Round `r` has nothing left to do. -/
def roundDone (s : State) (p r : Nat) : Bool := ([r, 2 + r, 4 + r] : List Nat).all fun m => (s.chan m).st != 6 && !awayFrom s p m

/-- The changeover advances: its rounds, its end with RATE_APPLIED, then a deferred point. -/
def advanceChange : Nat → State → State
  | 0, s => s
  | k + 1, s =>
    match s.dev.dram.change with
    | some (p, r) =>
      let s := startRound p r s
      if !roundDone s p r then s
      else if !roundDone s p (1 - r) then advanceChange k (modDram (fun d => { d with change := some (p, 1 - r) }) s)
      else advanceChange k (notice 0x0026 3 6 0 [p] (modDram (fun d => { d with change := none }) s))
    | none =>
      let q := s.dev.dram.ratePending
      if q = 0xFF || (List.range 6).any (fun m => retraining (s.chan m)) then s
      else advanceChange k (modDram (fun d => { d with change := some (q, 0), ratePending := 0xFF }) s)

/-- A member that returned to service away from the active operating point changes to it. -/
def returnedAway (s : State) : State :=
  let p := s.act 0x3000 1
  if s.dev.dram.change.isNone && s.dev.dram.ratePending == 0xFF && (List.range 6).any (awayFrom s p) then
    modDram (fun d => { d with ratePending := p }) s
  else s

/-- What waited for a member proceeds. (DEDUCED, log 35.) -/
def settleDram (s : State) : State := startDue (advanceChange 8 (returnedAway s))

/-- A commit changes the active copy of `DRAM_RATE` (R395, R396). -/
def rateChanged (s : State) : State :=
  let p := s.act 0x3000 1
  let busy := s.dev.dram.change.isSome || (List.range 6).any fun m => retraining (s.chan m)
  let s := modDram (fun d => { d with ratePending := p }) s
  if busy then notice 0x0025 2 6 0 [p] s else settleDram s

/-- Retraining of the pairs of mask `m` becomes due, the lower-numbered member of each first (R393). -/
def makeDue (m : Nat) (s : State) : State :=
  let ms := (List.range 6).filter fun k => bit m (k / 2) && !s.dev.dram.due.contains k && !(retraining (s.chan k))
  settleDram (modDram (fun d => { d with due := d.due ++ ms }) s)

/-- Member `m` returns to service (phase 5 of Table 14-8). (DEDUCED, log 35.) -/
def returnMember (m bytes : Nat) (s : State) : State :=
  let time := s.time
  let s := modChan m (fun c => { c with
    st := 0, phase := .none, changing := false, writeLog := [], resilver := bytes, trains := sat32 (c.trains + 1), trainTime := time }) s
  let set := (s.chan m).set
  settleDram (dramNotice 0x0023 3 m [leVal ((set.drop 60).take 2), leVal ((set.drop 62).take 2)] s)

/-- RETRAIN_DRAIN_DONE: phase 2, or phase 3 with the stored set of the new point. -/
def execRetrainDrainDone (t : Nat) (m : Fin 6) : State → Host.Outcome State Fault Refusal :=
  atEdge t (occurs (fun s => (s.chan m).phase == .drain) fun s =>
    let c := s.chan m
    if c.changing then
      let p := match s.dev.dram.change with | some (p, _) => p | none => c.rate
      let set := storedSet c p
      modChan m (fun c => { c with
        rate := p, set := set, oldSet := set, phase := if tempFar c set then .sweep else .retest }) s
    else modChan m (fun c => { c with phase := .sweep }) s)

/-- RETRAIN_SWEEP_DONE (R391, R394): a working setting, or the set before the sweep is retested. -/
def execRetrainSweepDone (t : Nat) (m : Fin 6) (set : Option (List Byte)) : State → Host.Outcome State Fault Refusal :=
  atEdge t (occurs (fun s => (s.chan m).phase == .sweep) (modChan m fun c => match set with
    | some b => { c with set := b, phase := .retest }
    | none => { c with set := c.oldSet, phase := .oldRetest }))

/-- Training ends with the set in use: a member in use replays its write log; a released member is resilvered (Table 14-6). -/
def trained_ (m : Nat) (s : State) : State :=
  let time := s.time
  modChan m (fun c => if c.afterRelease then
      { c with st := 4, phase := .none, sets := tset c.rate c.set c.sets, resilver := 0, trains := sat32 (c.trains + 1), trainTime := time }
    else { c with phase := .replay, sets := tset c.rate c.set c.sets }) s

/-- A set with RESULT 2. -/
def marginalSet : List Byte → List Byte
  | [] => []
  | b :: r => BitVec.ofNat 8 (b.toNat % 16 + 32) :: r

/-- RETRAIN_RETEST_DONE (R391, R394). A stored set that fails its retest at a new point without a sweep gives way to a sweep. -/
def execRetrainRetestDone (t : Nat) (m : Fin 6) (pass : Bool) : State → Host.Outcome State Fault Refusal :=
  atEdge t fun s =>
    let c := s.chan m
    match c.phase with
    | .retest =>
      if pass then trained_ m (modChan m (fun c => { c with marginal := false }) s)
      else if c.changing && c.set == c.oldSet && !tempFar c c.set then modChan m (fun c => { c with phase := .sweep }) s
      else modChan m (fun c => { c with set := c.oldSet, phase := .oldRetest }) s
    | .oldRetest =>
      if pass then
        let s := modChan m (fun c => { c with marginal := true, set := marginalSet c.set }) s
        dramNotice 0x0024 1 m [ofInt 64 (setTemp c.set)] (trained_ m s)
      else settleDram (dramOffline m 3 s)
    | _ => s

/-- RETRAIN_REPLAY_DONE (Table 14-8). `bytes`: copied from the twin. -/
def execRetrainReplayDone (t : Nat) (m : Fin 6) (bytes : Nat) : State → Host.Outcome State Fault Refusal :=
  atEdge t (occurs (fun s => (s.chan m).phase == .replay) (returnMember m bytes))

/-- DRAM_TRAIN_REQ (R393). -/
def trainCodes (v : Nat) (s : State) : List Nat :=
  failIf (8 ≤ v) 0x03830000 :: (List.range 3).map fun p =>
    failIf (bit v p && ([2 * p, 2 * p + 1] : List Nat).any fun m => (s.chan m).st == 2 || (s.chan m).st == 5) (0x06610000 + p)

def execDramTrainReq (t : Nat) (r : Req) (v : Nat) : State → Host.Outcome State Fault Refusal :=
  atEdge t (command r 0x3000 (trainCodes v) (makeDue v))

/-! ### Uncorrectable errors (R384 to R389) -/

/-- Controller `m` freezes (R385). (DEDUCED, log 35.) -/
def freeze (m cause : Nat) (a : DramAddr) (s : State) : State :=
  let r : FreezeRec := { cause := cause, op := (s.chan m).rate, bank := a.bank, row := a.row, col := a.col, addr := a.addr,
                         syndrome := a.syndrome, time := s.time }
  let n := s.now
  let s := modChan m (fun c => { c with
    st := 2, phase := .none, changing := false, inOrder := [], work := { c.work with queue := [] }, record := some r, freezes := wrap32 (c.freezes + 1), frozenAt := n, retry := none }) s
  let s := assertLine (s.now + 3) 2023 s
  let l := locate s { dramLoc m with bank := a.bank, word := a.row, bit_ := a.col, depth := 7 }
  let s := reportFault 0 6 (9 + m) 0x0020 l cause a.addr (dramNotice 0x0020 1 m [cause, a.addr, a.syndrome] s)
  settleDram (if (s.chan m).freezes ≥ 3 then dramOffline m 1 s else s)

/-- A member in training is abandoned: it returns to service with its previous set, its write log replayed (Table 14-9). (DEDUCED, log 35.) -/
def abandonTraining (m : Nat) : State → State :=
  modChan m fun c => { c with st := 0, phase := .none, set := c.oldSet, writeLog := [] }

/-- Segments whose content covers the 32-byte block at store byte address `a`. -/
def coveringSegs (s : State) (a : Nat) : List Nat :=
  (s.dev.store.segs.filter fun p => storedKind p.2.kind && p.2.st != 0 && p.2.addr * 4096 < a + 32 && a < p.2.addr * 4096 + p.2.size).map
    Prod.fst

/-- Sample data is lost (R389). `e`: the engine whose read returned the lost block. (DEDUCED, log 36.) -/
def loseData (m : Nat) (a : DramAddr) (e : Option (Fin 64)) (s : State) : State :=
  let ns := coveringSegs s a.addr
  let s := modChan m (fun c => { c with retry := none }) s
  let s := forAll ns (fun n s => modSeg n (fun g => { g with crcFault := true }) s) s
  let s := match e with
    | some e => forAll ns (fun n s =>
        if lostNeeded.playsContent s e n then modSrc e (fun x => { x with lostWord := some (n, (a.addr - (s.seg n).addr * 4096) / 4) }) s
        else s) s
    | none => s
  let l := locate s { dramLoc m with bank := a.bank, word := a.row, bit_ := a.col, depth := 7 }
  let s := reportFault 3 6 (9 + m) 0x0028 l a.addr 0 (dramNotice 0x0028 0 m [a.addr] s)
  degraded (raiseReason 2 s)

/-- Controller `m` finds one of the errors of R384: it freezes if its twin serves; a twin in training is abandoned first; with no twin in
service a read is issued once more, and a second error loses the data (R389, Table 14-9). -/
def dramError (m cause : Nat) (a : DramAddr) (e : Option (Fin 64)) (s : State) : State :=
  let w := s.chan (twin m)
  if w.st = 0 then freeze m cause a s
  else if retraining w then freeze m cause a (abandonTraining (twin m) s)
  else if cause = 4 then s
  else if !(s.chan m).retry.any fun b => b.addr == a.addr then modChan m (fun c => { c with retry := some a }) s
  else if m < 4 then loseData m a e s
  else declareFatal (Config.fatalCause 0) (locate s { dramLoc m with bank := a.bank, word := a.row, bit_ := a.col, depth := 7 }) s

/-- DRAM_FREEZE (R384, R385). `cause` as in Table 14-5. -/
def execDramFreeze (t : Nat) (m : Fin 6) (cause : Nat) (a : DramAddr) : State → Host.Outcome State Fault Refusal :=
  atEdge t (occurs (fun s => inService s m && 1 ≤ cause && cause ≤ 4) (dramError m cause a none))

/-- A frozen channel is released (R386): it takes the active operating point. (DEDUCED, log 35.) -/
def releaseChannel (m : Nat) (s : State) : State :=
  let p := s.act 0x3000 1
  modChan m (fun c => { c with st := 3, record := none, rate := p, afterRelease := true }) s

/-- The refusals of `DCH_RELEASE` (R387). -/
def dchReleaseCodes (m v : Nat) (s : State) : List Nat :=
  let st := (s.chan m).st
  [must1 v, failIf (st == 5) (0x06620000 + m), failIf (st != 2 && st != 5) (0x06600000 + m)]

/-- DCH_RELEASE (R386, R387). -/
def execDchRelease (t : Nat) (r : Req) (m : Fin 6) (v : Nat) : State → Host.Outcome State Fault Refusal :=
  atEdge t (command r (0x3020 + m) (dchReleaseCodes m v) (releaseChannel m))

/-- FREEZE_AUTO_RELEASE (R387). -/
def execFreezeAutoRelease (t : Nat) (m : Fin 6) : State → Host.Outcome State Fault Refusal :=
  atEdge t (occurs (fun s => let v := s.rwv 0x3000 4
    (s.chan m).st == 2 && v != 0 && (s.chan m).frozenAt + v * 400000000 ≤ s.now) (releaseChannel m))

/-- DRAM_REINIT_DONE (Table 14-6). -/
def execDramReinitDone (t : Nat) (m : Fin 6) (ok : Bool) : State → Host.Outcome State Fault Refusal :=
  atEdge t (occurs (fun s => (s.chan m).st == 3) fun s =>
    if ok then modChan m (fun c => { c with
      st := 1, phase := .sweep, set := storedSet c c.rate, oldSet := storedSet c c.rate }) s
    else settleDram (dramOffline m 2 s))

/-- RESILVER_DONE (Table 14-6). -/
def execResilverDone (t : Nat) (m : Fin 6) (bytes : Nat) : State → Host.Outcome State Fault Refusal :=
  atEdge t (occurs (fun s => (s.chan m).st == 4) fun s =>
    let s := modChan m (fun c => { c with st := 0, afterRelease := false, writeLog := [], resilver := bytes }) s
    settleDram (dramNotice 0x0021 3 m [(s.chan m).freezes] s))

/-! ### Activates and reads (R369, R370, R372, R377, R378) -/

/-- Key of the counter of a row. -/
def rowKey (bank row : Nat) : Nat := bank * 2 ^ 18 + row

/-- The entry with the lowest count among those of a bank, the lowest row of them: (key, count). -/
def lowestEntry (l : Tbl Nat) : Option (Nat × Nat) :=
  l.foldl (fun m p => match m with | none => some p | some q => if p.2 < q.2 then some p else some q) none

/-- A neighbour refresh. -/
def countNeighbour (m : Nat) : State → State := modChan m fun c => { c with neighbours := (c.neighbours + 1) % 2 ^ 64 }

/-- An activate counted in the row counters of a control channel (R378). -/
def countRow (m bank row : Nat) (s : State) : State :=
  let l := (s.chan m).rows
  let own := l.filter fun p => p.1 / 2 ^ 18 == bank
  let k := rowKey bank row
  let (l, n) :=
    if own.any (·.1 == k) then (l, tget 0 k l + 1)
    else if own.length < 64 then (l, 1)
    else match lowestEntry own with | some p => (terase p.1 l, p.2 + 1) | none => (l, 1)
  if n ≥ 2048 then countNeighbour m (modChan m (fun c => { c with rows := tset k 0 l }) s)
  else modChan m (fun c => { c with rows := tset k n l }) s

/-- An access opens its row: an activate where another row of the bank, or none, was open. -/
def activate (m : Nat) (a : DramAddr) (s : State) : State :=
  if (s.chan m).openRow.any (· == (a.bank, a.row)) then s
  else
    let d := (s.chan m).draws
    let s := modChan m (fun c => { c with openRow := tset a.bank a.row c.openRow }) s
    if m < 4 then
      let s := modChan m (fun c => { c with draws := d + 1 }) s
      if Config.neighbourDraw d then countNeighbour m s else s
    else countRow m a.bank a.row s

/-- Words of good data reach engine `e`. (DEDUCED, log 14.) -/
def deliver (e : Option (Fin 64)) (words : Nat) (s : State) : State :=
  match e with
  | some e => panicCheck e (modSrc e (fun x => { x with fill := min 4096 (x.fill + words) }) s)
  | none => s

/-- A read burst of member `m` ends (R369, R370, R389). -/
def readEnds (m : Nat) (res : ReadEnd) (a : DramAddr) (e : Option (Fin 64)) (words : Nat) (s : State) : State :=
  let s := activate m a s
  let good := fun (s : State) =>
    deliver e words (modChan m (fun c => { c with retry := if c.retry.any (fun b => b.addr == a.addr) then none else c.retry }) s)
  match res with
  | .clean => good s
  | .correctedInline => good (countCorrected (modChan m (fun c => { c with corrInline := sat32 (c.corrInline + 1) }) s))
  | .correctedLink => good (countCorrected (modChan m (fun c => { c with corrLink := sat32 (c.corrLink + 1) }) s))
  | .badInline => dramError m 1 a e s
  | .badLink => dramError m 2 a e s

/-! ### The command queue of a controller (R372 to R374, Table 14-3) -/

/-- PANIC is raised on an engine that reads the channel: the sample channels hold what engines read. -/
def panicOn (s : State) (m : Nat) : Bool := m < 4 && (List.range 64).any fun e => (s.core e).src.panic

/-- Writes that wait in a queue. -/
def writesIn (q : List DramCmd) : Nat := (q.filter (·.op == .write)).length

/-- A command reaches the queue; the write buffer holds 64 writes, and a write that finds it full stays outside. -/
def takeCmd (q : List DramCmd) (x : DramCmd) : List DramCmd := if x.op == .write && 64 ≤ writesIn q then q else q ++ [x]

/-- The reserve of class 6 in a 10 µs window, in bytes (Table 14-2). -/
def reserveBytes (rate : Nat) : Nat := if rate = 0 then 10000 else if rate = 1 then 7500 else 3750

/-- The banks in in-order mode: a read waits behind a write of the same row (R373). -/
def orderedBanks : List DramCmd → List Nat
  | [] => []
  | x :: r =>
    let l := orderedBanks r
    if x.op == .write && (r.any fun y => y.op != .write && y.op != .refresh && y.bank == x.bank && y.row == x.row) then insertNat x.bank l else l

/-- The place of a command in the priority order, twice its class of Table 14-3: class 6 within its reserve stands ahead of class 4; none for a
refresh that PANIC postpones. -/
def cmdRank (s : State) (m : Nat) (x : DramCmd) : Option Nat :=
  let c := s.chan m
  match x.op with
  | .refresh => if 8 ≤ tget 0 x.bank c.owed then some 2 else if panicOn s m then none else some 6
  | .engineRead e => some (if (s.core e).src.panic then 4 else 8)
  | .controlRead => some 8
  | .workRead => some (if c.work.window != s.now / 4000 || c.work.moved < reserveBytes c.rate then 7 else 12)
  | .write => some (if 48 ≤ writesIn c.work.queue then 10 else 14)

/-- May the command issue before those of `before`, which came earlier? The reads of a requester keep their order, and so does everything of a
bank in in-order mode. -/
def mayPass (ordered : List Nat) (before : List DramCmd) (x : DramCmd) : Bool :=
  !before.any fun y => (x.op != .write && x.op != .refresh && y.op == x.op) || (ordered.contains x.bank && y.bank == x.bank)

/-- The position of the command that issues next, with its rank: of equal ranks the earlier. -/
def nextCmd (s : State) (m : Nat) (ordered : List Nat) (k : Nat) (before : List DramCmd) : List DramCmd → Option (Nat × Nat)
  | [] => none
  | x :: r =>
    let later := nextCmd s m ordered (k + 1) (before ++ [x]) r
    match if mayPass ordered before x then cmdRank s m x else none with
    | none => later
    | some c => match later with
      | some (j, d) => if d < c then some (j, d) else some (k, c)
      | none => some (k, c)

/-- A command issues. -/
def issueCmd (m : Nat) (x : DramCmd) (s : State) : State :=
  let w := s.now / 4000
  if x.op == .refresh then modChan m (fun c => { c with owed := terase x.bank c.owed, openRow := terase x.bank c.openRow }) s
  else
    let s := if x.op == .workRead then modChan m (fun c => { c with work := { c.work with
        window := w, moved := (if c.work.window = w then c.work.moved else 0) + x.bytes } }) s else s
    activate m { bank := x.bank, row := x.row, col := 0, addr := 0, syndrome := 0 } s

/-- The commands of the queue issue in their order, up to the first that satisfies `stop`; the first argument bounds their number. -/
def issueUntil (m : Nat) (stop : DramCmd → Bool) : Nat → State → State
  | 0, s => s
  | n + 1, s =>
    let q := (s.chan m).work.queue
    match nextCmd s m (orderedBanks q) 0 [] q with
    | none => s
    | some (k, _) => match q[k]? with
      | none => s
      | some x =>
        let s := issueCmd m x (modChan m (fun c => { c with work := { c.work with queue := q.eraseIdx k } }) s)
        if stop x then s else issueUntil m stop n s

/-- Is a command the read of `a` for engine `e`? -/
def isRead (a : DramAddr) (e : Option (Fin 64)) (x : DramCmd) : Bool :=
  x.bank == a.bank && x.row == a.row && (match e with | some e => x.op == .engineRead e | none => x.op == .controlRead || x.op == .workRead)

/-- Controller `m` has received the commands `arrived` and issued commands until the read of `a` that has ended; a read that no command announces
is the latest to arrive. (DEDUCED, log 35.) -/
def serveQueue (m : Nat) (a : DramAddr) (e : Option (Fin 64)) (arrived : List DramCmd) (s : State) : State :=
  let q := arrived.foldl takeCmd (s.chan m).work.queue
  let op := match e with | some e => DramOp.engineRead e | none => if m < 4 then .workRead else .controlRead
  let q := if q.any (isRead a e) then q else q ++ [{ op := op, bank := a.bank, row := a.row, bytes := 32 }]
  let s := issueUntil m (isRead a e) q.length (modChan m (fun c => { c with work := { c.work with queue := q } }) s)
  modChan m (fun c => { c with inOrder := orderedBanks c.work.queue }) s

/-- DRAM_READ_COMPLETE (R369, R370, R372 to R374). -/
def execDramReadComplete (t : Nat) (m : Fin 6) (res : ReadEnd) (a : DramAddr) (e : Option (Fin 64)) (words : Nat)
    (arrived : List DramCmd) : State → Host.Outcome State Fault Refusal :=
  atEdge t (occurs (fun s => inService s m) fun s => readEnds m res a e words (serveQueue m a e arrived s))

/-- SCRUB (R371): a read of class 6. -/
def execScrub (t : Nat) (m : Fin 6) (res : ReadEnd) (a : DramAddr) : State → Host.Outcome State Fault Refusal :=
  atEdge t (occurs (fun s => inService s m) fun s =>
    readEnds m res a none 0 (issueCmd m { op := .workRead, bank := a.bank, row := a.row, bytes := 32 } s))

/-! ### Refresh (R376, R378) -/

/-- The controller issues commands: not frozen, reinitialising or offline. -/
def controllerRuns (s : State) (m : Nat) : Bool := let c := s.chan m; c.st != 2 && c.st != 3 && c.st != 5

/-- MR4_READ (R376, R393). -/
def execMr4Read (t : Nat) (m : Fin 6) (hot : Bool) (temp : Int) : State → Host.Outcome State Fault Refusal :=
  atEdge t (occurs (fun s => controllerRuns s m) fun s =>
    let was := (s.chan m).doubled
    let s := modChan m (fun c => { c with temp := temp, doubled := hot }) s
    let s := if was == hot then s else dramNotice 0x0027 2 m [b2n hot] s
    if (inService s m || retraining (s.chan m)) && tempFar (s.chan m) (s.chan m).set then makeDue (2 ^ (m.val / 2)) s else s)

/-- REFRESH_DUE (R372, R376): under PANIC it is owed, up to eight for a bank; otherwise it and every owed one issue, and close the row. -/
def execRefreshDue (t : Nat) (m : Fin 6) (bank : Nat) : State → Host.Outcome State Fault Refusal :=
  atEdge t (occurs (fun s => controllerRuns s m) fun s =>
    let owed := tget 0 bank (s.chan m).owed
    if !panicOn s m then modChan m (fun c => { c with owed := terase bank c.owed, openRow := terase bank c.openRow }) s
    else if owed < 8 then modChan m (fun c => { c with owed := tset bank (owed + 1) c.owed, postponed := sat32 (c.postponed + 1) }) s
    else modChan m (fun c => { c with openRow := terase bank c.openRow }) s)

/-- ROW_COUNTER_WINDOW (R378). -/
def execRowCounterWindow (t : Nat) (m : Fin 6) : State → Host.Outcome State Fault Refusal :=
  atEdge t (occurs (fun _ => 4 ≤ m.val) (modChan m fun c => { c with rows := [] }))

end Sys2Proof.Machine
end

