-- ==== Sys2Proof/Machine/Engine.lean ====
section
/-! DEFINITION. The engine commands and events: ENGINE_CMD, task inputs, the actions that fall due at a tick, decision points, code
formation, late entries and LIVE index reads (chapters 3 to 5). -/

namespace Sys2Proof.Machine

/-! ### ENGINE_CMD (R102, R106) -/

/-- `ENGINE_STATE` (Table 3-11). -/
def engineState (s : State) (e : Nat) : Nat :=
  if (s.engine e).takeover.isSome then 6
  else match (s.core e).st with
    | .idle => 0 | .armed => 1 | .running => 2 | .waiting => 3 | .holding => 4 | .stopped => 5 | .takeover => 6 | .fault => 7

/-- Writes an event to the event log of engine `e` (R450). -/
def logEvent (e k : Nat) (s : State) : State := modEngine e (fun g => { g with log := g.log ++ [(s.now, k)] }) s

/-- States in which command `k` is permitted (Table 3-12, R161); in TAKEOVER none is. -/
def commandStateOk (s : State) (e k : Nat) : Bool :=
  let c := s.core e
  !(s.engine e).takeover.isSome &&
  (if k = 1 then c.st == .idle || c.st == .stopped
   else if k = 2 then c.st == .armed
   else if k = 3 then c.active
   else if k = 4 then c.st == .stopped || (c.src.latch && c.active)
   else if k = 5 then c.st == .armed
   else c.st == .stopped)

/-- The refusals of `ENGINE_CMD` `k` with bits [31:8] `hi` (R106). -/
def engineCmdCodes (e k hi : Nat) (s : State) : List Nat :=
  [failIf (bits hi 23 19 != 0 || (k != 4 && hi != 0)) 0x03830000,
   failIf (!commandStateOk s e k) (0x06100000 + engineState s e),
   failIf (k == 1 && !configured s e) 0x06110000,
   failIf (k == 4 && partSize s.dev.dict.active e ≤ bits hi 18 0) 0x03100000,
   failIf (k == 4 && !reachable s e (bits hi 18 0)) 0x03120000]

/-- An accepted command acts at the first tick on a 1 µs boundary at least 16 ECLK later; RESUME clears the underrun latch at its
acceptance (R161). -/
def acceptCommand (e k hi : Nat) (s : State) : State :=
  let c : EngCmd := { cmd := k, step := bits hi 18 0, tick := s.usTick e (s.now + 16), from_ := s.now + 16, viaLatch := (s.core e).src.latch }
  let s := logEvent e (16 + k) (modPend e (fun p => { p with cmds := p.cmds ++ [c] }) s)
  if k = 4 then modSrc e dropLatch s else s

/-- A write of `ENGINE_CMD`. -/
def engineCmd (r : Req) (e k hi : Nat) : State → State :=
  command r (engIdx e 0) (engineCmdCodes e k hi) (acceptCommand e k hi)

/-- ENGINE_CMD_ARM (R100, R102, R106). -/
def execEngineCmdArm (t : Nat) (r : Req) (e : Fin 64) (hi : Nat) : State → Host.Outcome State Fault Refusal :=
  atEdge t (engineCmd r e 1 hi)

/-- ENGINE_CMD_START (R102, R106). -/
def execEngineCmdStart (t : Nat) (r : Req) (e : Fin 64) (hi : Nat) : State → Host.Outcome State Fault Refusal :=
  atEdge t (engineCmd r e 2 hi)

/-- ENGINE_CMD_ABORT (R102, R106). -/
def execEngineCmdAbort (t : Nat) (r : Req) (e : Fin 64) (hi : Nat) : State → Host.Outcome State Fault Refusal :=
  atEdge t (engineCmd r e 3 hi)

/-- ENGINE_CMD_RESUME (R102, R106, R161). -/
def execEngineCmdResume (t : Nat) (r : Req) (e : Fin 64) (hi : Nat) : State → Host.Outcome State Fault Refusal :=
  atEdge t (engineCmd r e 4 hi)

/-- ENGINE_CMD_DISARM (R102, R106). -/
def execEngineCmdDisarm (t : Nat) (r : Req) (e : Fin 64) (hi : Nat) : State → Host.Outcome State Fault Refusal :=
  atEdge t (engineCmd r e 5 hi)

/-- ENGINE_CMD_RESET (R102, R106). -/
def execEngineCmdReset (t : Nat) (r : Req) (e : Fin 64) (hi : Nat) : State → Host.Outcome State Fault Refusal :=
  atEdge t (engineCmd r e 6 hi)

/-! ### Events at the engine's inputs (R88, R97, R98) -/

/-- What a registered event does in the state that it finds. -/
inductive Reaction where
  | abort | start | hold | unhold | wake
  | jump (target : Nat)
  | atEnd (target : Nat)
  /-- Its target's pilot buffer is being refilled (R91). -/
  | refilling (target : Nat)
  deriving DecidableEq, Repr

/-- Rank in R97; the lowest acts. -/
def Reaction.rank : Reaction → Nat
  | .abort => 0 | .start => 1 | .hold => 2 | .unhold => 3 | .wake => 4 | .jump _ => 5 | .atEnd _ => 6 | .refilling _ => 7

/-- Is the WAIT_SEL input of the current step armed, and is it T`k` (R82, R83)? In RUNNING a change of END_ACTION arms or disarms it at a
decision point, a change of WAIT_SEL at the commit tick (R109). -/
def wakeArmed (s : State) (e k : Nat) : Bool :=
  let c := s.core e
  (s.entry e c.play.step).waitSel == k + 1 && (c.st == .waiting || (c.st == .running && c.play.action == 5))

/-- A jump-map lookup of T`k` (R88, R91, R96). -/
def lookup (s : State) (e k : Nat) : Option Reaction :=
  let c := s.core e
  let w := mapWord s.dev.dict.active e (s.entry e c.play.step).jumpMap
  let g := mapTarget w k
  if !mapEn w k then none
  else if !(c.st == .running || c.st == .waiting || (c.st == .holding && c.holdCause == 2)) then none
  else if s.dev.dict.commit.blocked.contains (e, g) then some (.refilling g)
  else if mapAtEnd w k && c.st == .running then some (.atEnd g) else some (.jump g)

/-- Table 3-10 for input `k` of engine `e`: T0 to T7, HOLD_IN 8, RELEASE 9, ABORT 10. None: ignored. (DEDUCED, log 5.) -/
def reaction (s : State) (e k : Nat) : Option Reaction :=
  let c := s.core e
  if k = 10 then (if c.active || c.st == .armed then some .abort else none)
  else if c.st == .armed then (if k < 8 && s.act (engIdx e 0) 3 == k + 1 then some .start else none)
  else if c.src.latch then none
  else if k = 8 then (if c.st == .running then some .hold else none)
  else if k = 9 then (if c.st == .holding && c.holdCause == 1 then some .unhold else none)
  else if wakeArmed s e k then some .wake
  else lookup s e k

/-- Does an event compete (R97)? -/
def competes : Option Reaction → Bool
  | none => false
  | some (.refilling _) => false
  | some _ => true

/-- The input whose event acts among those registered at the edge: the lowest rank, then the lowest input number. (DEDUCED, log 5.) -/
def winner (s : State) (e : Nat) : Option Nat :=
  let l := ([0, 1, 2, 3, 4, 5, 6, 7, 8, 9, 10] : List Nat).filter fun k => inputEvent s (12 * e + k) && competes (reaction s e k)
  l.foldl (fun m k => match m with
    | none => some k
    | some j => if (reaction s e k).elim 9 Reaction.rank < (reaction s e j).elim 9 Reaction.rank then some k else some j) none

/-- A registered request is recorded with the tick at which it acts; a later one of IMMEDIATE or AT_END replaces a pending one, any
other later one is ignored. (DEDUCED, log 13.) -/
def registerReaction (e : Nat) (x : Reaction) (s : State) : State :=
  let q := s.tickAt e (s.now + 16)
  let p := (s.core e).pend
  let new := fun k => some (s.now, k)
  let once := fun (o : Option Nat) (f : EngPend → EngPend) => if o.isSome then ignoreEvents e 1 s else modPend e f s
  match x with
  | .abort => once p.abort fun p => { p with abort := some q, fresh := new 0 }
  | .start => once p.start fun p => { p with start := some q }
  | .hold => once p.hold fun p => { p with hold := some q, fresh := new 1 }
  | .unhold => once p.unhold fun p => { p with unhold := some q, fresh := new 2 }
  | .wake => once p.release fun p => { p with release := some q, fresh := new 3 }
  | .jump k => ignoreEvents e (b2n p.jump.isSome) (modPend e (fun p => { p with
      jump := some { q := q, target := k }, fresh := if p.jump.isSome then p.fresh else new 4 }) s)
  | .atEnd k => ignoreEvents e (b2n p.atEnd.isSome) (modPend e (fun p => { p with atEnd := some { q := s.now, target := k } }) s)
  | .refilling _ => s

/-- Engine `e` registers what arrives at its input `k` (R97, R98, R254, R255, R450). -/
def engineInput (e k : Nat) (s : State) : State :=
  let (s, hit) := registerInput (12 * e + k) s
  if !hit then s
  else
    let s := logEvent e k s
    match reaction s e k with
    | none => ignoreEvents e 1 s
    | some (.refilling g) => engineNotice 0x0004 2 e [g, k] (ignoreEvents e 1 s)
    | some x => if winner s e == some k then registerReaction e x s else ignoreEvents e 1 s

/-- An event on the RATE_STEP input (R132, R133): a second one for one tick is ignored. -/
def rateStepInput (e : Nat) (s : State) : State :=
  let (s, hit) := registerInput (12 * e + 11) s
  if !hit then s
  else
    let s := logEvent e 11 s
    let q := s.tickAt e (s.now + 16)
    if (s.core e).pend.rate.any (·.1 == q) then ignoreEvents e 1 s
    else modPend e (fun p => { p with rate := p.rate ++ [(q, s.now)] }) s

/-! ### Decision points and code formation -/

/-- At the decision point of end tick `t` the engine decides what follows the pass (R94, R95, R89). -/
def decide24 (e t : Nat) (s : State) : State :=
  let x := simTicks e (t - s.gridE e) s
  let c := x.core e
  let n := (passSum x c).2
  if c.st == .running && c.phase == .play && n != 0 && (s.core e).st == .running then
    let w := decideEnd x e n t
    modPend e (fun p => { p with decisions := p.decisions.filter (·.tick != t) ++ [{ tick := t, what := w }] }) (settleAtEnd e t w s)
  else s

/-- The requests without the one registered at the edge of the step: an underrun is judged beside it (R157). -/
def beforeEdge (s : State) (p : EngPend) : EngPend :=
  match p.fresh with
  | some (n, k) =>
    if n != s.now then p
    else match k with
      | 0 => { p with abort := none }
      | 1 => { p with hold := none }
      | 2 => { p with unhold := none }
      | 3 => { p with release := none }
      | _ => { p with jump := none }
  | none => p

/-- 20 ECLK before tick `t` (R123): the underrun test of a sample tick of a STREAM or LIVE step (R155, R156), and F of a first
dead-time tick (R78), formed from every request registered so far. (DEDUCED, log 13.) -/
def form20 (e t : Nat) (s : State) : State :=
  let y := simTicks e t (modPend e (beforeEdge s) s)
  let x := simTicks e t s
  let c := x.core e
  if sampled y e then
    match missingWord s y e with
    | some w => modPend e (fun p => { p with underrun := some (t, w) }) s
    | none => s
  else if c.phase == .dead 1 && c.play.entry.trans == 1 then
    modPlay e (fun p => { p with formed := some (t, c.play.step, c.play.bridge.map Prod.snd) }) s
  else s

/-- The entry that the engine awaits in the dead time is taken, and the first sample follows the second dead-time tick (R74). -/
def entryArrives (e : Nat) (s : State) : State :=
  modCore e (fun c => { c with phase := if c.phase == .dead 2 then .first else c.phase }) (takeEntry e s)

/-! ### LIVE index reads (R147 to R149, R160) -/

/-- The LIVE segment whose index engine `e` reads: that of its entry, from the first dead-time tick until the entry ends (R147), or, while the
underrun latch is set, the one that it empties (R160). -/
def liveRead (s : State) (e : Nat) : Option Nat :=
  let c := s.core e
  let isLive := fun (n : Nat) => (s.seg n).kind == 6
  if c.st == .fault then none
  else if c.src.latch then (if isLive c.src.latchSeg then some c.src.latchSeg else none)
  else c.play.seg.filter isLive

/-- The index word of a LIVE segment (R146). -/
def indexWord (s : State) (g : Seg) : Nat := bankWord s (bits g.addr 6 0) ((bits g.addr 31 16 + g.items) % 65536)

/-- An index read of LIVE segment `n` returns. -/
def readIndexWord (e n : Nat) (s : State) : State :=
  let c := s.core e
  let g := s.seg n
  let iw := indexWord s g
  let s := modSrc e (fun x => { x with iw := tset n iw x.iw, nextRead := x.nextRead.map (· + 32) }) s
  if c.src.latch then emptySource e n s
  else if !c.src.rlSet.contains n then
    let rl := liveDiff iw (s.act (engIdx e 7) 7)
    let s := modSrc e (fun x => { holdLive n rl { x with chipSeg := none } with rl := tset n rl x.rl, rlSet := n :: x.rlSet, e0 := rl }) s
    fillChecks e (copyLive e n s)
  else
    let lost := liveLe c.src.copied iw && g.items < liveDiff iw c.src.copied
    let s := if lost then engineNotice 0x0007 2 e [n, iw] (modSrc e (fun x => { x with overruns := sat32 (x.overruns + 1) }) s) else s
    fillChecks e (copyLive e n s)

end Sys2Proof.Machine
end

