-- ==== Sys2Proof/Machine/Fabric.lean ====
section
/-! DEFINITION. The event fabric's own blocks: TRIG balls, timers, software events, and what a commit does to them and to slots
(chapter 9). -/

namespace Sys2Proof.Machine

/-! ### TRIG balls (R259, R260, R506) -/

/-- `TRIG_CFG` of ball `k`. -/
def trigCfg (s : State) (k : Nat) : Nat := s.act (0x4010 + k) 1

/-- TRIGk is an output. -/
def trigOut (s : State) (k : Nat) : Bool := bit (trigCfg s k) 0

/-- Does EDGE select a transition to level `v`? -/
def edgeSelects (cfg : Nat) (v : Bool) : Bool := bit cfg (if v then 1 else 2)

/-- Input ball TRIGk is sampled at level `level` (R259, R506). The sample at the edge at which it became an input is its starting level and gives no
event; at a later edge the command tells of a transition. (DEDUCED, log 22.) -/
def trigSample (k : Nat) (level : Bool) (s : State) : State :=
  let x := s.trig k
  let start := x.inputAt.any (s.now ≤ ·)
  let ev := !start && (x.inputAt.isSome || x.level != level) && edgeSelects (trigCfg s k) level
  let s := modTrig k (fun x => { x with level := level, inputAt := none }) s
  if ev then assertLine (s.now + 3) (1792 + k) s else s

/-- Does the pulse of TRIGk drive its active level at the edge of the step? -/
def pulseActive (s : State) (k : Nat) : Bool :=
  (s.trig k).pulseFrom.any (· ≤ s.now) && (s.trig k).pulseEnd.any (s.now < ·)

/-- The output input of TRIGk registers (R260): active from X + 1 for `TRIG_WIDTH` ECLK; during a pulse the count restarts. (DEDUCED, log 22.) -/
def trigOutput (k : Nat) (s : State) : State :=
  let (s, hit) := registerInput (1024 + k) s
  if hit && trigOut s k then
    modTrig k (fun x => { x with
      pulseFrom := if x.pulseEnd.any (s.now < ·) then x.pulseFrom else some (s.now + 1),
      pulseEnd := some (s.now + 1 + s.act (0x4010 + k) 2) }) s
  else s

/-- TRIG_PULSE_END (R260). -/
def execTrigPulseEnd (t : Nat) (k : Fin 32) : State → Host.Outcome State Fault Refusal :=
  atEdge t (occurs (fun s => (s.trig k).pulseEnd.any (· ≤ s.now)) (modTrig k fun x => { x with pulseFrom := none, pulseEnd := none }))

/-- A commit changes `TRIG_CFG` (R506): a ball that changes its direction has no pulse; one that becomes an input takes its starting level from the
sample at the commit tick; the line of one that becomes an output is no more asserted (R259). (DEDUCED, log 22.) -/
def commitTrig (t0 : Tbl Nat) (k : Nat) (s : State) : State :=
  let was := bit (copyVal t0 (0x4010 + k) 1) 0
  if was == trigOut s k then s
  else
    let n := s.now
    let s := modTrig k (fun x => { x with pulseFrom := none, pulseEnd := none, inputAt := if was then some n else none }) s
    if was then s else modFabric (fun f => { f with sched := f.sched.filter fun a => !(n ≤ a.1 && a.2 == 1792 + k) }) s

/-! ### Timers (R261, R262) -/

def tmrIdx (k : Nat) : Nat := 0x4040 + k
def tmrMode (s : State) (k : Nat) : Nat := s.act (tmrIdx k) 1 % 4
def tmrSrc (s : State) (k : Nat) : Nat := bits (s.act (tmrIdx k) 1) 3 2

/-- Does the timer fire at the edge of the step, as it runs? On the SYNC grid `x` is the first edge at which it may. -/
def tmrDue (s : State) (k : Nat) : Bool :=
  let x := s.timer k
  let p := s.act (tmrIdx k) 2
  let d := s.act (tmrIdx k) 3
  x.st == 2 &&
  (if tmrMode s k = 1 then
     if tmrSrc s k = 2 then decide (x.x ≤ s.now) && s.now % p == d else x.x + d + x.fired * p == s.now
   else tmrMode s k == 2 && x.x + d == s.now)

/-- A firing: the line 1 ECLK later, the counts, and the stop after `TMR_LIMIT` firings or after a ONESHOT. -/
def tmrFire (k : Nat) (s : State) : State :=
  let lim := s.act (tmrIdx k) 5
  let grid := tmrMode s k == 1 && tmrSrc s k == 2
  let shot := tmrMode s k == 2
  modTimer k (fun x => { x with
    fires := wrap32 (x.fires + 1), fired := x.fired + 1, x := if grid then s.now + 1 else x.x,
    st := if shot then 1 else if lim != 0 && x.fired + 1 ≥ lim then 3 else x.st }) (assertLine (s.now + 1) (1824 + k) s)

/-- A firing that falls on an edge takes place before what else happens to the timer at that edge. -/
def tmrFireDue (k : Nat) (s : State) : State := if tmrDue s k then tmrFire k s else s

/-- TIMER_FIRE (R261). A DIVIDE timer fires with its START. -/
def execTimerFire (t : Nat) (k : Fin 64) : State → Host.Outcome State Fault Refusal := atEdge t (tmrFireDue k)

/-- A START on which the timer does not act. -/
def tmrIgnore (k : Nat) : State → State := modTimer k fun x => { x with ignored := sat32 (x.ignored + 1) }

/-- A DIVIDE timer counts a START; from a stop it counts anew. -/
def tmrDivide (k : Nat) (s : State) : State :=
  let s := modTimer k (fun x =>
    if x.st = 2 then { x with divAcc := x.divAcc + 1 } else { x with st := 2, divAcc := 1, fired := 0 }) s
  if (s.timer k).divAcc ≥ s.act (tmrIdx k) 4 then modTimer k (fun x => { x with divAcc := 0 }) (tmrFire k s) else s

/-- The START input of TMRk registers (R261, Table 9-6). (DEDUCED, log 22.) -/
def tmrStart (k : Nat) (s : State) : State :=
  let (s, hit) := registerInput (1056 + k) s
  if !hit then s
  else
    let s := tmrFireDue k s
    let m := tmrMode s k
    if m = 0 || inputEvent s (1120 + k) then tmrIgnore k s
    else if m = 3 then tmrDivide k s
    else if m = 1 && tmrSrc s k = 2 then
      if (s.timer k).st = 2 then tmrIgnore k s else modTimer k (fun x => { x with st := 2, x := s.now + 1, fired := 0 }) s
    else modTimer k (fun x => { x with st := 2, x := s.now, fired := 0 }) s

/-- The HALT input of TMRk registers (R261). -/
def tmrHalt (k : Nat) (s : State) : State :=
  let (s, hit) := registerInput (1120 + k) s
  if hit && tmrMode s k != 0 then modTimer k (fun x => { x with st := 1, divAcc := 0, fired := 0 }) (tmrFireDue k s) else s

/-- A commit tick at timer `k` (R261, R262), `ch` being the change marks: changed settings stop it; START_SRC 1 starts it; a SYNC grid and a DIVIDE run from the tick
that set them. -/
def commitTimer (ch : List Nat) (k : Nat) (s : State) : State :=
  let changed := ([1, 2, 3, 4, 5] : List Nat).any fun i => ch.contains (key (tmrIdx k) i)
  let m := tmrMode s k
  let src := tmrSrc s k
  if changed then
    modTimer k (fun x => { x with
      divAcc := 0, fired := 0, x := s.now,
      st := if m = 0 then 0 else if m = 3 || src = 2 || src = 1 then 2 else 1 }) s
  else if src = 1 && (m = 1 || m = 2) then modTimer k (fun x => { x with st := 2, x := s.now, fired := 0 }) (tmrFireDue k s)
  else s

/-! ### Software events (R263) -/

/-- An accepted write of `SW_EVENT` waits for its 1 µs boundary. -/
def swEvent (v : Nat) (s : State) : State :=
  modFabric (fun f => { f with
    sw := f.sw ++ [{ at_ := alignUp 400 (s.now + 16), from_ := s.now + 16, mask := v % 2 ^ 64 }], swWrites := wrap32 (f.swWrites + 1) }) s

/-- SW_EVENT (R263). -/
def execSwEvent (t : Nat) (r : Req) (v : Nat) : State → Host.Outcome State Fault Refusal :=
  atEdge t (command r 0x4080 (fun _ => []) (swEvent v))

/-- SW_EVENT_ASSERT (R263): at the boundary edge, the selected lines 1 ECLK later. -/
def execSwEventAssert (t : Nat) : State → Host.Outcome State Fault Refusal :=
  atEdge t fun s =>
    let due := s.dev.fabric.sw.filter (·.at_ ≤ s.now)
    let s := modFabric (fun f => { f with sw := f.sw.filter (s.now < ·.at_) }) s
    forAll (List.range 64) (fun k s => if due.any fun w => bit w.mask k then assertLine (s.now + 1) (1888 + k) s else s) s

/-! ### Slots at a commit (R258) -/

/-- A slot whose word changes starts with an empty limiter history. `ch`: the change marks. -/
def commitSlots (ch : List Nat) (i : Nat) (s : State) : State :=
  let a := ch.contains (key (slotObj i).1 (slotObj i).2)
  let b := ch.contains (key (slotObj i).1 ((slotObj i).2 + 1))
  if a || b then modInput i (fun x => { x with lastA := if a then none else x.lastA, lastB := if b then none else x.lastB }) s else s

end Sys2Proof.Machine
end

