-- ==== Sys2Proof/Machine/Hawser.lean ====
section
/-! DEFINITION. The Hawser ring: discovery, cells, cross-device events, lanes, the timing master and alignment (chapter 11). -/

namespace Sys2Proof.Machine

/-- Cells run on the links of a ring that is formed. -/
def ringRuns (s : State) : Bool := s.dev.ring.st == 2 || s.dev.ring.st == 3 || s.dev.ring.st == 4

/-- The module is joined and aligned. -/
def ringAligned (s : State) : Bool := s.dev.ring.st == 3 || s.dev.ring.st == 4

def modLinkOf (west : Bool) (f : HwLink → HwLink) : State → State :=
  modRing fun r => if west then { r with west := f r.west } else { r with east := f r.east }

def linkOf (s : State) (west : Bool) : HwLink := if west then s.dev.ring.west else s.dev.ring.east

def HwLink.up (l : HwLink) : Bool := l.lane0 || l.lane1

/-! ### Cells (R295, R296) -/

/-- One bit of the CRC-16 of Table 11-1 (polynomial 0x1021, not reflected). -/
def crc16Bit (c : Nat) : Nat := if c ≥ 32768 then (2 * c % 65536) ^^^ 0x1021 else 2 * c

/-- The CRC-16 of Table 11-1: initial value 0xFFFF. -/
def crc16 (d : List Byte) : Nat :=
  d.foldl (fun c b => (List.range 8).foldl (fun c _ => crc16Bit c) (c ^^^ (256 * b.toNat))) 0xFFFF

/-- A record with VALID (Table 11-1). -/
def recordWord (x : HwRecord) : Nat := x.xline % 64 + 64 * (x.offset % 16) + 1024 * (x.src % 8) + 8192

/-- Record slot `i` of a cell that carries the records `l`: slots 2k and 2k + 1 belong to position k. -/
def slotRecord (l : List HwRecord) (i : Nat) : Nat :=
  match (l.filter fun x => x.src == i / 2)[i % 2]? with
  | some x => recordWord x
  | none => 0

/-- The first byte of a cell: the K28.5 comma, by its 8-bit value. (DESIGN CHOICE, log 60.) -/
def cellStart : Byte := 0xBC

/-- The cell of window `w` with the records `l` (Table 11-1). How messages are segmented over its message channel is not given: those bytes are
free. (DESIGN CHOICE, log 60.) -/
def cellBytes (w : Nat) (l : List HwRecord) : List Byte :=
  let b := BitVec.ofNat 8 w :: (List.range 16).flatMap (fun i => leBytes 2 (slotRecord l i)) ++ (List.range 14).map (Config.messageByte w)
  cellStart :: b ++ leBytes 2 (crc16 b)

/-- Does a cell pass its check? -/
def cellOk (c : List Byte) : Bool :=
  c.length == 50 && c.head? == some cellStart && leVal (c.drop 48) == crc16 ((c.drop 1).take 47)

/-- SEQ and the records of a cell. -/
def cellSeq (c : List Byte) : Nat := leVal ((c.drop 1).take 1)
def cellRecords (c : List Byte) : List HwRecord :=
  (List.range 16).filterMap fun i =>
    let w := leVal ((c.drop (2 + 2 * i)).take 2)
    if bit w 13 then some { xline := bits w 5 0, offset := bits w 9 6, src := bits w 12 10 } else none

/-- The cell of the window that begins now or has begun: the own records of the window before it and the records to forward. -/
def sendCell (s : State) : State :=
  let w := s.now / 16
  modRing (fun r => { r with
    sentEast := cellBytes w (r.tx ++ r.fwdEast), sentWest := cellBytes w (r.tx ++ r.fwdWest), tx := [], fwdEast := [], fwdWest := [],
    window := w }) s

/-- The cell of a window is sent once. -/
def rollWindow (s : State) : State := if ringRuns s && s.dev.ring.window != s.now / 16 then sendCell s else s

/-- HAWSER_CELL_SEND (R295). -/
def execHawserCellSend (t : Nat) : State → Host.Outcome State Fault Refusal :=
  atEdge t (occurs (fun s => s.now % 16 == 0) rollWindow)

/-- Own records of a window in the order of R296: by edge, then by x. -/
def placeRecord (x : HwRecord) : List HwRecord → List HwRecord
  | [] => [x]
  | y :: r => if x.offset < y.offset || (x.offset == y.offset && x.xline < y.xline) then x :: y :: r else y :: placeRecord x r

/-- Outbound input Xx registers (R296, R297). -/
def outboundEvent (x : Nat) (s : State) : State :=
  let (s, hit) := registerInput (1184 + x) s
  if !hit || !ringRuns s then s
  else
    let s := rollWindow s
    let l := placeRecord { xline := x, offset := s.now % 16, src := s.dev.ring.devpos } s.dev.ring.tx
    let s := modRing (fun r => { r with tx := l.take 2 }) s
    match l.drop 2 with
    | d :: _ => notice 0x000E 2 0 0 [d.xline] (modRing (fun r => { r with txDrops := sat32 (r.txDrops + 1) }) s)
    | [] => s

/-- Hops that a record from `src` has made when it arrives: eastward on the west link, westward on the east link (R291, R297). -/
def hopsOf (s : State) (west : Bool) (src : Nat) : Nat :=
  let r := s.dev.ring
  if west then (r.devpos + r.size - src % r.size) % r.size else (src + r.size - r.devpos % r.size) % r.size

/-- The links that a record from `src` has crossed when it arrives, each by the position that it leads east from. -/
def linksCrossed (s : State) (west : Bool) (src : Nat) : List Nat :=
  let m := s.dev.ring.size
  (List.range (hopsOf s west src)).map fun i => if west then (src + i) % m else (src + m * 8 - 1 - i) % m

/-- Does the path by which a record from `src` arrives on this link cross a lost link? -/
def pathLost (s : State) (west : Bool) (src : Nat) : Bool := (linksCrossed s west src).any s.dev.ring.lostLinks.contains

/-- Is the copy that arrives on this link the one of the path that R297 names: in equalised mode whichever comes first, else the shorter path, of
equal paths the eastward one, and after a loss the one that remains? -/
def pathNamed (s : State) (west : Bool) (src : Nat) : Bool :=
  s.act 0x2020 6 == 1 || pathLost s (!west) src ||
  (!pathLost s west src && west == decide (hopsOf s true src ≤ hopsOf s false src))

/-- The edge X at which the outbound input registered the event of a record that arrives with SEQ `seq` after `h` hops: its own window is
the one before the first cell, and each forwarding takes the second cell after. -/
def eventEdge (s : State) (seq h offset : Nat) : Nat :=
  let w := s.now / 16
  let sent := w - (w + 256 - seq % 256) % 256
  16 * (sent + 1 - 2 * h) + offset

/-- A record of a cell is taken (R297, R298): one that returns to its origin is removed; the copy of the path that R297 names sets the event's
delivery edge, X + 40 × h, and another copy is discarded; every record taken is forwarded. -/
def takeRecord (west : Bool) (seq : Nat) (x : HwRecord) (s : State) : State :=
  let r := s.dev.ring
  if x.src = r.devpos then s
  else
    let h := hopsOf s west x.src
    let e := eventEdge s seq h x.offset
    let hops := if s.act 0x2020 6 = 1 then r.size - 1 else h
    let drop := !pathNamed s west x.src || r.rx.any fun y => y.2 == (e, x.xline, x.src)
    modRing (fun r => { r with
      rx := if drop then r.rx else r.rx ++ [(e + 40 * hops, e, x.xline, x.src)],
      fwdEast := if west then r.fwdEast ++ [x] else r.fwdEast, fwdWest := if west then r.fwdWest else r.fwdWest ++ [x] }) s

/-- The link of a side of position `p`, by the position that it leads east from. -/
def sideLink (s : State) (p : Nat) (west : Bool) : Nat :=
  if west then (p + s.dev.ring.size - 1) % s.dev.ring.size else p

/-- The link of this side of the module. -/
def ownLink (s : State) (west : Bool) : Nat := sideLink s s.dev.ring.devpos west

/-- A link of the ring is lost (R311). -/
def loseLink (link : Nat) : State → State := modRing fun r =>
  { r with lostLinks := if r.lostLinks.contains link then r.lostLinks else link :: r.lostLinks, st := if r.st = 3 then 4 else r.st }

/-- An own lane is lost (R311). -/
def loseLane (west : Bool) (lane : Nat) (s : State) : State :=
  let l := linkOf s west
  if !(if lane = 0 then l.lane0 else l.lane1) then s
  else
    let s := modLinkOf west (fun l => { l with
      lane0 := l.lane0 && lane != 0, lane1 := l.lane1 && lane != 1, laneLosses := sat32 (l.laneLosses + 1) }) s
    let s := notice 0x000D 1 7 (b2n west) [b2n west, lane] (assertLine s.now 2042 s)
    if (linkOf s west).up then s
    else loseLink (ownLink s west) (modLinkOf west (fun l => { l with linkLosses := sat32 (l.linkLosses + 1) }) s)

/-- HAWSER_LANE_LOST (R297, R311). -/
def execHawserLaneLost (t : Nat) (west : Bool) (lane : LaneSite) : State → Host.Outcome State Fault Refusal :=
  atEdge t fun s => match lane with
    | .own k => loseLane west k s
    | .away p => if ringRuns s && p < s.dev.ring.size then loseLink (sideLink s p west) s else s

/-- A cell of its START byte, bytes 1 to 47, and CRC (Table 11-1). -/
def cellOf (start : Byte) (body : List Byte) (crc : Nat) : List Byte := start :: (body ++ leBytes 2 crc)

/-- HAWSER_CELL (R295, R298, R311): a cell of lane 0 that passes its CRC is taken; a cell of lane 1 in place of one that failed on lane 0 or
of a lost lane 0. Cells of lane 0 come before those of lane 1. -/
def execHawserCell (t : Nat) (west : Bool) (lane : Fin 2) (start : Byte) (body : List Byte) (crc : Nat) :
    State → Host.Outcome State Fault Refusal :=
  atEdge t (occurs ringRuns fun s =>
    let cell := cellOf start body crc
    let l := linkOf s west
    if !(if lane.val = 0 then l.lane0 else l.lane1) then s
    else if cellOk cell then
      let take := lane.val == 0 || !l.lane0 || l.run0 != 0
      let s := modLinkOf west (fun l => if lane.val = 0 then { l with run0 := 0 } else { l with run1 := 0 }) s
      let s := modRing (fun r => { r with rx := r.rx.filter fun y => s.now ≤ y.2.1 + 400 }) s
      if take then forAll (cellRecords cell) (takeRecord west (cellSeq cell)) (rollWindow s) else s
    else
      let s := modLinkOf west (fun l =>
        if lane.val = 0 then { l with run0 := l.run0 + 1, err0 := sat32 (l.err0 + 1) }
        else { l with run1 := l.run1 + 1, err1 := sat32 (l.err1 + 1) }) s
      let l := linkOf s west
      if (if lane.val = 0 then l.run0 else l.run1) ≥ 4 then loseLane west lane s else s)

/-- HAWSER_INBOUND_EVENT (R297). -/
def execHawserInboundEvent (t : Nat) (x : Fin 64) : State → Host.Outcome State Fault Refusal :=
  atEdge t (occurs (fun s => s.dev.ring.rx.any fun y => y.1 == s.now && y.2.2.1 == x.val) fun s => assertLine s.now (1952 + x) s)

/-! ### Discovery, join, timing master, tracking -/

/-- The lowest position of a set; 0xFF of none. -/
def lowestPos (mask : Nat) : Nat := ((List.range 8).find? (bit mask)).getD 0xFF

/-- The one-way delay of a link whose marker takes `taps` of 39.0625 ps to come back, in ps (R299). -/
def linkDelay (taps : Nat) : Nat := taps * 625 / 32

/-- A trained link with neighbour `n` and the round trip `taps`; without a round trip it is not up. -/
def trained (n : Nat) (taps : Option Nat) (l : HwLink) : HwLink :=
  match taps with
  | some k => { l with lane0 := true, lane1 := true, neighbour := n, delayPs := linkDelay k, run0 := 0, run1 := 0 }
  | none => { l with lane0 := false, lane1 := false, run0 := 0, run1 := 0 }

/-- The ring of a module: its size and its own two links. -/
def setLinks (size : Nat) (east west : Option Nat) : State → State := modRing fun r =>
  let e := r.devpos
  let w := (r.devpos + size - 1) % size
  { r with
    size := size, east := trained ((r.devpos + 1) % size) east r.east, west := trained w west r.west, error := 0,
    lostLinks := (if east.isNone then [e] else []) ++ (if west.isNone then [w] else []) }

/-- What is wrong with the positions around a ring, eastward from the module's own (R291, R292): 1 a duplicate, 3 not contiguous, 2 out of
order; 0: nothing. (DEDUCED, log 21.) -/
def ringError (devpos : Nat) (l : List Nat) : Nat :=
  let m := l.length
  if l.eraseDups.length != m then 1
  else if l.any (m ≤ ·) then 3
  else if l != (List.range m).map (fun k => (devpos + k) % m) then 2 else 0

/-- 20 ms in ECLK. -/
def joinEdges : Nat := 8000000

/-- Have 20 ms passed since the lock of ECLK, with the module still discovering? -/
def joinLate (s : State) : Bool :=
  match s.dev.clock.numbering with
  | .watch lock _ _ => decide (lock + joinEdges ≤ s.now)
  | .started lock e base => decide (lock + joinEdges + base ≤ s.now + e)
  | _ => true

/-- The epoch edge of a member (R299, R300): by SYNC, shifted by the alignment, where both the timing master and the module see it, else by the
timing master's epoch marker. (DESIGN CHOICE, log 60.) -/
def memberEpoch (lock : Nat) (epoch : Option Nat) (sees : Bool) (f : RingFacts) (shift : Int) : Option Nat :=
  if !f.masterSync then some (f.marker.getD (lock + watchEdges + 1))
  else if sees then epoch.map fun e => ((e : Int) + shift).toNat
  else f.marker.orElse fun _ => epoch

/-- The module takes the time reference of a timing master (R299, R300): the offset goes in whole edges into its epoch edge and in taps into the
phase of its loop. -/
def followMaster (f : RingFacts) (s : State) : State :=
  let k := (f.offset + 32) / 64
  let s := modRing (fun r => { r with masterSync := some f.masterSync, epochShift := -k, loopTaps := r.loopTaps - (f.offset - 64 * k) }) s
  match s.dev.clock.numbering with
  | .watch lock edges epoch => modClock (fun c => { c with
      numbering := .watch lock edges (memberEpoch lock epoch (c.syncSource == 1) f (-k)), syncSource := b2n f.masterSync }) s
  | _ => s

/-- A ring is formed (R292, R293): the lowest position is the timing master; alignment follows. -/
def formRing (f : RingFacts) (s : State) : State :=
  let s := setLinks f.positions.length (some f.eastTrip) (some f.westTrip) s
  let m := f.positions.foldl min 7
  let s := modRing (fun r => { r with st := 2, master := m, members := 0 }) s
  if m = s.dev.ring.devpos then s else followMaster f s

/-- RING_DISCOVERY (R291 to R293, R299, R300): a ring forms before the epoch edge is set. -/
def execRingDiscovery (t : Nat) (d : Discovery) : State → Host.Outcome State Fault Refusal :=
  atEdge t (occurs (fun s => s.dev.ring.st == 1) fun s =>
    match d with
    | .alone => modRing (fun r => { r with st := 0, size := 1, master := 0xFF, members := 0, error := 0 }) s
    | .unformed => if joinLate s then modRing (fun r => { r with error := 4 }) s else s
    | .found f =>
      let e := ringError s.dev.ring.devpos f.positions
      if e != 0 then
        notice 0x000F 1 0 0 [e] (modRing (fun r => { r with st := 5, size := 1, master := 0xFF, members := 0, error := e }) s)
      else match s.dev.clock.numbering with
        | .watch _ _ _ => formRing f s
        | _ => s)

/-- The numbering of a module whose edge of the step takes the number `n` of a running timing master. -/
def joinedNumbering (now n : Nat) : Numbering → Numbering
  | .started lock e base => .started lock (e + now) (base + n)
  | .watch lock edges epoch => .watch lock edges epoch
  | _ => .plain

/-- A module joins a running ring (R303): the edge takes the number that it has on the timing master, and the master's `SYNC_SOURCE` is the
module's. -/
def joinRing (n master : Nat) (f : JoinFacts) (s : State) : State :=
  let s := setLinks f.size f.eastTrip f.westTrip s
  let s := modRing (fun r => { r with st := 2, master := master, members := f.members % 256, masterSync := some f.masterSync }) s
  let k := joinedNumbering s.now n s.dev.clock.numbering
  let s := if n = s.now then s else renumber s.now n s
  modClock (fun c => { c with numbering := k, syncSource := b2n f.masterSync }) s

/-- RING_JOIN (R303): of a module that is in no ring; while an engine is active the join waits. `n`: N of the timing master at the edge. -/
def execRingJoin (t n master : Nat) (f : JoinFacts) : State → Host.Outcome State Fault Refusal :=
  atEdge t (occurs (fun s => !ringRuns s && s.dev.clock.epochSet && decide (0 < f.size) && (List.range 64).all (engineRests s)) (joinRing n master f))

/-- ALIGN_TRACKING (R301, R302, R315): at an epoch edge; 2 taps are 78.125 ps. A module within the bound is aligned; one that is tracks its offset
by a tap. -/
def execAlignTracking (t : Nat) (f : AlignFacts) : State → Host.Outcome State Fault Refusal :=
  atEdge t (occurs (fun s => s.now % 400000 == 0 && ringRuns s) (modRing fun r =>
    let aligned := r.st != 2 || decide (f.offsetPs.natAbs ≤ 150)
    let step := r.st != 2 && decide (64 * f.offsetPs.natAbs > 5000)
    { r with
      alignPs := f.offsetPs,
      alignSteps := if step then sat32 (r.alignSteps + 1) else r.alignSteps,
      loopTaps := if step then r.loopTaps - f.offsetPs.sign else r.loopTaps,
      st := if !aligned then 2 else if r.lostLinks.isEmpty then 3 else 4,
      members := if aligned then setBit (f.members % 256) r.devpos else clearBit (f.members % 256) r.devpos }))

/-- NEW_TIMING_MASTER (R294): at the first epoch edge after the loss of the timing master, the lowest position that can still be reached. -/
def execNewTimingMaster (t reachable : Nat) : State → Host.Outcome State Fault Refusal :=
  atEdge t (occurs (fun s => s.now % 400000 == 0 && ringAligned s && !bit (setBit (reachable % 256) s.dev.ring.devpos) s.dev.ring.master)
    (modRing fun r =>
      let m := setBit (reachable % 256) r.devpos
      { r with members := m, master := lowestPos m, masterSync := if lowestPos m = r.devpos then none else r.masterSync }))

/-- HAWSER_LINK_REJOIN (R294): a link of the ring is up again; the lower of the two masters stays master. -/
def execHawserLinkRejoin (t : Nat) (link otherMaster members : Nat) : State → Host.Outcome State Fault Refusal :=
  atEdge t (occurs (fun s => ringAligned s && s.dev.ring.lostLinks.contains link) fun s =>
    let up := fun (l : HwLink) => { l with lane0 := true, lane1 := true, run0 := 0, run1 := 0 }
    let s := forAll [false, true] (fun w s => if ownLink s w = link then modLinkOf w up s else s) s
    modRing (fun r =>
      let lost := r.lostLinks.filter (· != link)
      { r with
        master := min r.master otherMaster, members := setBit (members % 256) r.devpos, lostLinks := lost,
        st := if lost.isEmpty then 3 else 4 }) s)

end Sys2Proof.Machine
end

