-- ==== Sys2Proof/Machine/Scratch.lean ====
section
/-! DEFINITION. The scratchpad banks and the Berth port: owners and refusals, collisions, poisoned words, retention, march runs, the Berth
control words and handovers (chapter 15). -/

namespace Sys2Proof.Machine

/-! ### Banks -/

/-- Owner of bank `b` (R403 to R405). -/
def bankOwner (s : State) (b : Nat) : Nat := s.act (0x3100 + b) 1

/-- Sets the current owner of a bank: the active copy, and the staged copy unless it is marked as changed (R405). -/
def setOwner (b v : Nat) (s : State) : State :=
  modDict (fun d => { d with
    active := putVal (0x3100 + b) 1 v d.active,
    staged := if d.changed.contains (key (0x3100 + b) 1) then d.staged else putVal (0x3100 + b) 1 v d.staged }) s

/-- A non-owner access (R406): counted, and a notice at most once per bank and millisecond. -/
def ownerFault (b master word : Nat) (write : Bool) (s : State) : State :=
  let send := match (s.bank b).faultNotice with | some n => decide (n + 400000 ≤ s.now) | none => true
  let n := s.now
  let s := modBank b (fun k => { k with
    ownerFaults := sat32 (k.ownerFaults + 1), lastMaster := master, faultNotice := if send then some n else k.faultNotice }) s
  if send then notice 0x0030 1 0 b [master, word, b2n write] s else s

/-- An access to bank `b` (R411): one that finds it in retention, or waking, waits and is counted. -/
def touchBank (b : Nat) (s : State) : State :=
  let n := s.now
  modBank b (fun k =>
    if k.retention then { k with lastAccess := n, retention := false, waking := true, wakeStalls := sat32 (k.wakeStalls + 1) }
    else if k.waking then { k with lastAccess := n, wakeStalls := sat32 (k.wakeStalls + 1) }
    else { k with lastAccess := n }) s

/-- Is the row that holds `word` of bank `b` borrowed (R416)? -/
def borrowed (s : State) (b word : Nat) : Bool :=
  s.dev.scratch.march.any fun r => !r.destructive && r.bank == b && r.window.isSome && r.cur == word / 64

/-- Records a row for repair at the next start. -/
def recordRow (b row : Nat) (s : State) : State :=
  modBank b (fun k => { k with repair := true })
    (modScratch (fun x => { x with repairs := if x.repairs.contains (b, row) then x.repairs else x.repairs ++ [(b, row)] }) s)

/-- An uncorrectable error at a read by `master` (R402). -/
def poisonedWord (b word master : Nat) (s : State) : State :=
  let s := recordRow b (word / 64) s
  let s := modScratch (fun x => { x with uncorrectable := sat32 (x.uncorrectable + 1) }) s
  let l := locate s { bankLoc b with word := word, depth := 6, repair := true }
  reportFault 0 0 b 0x0035 l word master (notice 0x0035 1 0 b [word, master] s)

/-- Counts a collision for a master (R408). -/
def countConflict (master : Nat) : State → State :=
  modScratch fun x => { x with conflicts := tset master (sat32 (tget 0 master x.conflicts + 1)) x.conflicts }

/-- The bank that holds the role of bank `b` (R413). -/
def roleBank (s : State) (b : Nat) : Nat := (([124, 125, 126, 127] : List Nat).find? fun x => (s.bank x).replaces == b).getD b

/-- Bank of the pilot area of engine `e` (R90). -/
def pilotBank (s : State) (e : Nat) : Nat := roleBank s (64 + e / 2)

/-! ### Port A (R403, R407 to R410) -/

/-- May engine `e` read word `w` of bank `b` under a grant: the ring and the index word of a LIVE segment (R142), or its own pilot area (R90)? -/
def readGrant (s : State) (e b w : Nat) : Bool :=
  (pilotBank s e == b && w / 32768 == e % 2 && bankOwner s b == 0x40) ||
  s.dev.store.segs.any fun p => p.2.kind == 6 && segBank p.2 == b && liveGrant s e p.1 &&
    decide ((w + 65536 - bits p.2.addr 31 16 % 65536) % 65536 ≤ p.2.items)

/-- May the access be made (R403)? -/
def mayAccess (s : State) (b : Nat) (x : PortA) : Bool :=
  x.master == bankOwner s b || (x.op == .read && x.master < 64 && readGrant s x.master b x.word) ||
  (x.master == 0x43 && s.dev.scratch.march.any fun r => r.bank == b)

/-- The priority class of an access (R409); none: no master that issues it. -/
def portClass (s : State) (x : PortA) : Option Nat :=
  let atomic := match x.op with | .read => false | .write _ => false | _ => true
  if x.master = 0x43 then some (if x.march then 1 else 6)
  else if x.master < 64 then (if atomic then none else if (s.core x.master).src.panic then some 2 else some 3)
  else if x.master = 0x40 then some 4
  else if x.master = 0x41 then some 5 else none

/-- The access that port A serves at an edge: the lowest class, then the lowest master code, then the first (R409). -/
def portServed (s : State) (l : List PortA) : Option PortA :=
  (l.foldl (fun (m : Option (Nat × PortA)) x => match portClass s x, m with
    | none, m => m
    | some c, none => some (c, x)
    | some c, some (d, y) => if c < d || (c == d && x.master < y.master) then some (c, x) else some (d, y)) none).map Prod.snd

/-- The words that an access touches: a 64-bit operation an even word and the word after it (R410). -/
def portWords (x : PortA) : List Nat :=
  match x.op with
  | .add64 _ => [x.word / 2 * 2, x.word / 2 * 2 + 1]
  | .swap64 _ => [x.word / 2 * 2, x.word / 2 * 2 + 1]
  | _ => [x.word]

/-- An access that counts as a write in a collision (R407). -/
def portWrites (x : PortA) : Bool := x.op != .read

/-- Word `w` of bank `b` and the `n` bytes from it up take a value. -/
def putWord (b w n v : Nat) : State → State := modScratch fun x => { x with content := mputs 0 (b * 262144 + 4 * w) (leBytes n v) x.content }

/-- An atomic operation of `n` bytes at word `w`: the old value returns to the master, and `f` of it is stored (R410). -/
def atomicOp (b w n master : Nat) (f : Nat → Nat) (s : State) : State :=
  let old := mval (b * 262144 + 4 * w) n s.dev.scratch.content
  modScratch (fun x => { x with atomic := some (master, old) }) (putWord b w n (f old % 2 ^ (8 * n)) s)

/-- An access is carried out; an ADD wraps (R410). -/
def portEffect (b : Nat) (x : PortA) (s : State) : State :=
  let w := x.word
  match x.op with
  | .read => s
  | .write v => putWord b w 4 v s
  | .add32 v => atomicOp b w 4 x.master (· + v) s
  | .swap32 v => atomicOp b w 4 x.master (fun _ => v) s
  | .add64 v => atomicOp b (w / 2 * 2) 8 x.master (· + v) s
  | .swap64 v => atomicOp b (w / 2 * 2) 8 x.master (fun _ => v) s

/-- Port A of bank `b` serves one of the accesses that wait. One to a borrowed window waits on and is counted (R417); one that its master may not
make is refused at the bank (R406). The second component is the access that was carried out. -/
def servePort (b : Nat) (l : List PortA) (s : State) : State × Option PortA :=
  match portServed s l with
  | none => (s, none)
  | some x =>
    if x.master != 0x43 && (portWords x).any (borrowed s b) then
      (modBank b (fun k => { k with borrowStalls := sat32 (k.borrowStalls + 1) }) s, none)
    else if mayAccess s b x then (portEffect b x (touchBank b s), some x)
    else (ownerFault b x.master x.word (portWrites x) s, none)

/-- Does the access that port A has carried out meet a Berth access to word `w`; and does it count as a write? -/
def portMeets (x : Option PortA) (w : Nat) : Option (Nat × Bool) :=
  x.bind fun x => if (portWords x).contains w then some (x.master, portWrites x) else none

/-! ### The Berth port (R418 to R425) -/

/-- The Berth port is active (R424). -/
def berthActive (s : State) : Bool := s.dev.power.phase == .ready

/-- `BERTH_SLOT` word of slot `k`. -/
def berthSlot (s : State) (k : Nat) : Nat := s.act 0x3050 (k + 1)

/-- Slot 7 reaches the control words. -/
def controlSlot (s : State) (k : Nat) : Bool := k == 7 && bit (berthSlot s k) 10

/-- The last access was not performed correctly: BBUSYn, and what BD presents. -/
def berthBusy (bd : Word) : State → State := modBerth fun x => { x with busy := true, busies := sat32 (x.busies + 1), bd := bd }

/-- An access performed. -/
def berthDone (bd : Word) : State → State :=
  modBerth fun x => { x with busy := false, accesses := (x.accesses + 1) % 2 ^ 64, bd := bd }

/-- A refused access (R406, R419): WINDOW_FAULT, zero on BD, BBUSYn. -/
def berthRefuse (s : State) : State := berthBusy 0 (modBerth (fun x => { x with status := setBit x.status 0 }) s)

/-- Undefined data (R407, R417): a free value, drawn anew each time. (DEDUCED, log 37.) -/
def undefinedRead (s : State) : State := berthBusy (Config.undefinedWord s.undefined) { s with undefined := s.undefined + 1 }

/-- BIRQn is low (R423, R424). -/
def birqnLow (s : State) : Bool := berthActive s && s.dev.scratch.berth.status &&& s.act 0x3050 9 != 0

/-- BBUSYn is low (R424). -/
def bbusynLow (s : State) : Bool := !berthActive s || s.dev.scratch.berth.busy

/-- Value of a control word (Table 15-9). -/
def controlWord (s : State) (w : Nat) : Nat :=
  let x := s.dev.scratch.berth
  match w with
  | 0 => x.status
  | 1 => x.doorbell
  | 2 => b2n x.handover.isSome
  | 4 => s.now % 2 ^ 32
  | 5 => x.latchHi
  | _ => 0

/-- A read of a control word; word 4 latches the high half of N. -/
def controlRead (w : Nat) (s : State) : State :=
  let hi := s.now / 2 ^ 32 % 2 ^ 32
  let s := berthDone (BitVec.ofNat 32 (controlWord s w)) s
  if w = 4 then modBerth (fun x => { x with latchHi := hi }) s else s

/-- A handover word (R405): refused as a non-owner access unless the Berth port owns the bank; one to a reserved owner code does nothing.
(DEDUCED, log 37.) -/
def handoverWrite (v : Nat) (s : State) : State :=
  let b := v % 128
  if bankOwner s b != 0x42 then berthRefuse (ownerFault b 0x42 2 true s)
  else berthDone 0 (if decide (bits v 15 8 ≤ 0x43) then modBerth (fun x => { x with handover := some (b, bits v 15 8) }) s else s)

/-- A write of a control word (Table 15-9). -/
def controlWrite (w v : Nat) (s : State) : State :=
  match w with
  | 0 => berthDone 0 (modBerth (fun x => { x with status := clearBits x.status v }) s)
  | 2 => handoverWrite v s
  | 3 => notice 0x0034 3 0 0 [v] (berthDone 0 s)
  | _ => berthDone 0 s

/-- A write through slot 7 to a control word, if the slot is enabled, has CONTROL and permits writes (R419). (DEDUCED, log 37.) -/
def slot7Write (w v : Nat) (s : State) : State :=
  let k := berthSlot s 7
  if bit k 8 && bit k 9 then (if bit k 10 then controlWrite w v s else s) else berthRefuse s

/-- A read of word `w` of bank `b` that the Berth port owns. `met`: the port A access to the word at this edge, its master and whether it writes;
`flipped`: bit errors that the read finds. -/
def bankRead (b w : Nat) (met : Option (Nat × Bool)) (flipped : List Nat) (s : State) : State :=
  let s := touchBank b s
  match met with
  | some (m, true) => undefinedRead (countConflict m (countConflict 0x42 s))
  | _ =>
    let v := bankWord s b w
    match flipped with
    | [] => berthDone (BitVec.ofNat 32 v) s
    | [_] => berthDone (BitVec.ofNat 32 v) (countCorrected (modScratch (fun x => { x with corrected := sat32 (x.corrected + 1) }) s))
    | l => berthBusy (BitVec.ofNat 32 ((l.filter (· < 32)).foldl (fun a k => a ^^^ 2 ^ k) v)) (poisonedWord b w 0x42 s)

/-- BERTH_READ (R406, R407, R409, R410, R417, R419, R420). `portA`: the accesses that wait at port A of the slot's bank. -/
def execBerthRead (t : Nat) (slot : Fin 8) (word : Nat) (portA : List PortA) (flipped : List Nat) :
    State → Host.Outcome State Fault Refusal :=
  atEdge t (occurs berthActive fun s =>
    let k := berthSlot s slot
    let w := word % 65536
    let b := k % 128
    let (s, x) := servePort b portA s
    if !bit k 8 then berthRefuse s
    else if controlSlot s slot then controlRead w s
    else if bankOwner s b != 0x42 then berthRefuse (ownerFault b 0x42 w false s)
    else if borrowed s b w then undefinedRead s
    else bankRead b w (portMeets x w) flipped s)

/-- BERTH_WRITE (R407, R409, R410, R417, R419, R420): a collision with a port A write discards it; one with a port A read is performed.
The write completes 3 ECLK after the sampling edge of BWEn. -/
def execBerthWrite (t : Nat) (slot : Fin 8) (word : Nat) (value : Word) (portA : List PortA) (sampled : Nat) :
    State → Host.Outcome State Fault Refusal :=
  atEdge t (occurs (fun s => berthActive s && s.now == sampled + 3) fun s =>
    let k := berthSlot s slot
    let w := word % 65536
    let b := k % 128
    let (s, x) := servePort b portA s
    if !bit k 8 || !bit k 9 then berthRefuse s
    else if controlSlot s slot then controlWrite w value.toNat s
    else if bankOwner s b != 0x42 then berthRefuse (ownerFault b 0x42 w true s)
    else if borrowed s b w then berthBusy 0 s
    else
      let s := touchBank b s
      match portMeets x w with
      | some (m, true) => berthBusy 0 (countConflict m (countConflict 0x42 s))
      | some (m, false) =>
        modBerth (fun x => { x with accesses := (x.accesses + 1) % 2 ^ 64 })
          (berthBusy 0 (countConflict m (countConflict 0x42 (putWord b w 4 value.toNat s))))
      | none => berthDone 0 (putWord b w 4 value.toNat s))

/-- BERTH_STATUS_CLEAR (Table 15-9, word 0). -/
def execBerthStatusClear (t : Nat) (v : Word) : State → Host.Outcome State Fault Refusal :=
  atEdge t (occurs berthActive (slot7Write 0 v.toNat))

/-- BERTH_HANDOVER (R405, Table 15-9, word 2). -/
def execBerthHandover (t : Nat) (v : Word) : State → Host.Outcome State Fault Refusal :=
  atEdge t (occurs berthActive (slot7Write 2 v.toNat))

/-- SEND_DOORBELL_NOTICE (Table 15-9, word 3). -/
def execSendDoorbellNotice (t : Nat) (v : Word) : State → Host.Outcome State Fault Refusal :=
  atEdge t (occurs berthActive (slot7Write 3 v.toNat))

/-- BERTH_TIME_READ (Table 15-9, word 4). -/
def execBerthTimeRead (t : Nat) : State → Host.Outcome State Fault Refusal :=
  atEdge t (occurs berthActive fun s =>
    if !bit (berthSlot s 7) 8 then berthRefuse s else if controlSlot s 7 then controlRead 4 s else s)

/-- HANDOVER_TAKES_EFFECT (R405): at the first edge at which `COMMIT_STATE` is 0. -/
def execHandoverTakesEffect (t : Nat) : State → Host.Outcome State Fault Refusal :=
  atEdge t (occurs (fun s => s.dev.dict.commit.st == 0) fun s => match s.dev.scratch.berth.handover with
    | some (b, o) => setOwner b o (modBerth (fun x => { x with handover := none }) s)
    | none => s)

/-- The host rings the external controller. -/
def ringDoorbell (v : Nat) : State → State := modBerth fun x => { x with status := setBit x.status 2, doorbell := v % 2 ^ 32 }

/-- BERTH_DOORBELL (R422). -/
def execBerthDoorbell (t : Nat) (r : Req) (v : Nat) : State → Host.Outcome State Fault Refusal :=
  atEdge t (command r 0x3050 (fun _ => []) (ringDoorbell v))

/-! ### BANK_CONTENT (R428) -/

/-- Banks that `len` bytes at `offset` touch. -/
def contentBanks (offset len : Nat) : List Nat :=
  if len = 0 then [offset / 262144] else (List.range ((offset + len - 1) / 262144 - offset / 262144 + 1)).map (offset / 262144 + ·)

/-- The refusals of a `BANK_CONTENT` access within the size of the object. -/
def bankContentCodes (offset len : Nat) (s : State) : List Nat :=
  (contentBanks offset len).map fun b => failIf (bankOwner s b != 0x41) (0x05400000 + b)

/-- Bytes written to the banks of link DMA; an access to a borrowed window waits and is counted (R417). -/
def writeBanks (offset : Nat) (d : List Byte) (s : State) : State :=
  let s := forAll (contentBanks offset d.length) touchBank s
  let s := forAll (contentBanks offset d.length) (fun b s =>
    if (List.range ((d.length + 3) / 4)).any (fun i => (offset / 4 + i) / 65536 == b && borrowed s b ((offset / 4 + i) % 65536))
    then modBank b (fun k => { k with borrowStalls := sat32 (k.borrowStalls + 1) }) s else s) s
  modScratch (fun x => { x with content := mputs 0 offset d x.content }) s

/-! ### Retention (R411) -/

/-- BANK_RETENTION (R411). -/
def execBankRetention (t : Nat) (b : Fin 128) : State → Host.Outcome State Fault Refusal :=
  atEdge t (occurs (fun s => let k := s.bank b
    s.act (0x3100 + b) 2 == 1 && !k.retention && !k.waking && k.lastAccess + 40000 ≤ s.now &&
    !s.dev.scratch.march.any (fun r => r.bank == b.val)) (modBank b fun k => { k with retention := true }))

/-- BANK_WAKE (R411). -/
def execBankWake (t : Nat) (b : Fin 128) : State → Host.Outcome State Fault Refusal :=
  atEdge t (occurs (fun s => (s.bank b).waking) (modBank b fun k => { k with waking := false }))

/-! ### March runs (R414 to R417) -/

/-- Does bank `b` hold the pilot area of an enabled target, or the ring of a reachable LIVE segment, under copies `t`, `m`? -/
def holdsLive (s : State) (t : Tbl Nat) (m : Mem) (check : Bool) (b : Nat) : Bool :=
  (List.range 64).any fun e =>
    (pilotBank s e == b && (List.range 16).any fun k => targetEn (targetWord t e k)) ||
    (configuredIn s t check e && (reachableSteps t m e).any fun i =>
      let g := s.seg (entryAt m (partBase t e + i)).segment
      g.kind == 6 && segBank g == b)

/-- The active configuration, or a checked change, makes bank `b` hold either. -/
def preservingBarred (s : State) (b : Nat) : Bool :=
  let d := s.dev.dict
  holdsLive s d.active d.stepsActive false b || (d.commit.st == 2 && holdsLive s d.staged d.stepsStaged true b)

/-- Backgrounds selected in `MARCH_BACKGROUNDS`. -/
def marchBackgrounds (s : State) : List Nat := ([0, 1, 2, 3] : List Nat).filter (bit (s.rwv 0x3040 3))

/-- A reachable step names a STREAM or LIVE segment in bank `b`. -/
def sourceStepIn (s : State) (b : Nat) : Bool :=
  let d := s.dev.dict
  (List.range 64).any fun e => configuredIn s d.active false e && (reachableSteps d.active d.stepsActive e).any fun i =>
    let g := s.seg (entryAt d.stepsActive (partBase d.active e + i)).segment
    isSource g.kind && segBank g == b

/-- The refusals of `MARCH_REQ` (Table 15-11). -/
def marchCodes (v : Nat) (s : State) : List Nat :=
  let b := v % 128
  [failIf (s.dev.scratch.march.isSome) (0x06700000 + b), failIf (bit v 7 || decide (v / 1024 > 0)) (0x06710000 + b)] ++
  (if bit v 8 then
    [failIf (s.dev.dict.commit.st != 0) 0x06030000,
     failIf (!hostMay s b || (s.bank b).retired || sourceStepIn s b || (mappedBanks s.dev.dict.active).any (·.2 == b)) (0x06710000 + b)]
   else [failIf (bit v 9 || (s.bank b).retired || preservingBarred s b) (0x06720000 + b)])

/-- An accepted run: it wakes its bank; a destructive one takes it (R411, R415). -/
def startRun (v : Nat) (s : State) : State :=
  let b := v % 128
  let o := bankOwner s b
  let n := s.now
  let bg := (marchBackgrounds s).head?.getD 0
  let s := modBank b (fun k => { k with retention := false, waking := false, lastAccess := n }) s
  let s := modScratch (fun x => { x with march := some {
    bank := b, destructive := bit v 8, algorithm := b2n (bit v 9), background := bg, row := 0, cur := 0, window := none, saved := [],
    releasedAt := n, again := [], fail := none, prevOwner := o } }) s
  if bit v 8 then setOwner b 0x43 s else s

/-- MARCH_PRESERVING (R416, R417). -/
def execMarchPreserving (t : Nat) (r : Req) (v : Nat) : State → Host.Outcome State Fault Refusal :=
  atEdge t (command r 0x3040 (marchCodes (clearBit v 8)) (startRun (clearBit v 8)))

/-- MARCH_DESTRUCTIVE (R415). -/
def execMarchDestructive (t : Nat) (r : Req) (v : Nat) : State → Host.Outcome State Fault Refusal :=
  atEdge t (command r 0x3040 (marchCodes (setBit v 8)) (startRun (setBit v 8)))

def modMarch (f : March → March) : State → State := modScratch fun x => { x with march := x.march.map f }

/-- The row that a preserving run borrows next: the rows in order, then the abandoned ones. -/
def nextRow (r : March) : Option Nat := if r.row < 1024 then some r.row else r.again.head?

/-- May the run borrow now: its first window at once, every other `MARCH_GAP` after the release? (DEDUCED, log 38.) -/
def mayBorrow (s : State) (r : March) : Bool :=
  !r.destructive && r.window.isNone &&
  ((r.row == 0 && some r.background == (marchBackgrounds s).head?) || r.releasedAt + s.rwv 0x3040 4 ≤ s.now)

/-- MARCH_WINDOW_BORROW (R416): the row is saved at the borrowing edge W. -/
def execMarchWindowBorrow (t : Nat) : State → Host.Outcome State Fault Refusal :=
  atEdge t fun s => match s.dev.scratch.march with
    | some r =>
      match nextRow r with
      | some row =>
        if mayBorrow s r then
          let n := s.now
          let save := mputs 0 0 (mgets 0 (r.bank * 262144 + 256 * row) 256 s.dev.scratch.content) []
          modMarch (fun r => { r with
            window := some n, cur := row, saved := save, row := if r.row < 1024 then r.row + 1 else r.row,
            again := if r.row < 1024 then r.again else r.again.drop 1 }) s
        else s
      | none => s
    | none => s

/-- After the last row and the retests a run goes on with its next background. -/
def nextBackground (bgs : List Nat) (r : March) : March :=
  if r.row = 1024 && r.again.isEmpty then
    match bgs.find? (r.background < ·) with
    | some b => { r with background := b, row := 0 }
    | none => r
  else r

/-- The failing cell `f` of the borrowed row, as in `MARCH_FAIL_BIT`: reported, its row recorded for repair (R416). -/
def cellFailed (r : March) (f : Nat) (s : State) : State :=
  let s := recordRow r.bank r.cur s
  let l := locate s { bankLoc r.bank with word := f % 65536, bit_ := bits f 21 16, depth := 7, repair := true }
  let s := reportFault 0 0 r.bank 0x0032 l r.cur 0 (notice 0x0032 1 0 r.bank [r.cur] s)
  modMarch (fun r => { r with fail := if r.fail.isSome then r.fail else some (r.cur, f) }) s

/-- The borrowed row is restored from the save buffer. (DEDUCED, log 38.) -/
def restoreRow (r : March) : State → State :=
  modScratch fun x => { x with content := mputs 0 (r.bank * 262144 + 256 * r.cur) (mgets 0 0 256 r.saved) x.content }

/-- The edge at which the window borrowed at edge `w` is released: two edges after the last of its 640 test operations, which wait for the edges
that port A gives to accesses of a higher class, `busy` of them; at the latest 1,024 edges after `w`. -/
def releaseEdge (w busy : Nat) : Nat := w + min (642 + busy) 1024

/-- Has the test of the window ended by W + 1,022? -/
def windowTested (busy : Nat) : Bool := 640 + busy ≤ 1022

/-- MARCH_WINDOW_RELEASE (R409, R416). -/
def execMarchWindowRelease (t : Nat) (busy : Nat) (failBit : Option Nat) : State → Host.Outcome State Fault Refusal :=
  atEdge t fun s => match s.dev.scratch.march with
    | some r =>
      if !r.window.any fun w => decide (releaseEdge w busy ≤ s.now) then s
      else
        let n := s.now
        let bgs := marchBackgrounds s
        let ended := windowTested busy
        let s := restoreRow r s
        let s := if ended then s else modScratch (fun x => { x with abandoned := sat32 (x.abandoned + 1) }) s
        let s := match failBit with | some f => cellFailed r f s | none => s
        modMarch (fun r => nextBackground bgs { r with
          window := none, saved := [], releasedAt := n, again := if ended then r.again else r.again ++ [r.cur] }) s
    | none => s

/-- `MARCH_RESULT`: the bank, the bit `flag`, FAIL and the first failing row. -/
def marchResult (r : March) (flag : Nat) : Nat :=
  r.bank + 2 ^ flag + (match r.fail with | some (row, _) => 2 ^ 9 + row * 65536 | none => 0)

/-- The run ends; a bank taken returns to its owner (R415). (DEDUCED, log 38.) -/
def endRun (r : March) (flag : Nat) (s : State) : State :=
  let s := modScratch (fun x => { x with
    march := none, marchResult := marchResult r flag, marchFailBit := match r.fail with | some (_, f) => f | none => 0 }) s
  if r.destructive then setOwner r.bank r.prevOwner s else s

/-- ECLK that one background of a destructive run takes (R415). -/
def destructiveTime (algorithm : Nat) : Nat := if algorithm = 0 then 657920 else 262144 + 8000000

/-- Has every window of the run, or its time, passed? -/
def runOver (s : State) (r : March) : Bool :=
  if r.destructive then decide (r.releasedAt + (marchBackgrounds s).length * destructiveTime r.algorithm ≤ s.now)
  else r.row == 1024 && r.again.isEmpty && r.window.isNone

/-- MARCH_DONE (R415, R416). `failBit`: the first failing cell of a destructive run; every word of its bank is zero. -/
def execMarchDone (t : Nat) (failBit : Option Nat) : State → Host.Outcome State Fault Refusal :=
  atEdge t fun s => match s.dev.scratch.march with
    | some r =>
      if !runOver s r then s
      else
        let r := if r.destructive then { r with fail := failBit.map fun f => (f % 65536 / 64, f % 2 ^ 22) } else r
        let s := if r.destructive then modScratch (fun x => { x with
            content := x.content.filter fun p => p.1 / 262144 != r.bank }) s else s
        let s := endRun r 8 (modScratch (fun x => { x with runs := sat32 (x.runs + 1) }) s)
        notice 0x0031 3 0 r.bank [s.dev.scratch.marchResult, s.dev.scratch.marchFailBit] s
    | none => s

/-- A checked change would make the bank of a preserving run hold a pilot area or a LIVE ring: the run ends (R417). (DEDUCED, log 38.) -/
def endBarredRun (s : State) : State :=
  match s.dev.scratch.march with
  | some r => if !r.destructive && preservingBarred s r.bank then endRun r 10 (if r.window.isSome then restoreRow r s else s) else s
  | none => s

end Sys2Proof.Machine
end

