-- ==== Sys2Proof/Machine/Sense.lean ====
section
/-! DEFINITION. Sense inputs: comparators, arming, the monitor converter and the threshold readback check (chapter 8). -/

namespace Sys2Proof.Machine

/-! ### Objects -/

/-- `CMP_ENABLE` of comparator `j`. -/
def cmpEnabled (s : State) (j : Nat) : Bool := s.act (cmpIdx j) 1 == 1

/-- The code that the threshold DAC of comparator `j` holds: TC, or 8,192 while it is disabled (R231). -/
def thresholdCode (s : State) (j : Nat) : Nat := if cmpEnabled s j then s.act (cmpIdx j) 2 else 8192

/-- Threshold of comparator `j` in monitor steps (R227): 16 × (TC − 8,192). -/
def cmpTh (s : State) (j : Nat) : Int := 16 * ((thresholdCode s j : Int) - 8192)

/-- Hysteresis of comparator `j` in monitor steps (Table 8-1): 10 mV are 128 of them, at either gain. -/
def cmpHy (s : State) (j : Nat) : Int := 128 * (s.act (cmpIdx j) 3 : Int)

/-- Is input `i` of channel `c` arming (R242)? -/
def inputArming (x : Sense) (i : Nat) : Bool := x.arms.any (·.1 == i) || x.edges.any (·.1 == i)

/-! ### Comparators -/

/-- An assertion that begins and ends between two ECLK edges: the trip latches see it, through the unclocked path, and the comparator latch and
the event line do not (R185, R276). -/
def shortAssert (at_ : Option Nat) (j : Nat) (s : State) : State :=
  if !(s.cmp j).asserted && cmpSeen (modCmp j (fun c => { c with asserted := true }) s) j then tripLines at_ j s else s

/-- COMPARATOR_TRANSITION (R229, R193, R235 to R237, R244, R276): the analog comparison of an armed comparator changes; a transition to "not
asserted" of one that is not asserted ends a pulse that lay between two edges. -/
def execComparatorTransition (t : Nat) (j : Fin 256) (asserted : Bool) (tripAt : Nat) : State → Host.Outcome State Fault Refusal :=
  atEdge t fun s =>
    let c := s.cmp j
    if !c.armed then s
    else
      let s := modCmp j (fun c => { c with under := asserted }) s
      if c.arming || c.forced then s
      else setOutput (some (max tripAt s.now)) j asserted (if asserted then s else shortAssert (some (max tripAt s.now)) j s)

/-- The widened band of comparator `j` (R233): the high comparators of an input are the even ones (R229). -/
def inBand (s : State) (j : Nat) (m : Int) : Bool :=
  let g := 16 * (s.act (chIdx (j / 4) (0x10 + j % 4 / 2)) 2 : Int)
  let th := cmpTh s j
  let hy := cmpHy s j
  if j % 2 = 0 then decide (th - hy - g ≤ m) && decide (m ≤ th + g) else decide (th - g ≤ m) && decide (m ≤ th + hy + g)

/-- The initial state that comparator `j` takes at the arm edge (R234), with arming result `m`. -/
def armComparator (j : Nat) (m : Int) (s : State) : State :=
  let c := s.cmp j
  if !c.arming || s.now < c.armFrom + 604 then s
  else
    let b := inBand s j m
    let v := b && s.act (cmpIdx j) 4 == 1
    let s := modCmp j (fun c => { c with
      arming := false, armed := true, inBand := b, under := v, thChanged := if c.armed then some s.now else c.thChanged }) s
    setOutput none j (v || c.forced) s

/-- ARM_EDGE (R234): at S + 204 the comparators of input `i` take their initial states. -/
def execArmEdge (t : Nat) (c : Fin 64) (i : Fin 2) : State → Host.Outcome State Fault Refusal :=
  atEdge t (occurs (fun s => (s.sense c).edges.contains (i.val, s.now)) fun s =>
    let x := s.sense c
    let m := if i.val = 0 then x.armCodeA else x.armCodeB
    let s := modSense c (fun x => { x with edges := x.edges.filter (· != (i.val, s.now)) }) s
    armComparator (4 * c + 2 * i + 1) m (armComparator (4 * c + 2 * i) m s))

/-- What a commit does to comparator `k` of channel `c`, `t0` being the active copies before it and `ch` its change marks (R230 to
R232). (DEDUCED, log 16.) -/
def commitCmp (t0 : Tbl Nat) (ch : List Nat) (c k : Nat) (s : State) : State :=
  let j := 4 * c + k
  let en0 := copyVal t0 (cmpIdx j) 1 == 1
  let gain := ch.contains (key (chIdx c (0x10 + k / 2)) 1)
  let th := ch.contains (key (cmpIdx j) 2)
  if cmpEnabled s j then
    let arm := !en0 || gain
    if arm || th then
      modCmp j (fun x => { x with
        arming := x.arming || arm, armFrom := if arm then s.now else x.armFrom, thChanged := if th || !en0 then some s.now else x.thChanged }) s
    else s
  else if en0 then
    modCmp j (fun x => { x with armed := false, arming := false, under := false }) (setOutput none j false s)
  else s

/-- The arming sequences of channel `c` that start at the edge of the step (R232): S is the first slot edge at or after ECLK +400, and 200
later for SB where both inputs arm. -/
def startArming (c : Nat) (s : State) : State :=
  let arms := fun (i : Nat) => ([2 * i, 2 * i + 1] : List Nat).any fun k => (s.cmp (4 * c + k)).arming && (s.cmp (4 * c + k)).armFrom == s.now
  let w := alignUp 200 (s.now + 400)
  if arms 0 && arms 1 then modSense c (fun x => { x with arms := x.arms ++ [(0, w), (1, w + 200)] }) s
  else if arms 0 then modSense c (fun x => { x with arms := x.arms ++ [(0, w)] }) s
  else if arms 1 then modSense c (fun x => { x with arms := x.arms ++ [(1, w)] }) s
  else s

/-- What a commit does to the sensing of channel `c` (R230 to R232). -/
def commitSense (t0 : Tbl Nat) (ch : List Nat) (c : Nat) (s : State) : State :=
  startArming c (forAll [0, 1, 2, 3] (commitCmp t0 ch c) s)

/-- Every enabled comparator of channel `c` arms again (R478). -/
def rearm (c : Nat) (s : State) : State :=
  startArming c (forAll [0, 1, 2, 3] (fun k s =>
    if cmpEnabled s (4 * c + k) then
      let n := s.now
      modCmp (4 * c + k) (fun x => { x with arming := true, armFrom := n }) s
    else s) s)

/-! ### Monitor converter (R238 to R241) -/

/-- A comparator fails its readback (R243, R244). `m`: the result, `k`: the comparator of channel `c`. -/
def checkFailed (c k : Nat) (m : Int) (s : State) : State :=
  let j := 4 * c + k
  let force := bit (s.act (chIdx c 0x19) 3) k
  let s := modSense c (fun x => { x with checkFails := sat32 (x.checkFails + 1) }) s
  let s := modCmp j (fun x => { x with thFail := true, forced := x.forced || force }) s
  let s := assertLine (s.now + 3) (2024 + c / 8) s
  let s := notice 0x0009 0 2 c [j, s.act (cmpIdx j) 2, ofInt 64 m] s
  if force then setOutput none j true s else s

/-- Location of quay-wide part `macro_` of quay `q` (Table 17-7), in the control hierarchy (Table 1-6, R31). -/
def quayLoc (q macro_ : Nat) : Loc :=
  { die := 1 + q, tile := 8, macro_ := macro_, bank := 0, word := 0, bit_ := 0, depth := 4, data := false, physical := false,
    repair := false, retired := false }

/-- A quay die fault (R458): the channels of `mask` of quay `q` are lost. -/
def quayFault (q mask macro_ : Nat) (s : State) : State :=
  forAll ((List.range 8).filter (bit mask)) (fun k s => loseChannel (8 * q + k) (quayLoc q macro_) s) s

/-- Readings of the quay reference in a row that lie more than 1 % from 81,920 (R458). -/
def referenceRead (c : Nat) (m : Int) (s : State) : State :=
  let bad := decide (100 * (m - 81920).natAbs > 81920)
  let n := if bad then (s.sense c).refBad + 1 else 0
  let s := modSense c (fun x => { x with refBad := n }) s
  if n = 3 then quayFault (c / 8) 0xFF 16 s else s

/-- The threshold DACs `ks` of channel `c` are to be read back, in rising order (R242). -/
def queueCheck (c : Nat) (ks : List Nat) : State → State :=
  modSense c fun x => { x with checks := ([0, 1, 2, 3] : List Nat).filter fun k => ks.contains k || x.checks.contains k }

/-- The conversion in progress completes (R241 to R243, Table 8-3). A threshold that changed in the slot of its own readback is not checked there
(Table 8-8) but in the next free slot. -/
def completeConv (c : Nat) (s : State) : State :=
  match (s.sense c).conv with
  | none => s
  | some v =>
    let s := modSense c (fun x => { x with
      conv := none, results := tset v.source v.value x.results,
      armCodeA := if v.kind == .arming 0 then v.value else x.armCodeA, armCodeB := if v.kind == .arming 1 then v.value else x.armCodeB }) s
    match v.kind with
    | .check k =>
      if (s.cmp (4 * c + k)).thChanged.any (v.at_ ≤ ·) then queueCheck c [k] s
      else if cmpEnabled s (4 * c + k) && decide ((v.value - cmpTh s (4 * c + k)).natAbs > 16 * s.act (chIdx c 0x19) 2)
      then checkFailed c k v.value s else s
    | _ => if v.source = 7 then referenceRead c v.value s else s

/-- MONITOR_RESULT (R241): 200 ECLK after the slot edge. -/
def execMonitorResult (t : Nat) (c : Fin 64) : State → Host.Outcome State Fault Refusal :=
  atEdge t (occurs (fun s => (s.sense c).conv.any fun v => v.at_ + 200 == s.now) (completeConv c))

/-- May comparator `k` of channel `c` be read back in the slot at the edge of the step (R242)? -/
def checkable (s : State) (c k : Nat) : Bool :=
  !inputArming (s.sense c) (k / 2) && (match (s.cmp (4 * c + k)).thChanged with | some n => n + 400 ≤ s.now | none => true)

/-- What the slot at the edge of the step converts (R239, R240): kind and source, and whether the sequence's slot is displaced.
(DEDUCED, log 16.) -/
def slotUse (s : State) (c : Nat) : Option (ConvKind × Nat) × Bool :=
  let x := s.sense c
  match x.arms.find? (·.2 ≤ s.now) with
  | some a => (some (.arming a.1, a.1), true)
  | none =>
    match x.checks.find? (checkable s c) with
    | some k => (some (.check k, 3 + k), true)
    | none =>
      let n := s.act (chIdx c 0x18) 1 / 2 ^ (4 * (s.now / 200 % 16)) % 16
      (if n = 15 then none else some (.sequence, n), false)

/-- The sample of a slot at its edge (R238 to R240): the result clamps at 18 bits (Table 8-8). -/
def monitorSlot (c : Nat) (sample : Int) (s : State) : State :=
  let s := if (s.sense c).conv.any (fun v => v.at_ + 200 ≤ s.now) then completeConv c s else s
  let (u, displaced) := slotUse s c
  match u with
  | none => s
  | some (k, source) =>
    modSense c (fun x => { x with
      conv := some { at_ := s.now, kind := k, source := source, value := max (-131072) (min sample 131071) },
      skipped := if displaced then sat32 (x.skipped + 1) else x.skipped,
      arms := match k with | .arming i => x.arms.eraseP (fun a => a.1 == i && a.2 ≤ s.now) | _ => x.arms,
      edges := match k with | .arming i => x.edges ++ [(i, s.now + 204)] | _ => x.edges,
      checks := match k with | .check k => x.checks.filter (· != k) | _ => x.checks }) s

/-! ### Threshold readback check (R242 to R244) -/

/-- A check of channel `c` begins: all four threshold DACs are converted, and the enabled comparators are checked. -/
def startCheck (c : Nat) : State → State := queueCheck c [0, 1, 2, 3]

/-- TH_CHECK_PERIODIC (R242): every channel whose period, counted from the SYNC epoch, expires at the edge. -/
def execThCheckPeriodic (t : Nat) : State → Host.Outcome State Fault Refusal :=
  atEdge t fun s => forAll (List.range 64) (fun c s =>
    let p := s.act (chIdx c 0x19) 1
    if p != 0 && s.now % (p * 400000) == 0 then startCheck c s else s) s

/-- TH_CHECK_REQ (R242, R246). -/
def execThCheckReq (t : Nat) (r : Req) (c : Fin 64) (v : Nat) : State → Host.Outcome State Fault Refusal :=
  atEdge t (command r (chIdx c 0x19) (fun _ => [must1 v]) (startCheck c))

/-! ### CMP_CLEAR (R236, R244, Table 8-10) -/

/-- Bit 0: the latch in mode 0. -/
def clearLatch (j : Nat) (s : State) : State :=
  if bit (s.act (cmpIdx j) 5) 0 then s
  else if cmpSeen s j then modCmp j (fun c => { c with clearFails := sat32 (c.clearFails + 1) }) s
  else modCmp j (fun c => { c with latched := false }) s

/-- Bit 1. -/
def clearInBand (j : Nat) : State → State := modCmp j fun c => { c with inBand := false }

/-- Bit 2: the force ends and one readback of the comparator follows. -/
def clearForce (j : Nat) (s : State) : State :=
  let c := s.cmp j
  let s := modCmp j (fun c => { c with forced := false, thFail := false }) s
  let s := if c.forced && !c.arming then setOutput none j c.under s else s
  if cmpEnabled s j then queueCheck (j / 4) [j % 4] s else s

/-- A write of `CMP_CLEAR` with value `v`. -/
def cmpClear (j v : Nat) (s : State) : State :=
  let s := if bit v 0 then clearLatch j s else s
  let s := if bit v 1 then clearInBand j s else s
  if bit v 2 then clearForce j s else s

/-- CMP_CLEAR_LATCH (R236). -/
def execCmpClearLatch (t : Nat) (r : Req) (j : Fin 256) : State → Host.Outcome State Fault Refusal :=
  atEdge t (command r (cmpIdx j) (fun _ => []) (cmpClear j 1))

/-- CMP_CLEAR_IN_BAND (Table 8-10). -/
def execCmpClearInBand (t : Nat) (r : Req) (j : Fin 256) : State → Host.Outcome State Fault Refusal :=
  atEdge t (command r (cmpIdx j) (fun _ => []) (cmpClear j 2))

/-- CMP_CLEAR_FORCE (R244). -/
def execCmpClearForce (t : Nat) (r : Req) (j : Fin 256) : State → Host.Outcome State Fault Refusal :=
  atEdge t (command r (cmpIdx j) (fun _ => []) (cmpClear j 4))

end Sys2Proof.Machine
end

