-- ==== Sys2Proof/Machine/Commit.lean ====
section
/-! DEFINITION. Staged changes, the commit check's result, commit ticks, ring commits and views (chapters 11 and 12). -/

namespace Sys2Proof.Machine

/-! ### Commit ticks (R331, R332) -/

/-- The first ECLK edge at which the time counter reaches `time` ns (R332). -/
def timeEdge (s : State) (time : Nat) : Nat :=
  let c := s.dev.clock
  c.n + (time * 2 ^ 32 - c.timeAcc + c.timeRate - 1) / c.timeRate

/-- Does a change refill the pilot of target `k` of engine `e` (R91): a changed step, or a changed SEGMENT or START of the step that it
names, where the target is enabled and its content has a pilot? (DEDUCED, log 29.) -/
def refilled (s : State) (e k : Nat) : Bool :=
  let d := s.dev.dict
  let w := targetWord d.staged e k
  let i := partBase d.staged e + targetStep w
  let new := entryAt d.stepsStaged i
  let old := entryAt d.stepsActive i
  let kind := (s.seg new.segment).kind
  targetEn w && 1 ≤ kind && kind ≤ 4 &&
  (marked s (engIdx e 3) (k + 1) || marked s (engIdx e 1) 1 || new.segment != old.segment || new.start != old.start)

/-- The pilot targets that the staged change refills. (DESIGN CHOICE, log 28.) -/
def refillTargets (s : State) : List (Nat × Nat) :=
  (List.range 64).flatMap fun e => ((List.range 16).filter (refilled s e)).map fun k => (e, k)

/-- The earliest edge of a commit whose check succeeds at the edge of the step and that refills `n` targets (R332). -/
def earliestEdge (s : State) (n : Nat) : Nat := s.now + 4000 + 200 * n + 400

/-- The commit tick that the request under check selects, of a commit of this module alone (R332). -/
def commitTickOf (s : State) (n : Nat) : Nat :=
  let c := s.dev.dict.commit
  let g := commitGrid (slowestGrid s)
  if c.reqWhen = 0 then alignUp g (earliestEdge s n) else if c.reqWhen = 1 then alignUp g (timeEdge s c.reqArg) else c.reqArg * 400000

/-- The tick of the commit that waits for it: where it is given by PTP time, the edge at which the time counter reaches it at its present rate
(R332). -/
def awaitedTick (s : State) : Nat :=
  let c := s.dev.dict.commit
  if c.reqWhen = 1 && s.dev.ring.commit.st = 0 then alignUp (commitGrid (slowestGrid s)) (timeEdge s c.reqArg) else c.tickN

/-- 3,600 s in ECLK. -/
def hour : Nat := 1440000000000

/-- The commit-tick rules of a commit of this module alone, with R314 (R332, Table 12-6). (DEDUCED, log 26.) -/
def tickFails (s : State) (n : Nat) : List Fail :=
  let c := s.dev.dict.commit
  let w := c.reqWhen
  let t := commitTickOf s n
  failsAt (w == 3) 0x04020000 (key 0x2100 0) ++
  failsAt ((w == 1 && (c.reqArg * 2 ^ 32 ≤ s.dev.clock.timeAcc || t < earliestEdge s n)) || (w == 2 && t < earliestEdge s n) ||
           (w != 3 && c.reqAt + hour < t)) 0x04020000 (key 0x2102 0) ++
  failsAt (marked s 0x2020 6) (0x04950000 + s.dev.ring.devpos) (key 0x2020 6)

/-! ### Requests -/

/-- The refusals of `COMMIT_REQ` (R319, R325, R309). -/
def commitReqCodes (v : Nat) (s : State) : List Nat :=
  [failIf (bits v 31 2 != 0) 0x03830000, failIf (s.dev.dict.commit.st != 0 || s.dev.ring.commit.readySent) 0x06030000]

/-- A check begins at the edge of the step (R328). -/
def startCommitCheck (whenSel arg : Nat) (s : State) : State :=
  modCommit (fun c => { c with st := 1, result := 0xFFFFFFFF, reqAt := s.now, reqWhen := whenSel, reqArg := arg }) s

/-- A request of a ring commit (R305, R306): PREPARE is sent. -/
def startRingCommit (v : Nat) (s : State) : State :=
  let id := Config.ringCommitId s.undefined
  let s := modRingCommit (fun c => { c with
    st := 1, result := 0, failPos := 0xFF, id := id, sent := some (.prepare id (v % 4) (s.rwv 0x2102 0)), preparedAt := s.now, coordinator := true, ownOk := false,
    reports := [], codes := [], whenSel := v % 4, at_ := s.rwv 0x2102 0, mask := s.rwv 0x2021 1, readySent := false }) s
  startCommitCheck (v % 4) (s.rwv 0x2102 0) { s with undefined := s.undefined + 1 }

/-- A write of `COMMIT_REQ`: a nonzero `RING_COMMIT_MASK` makes it a ring commit. -/
def commitReq (v : Nat) (s : State) : State :=
  if s.rwv 0x2021 1 = 0 then startCommitCheck (v % 4) (s.rwv 0x2102 0) (modRingCommit (fun c => { c with coordinator := false }) s)
  else startRingCommit v s

/-- COMMIT_REQ (R328). -/
def execCommitReq (t : Nat) (r : Req) (v : Nat) : State → Host.Outcome State Fault Refusal :=
  atEdge t (command r 0x2100 (commitReqCodes v) (commitReq v))

/-- RING_COMMIT_REQUEST (R305). -/
def execRingCommitRequest (t : Nat) (r : Req) (v : Nat) : State → Host.Outcome State Fault Refusal :=
  atEdge t (command r 0x2100 (commitReqCodes v) (commitReq v))

/-! ### Discarding -/

/-- Every staged copy takes its active value and every change mark is cleared (R326). -/
def discardStaged : State → State :=
  modDict fun d => { d with staged := d.active, changed := [], stepsStaged := d.stepsActive, stepChanged := [] }

/-- A checked change is given up: the staged lock contribution falls to zero, and every pilot refilled for it is refilled again from the
active targets, which stay blocked until then (R61, R326); no commit tick is pending (R340). -/
def cancelChecked (s : State) : State := modCommit (fun c => { c with st := 0, refills := c.blocked, tickN := c.appliedN }) s

/-- Is a ring commit in progress on this module? -/
def ringBusy (s : State) : Bool := s.dev.ring.commit.st != 0

/-- The refusals of `STAGE_DISCARD` (R326, R309). -/
def stageDiscardCodes (v : Nat) (s : State) : List Nat :=
  let c := s.dev.dict.commit
  [must1 v, failIf (c.st == 1 || s.dev.ring.commit.readySent || ringBusy s) 0x06030000,
   failIf (c.st == 2 && awaitedTick s < s.now + 400) 0x06400000]

/-- STAGE_DISCARD (R326). -/
def stageDiscard (s : State) : State := discardStaged (if s.dev.dict.commit.st = 2 then cancelChecked s else s)

def execStageDiscard (t : Nat) (r : Req) (v : Nat) : State → Host.Outcome State Fault Refusal :=
  atEdge t (command r 0x2103 (stageDiscardCodes v) stageDiscard)

/-! ### Ring commits: the coordinator's decision (R306 to R310, Table 11-6) -/

/-- What this module reports of itself. -/
def ownReport (s : State) : ReadyReport :=
  { pos := s.dev.ring.devpos, reach := reachMatrix s, drives := drivenLines s, equalise := s.stg 0x2020 6 == 1,
    changesEqualise := marked s 0x2020 6, slowest := slowestGrid s,
    aligned := ringAligned s && !s.dev.clock.holdover }

/-- Positions that take part beside the coordinator. -/
def ringOthers (s : State) : List Nat :=
  (List.range 8).filter fun k => bit s.dev.ring.commit.mask k && k != s.dev.ring.devpos

/-- Those of them that are in the ring. -/
def ringPresent (s : State) : List Nat := (ringOthers s).filter (bit s.dev.ring.members)

/-- X lines joined by links of the members: from inbound x to outbound y, the module not driving x itself. -/
def joinedGraph (reports : List ReadyReport) : List (Nat × Nat) :=
  reports.flatMap fun r => r.reach.filter fun p => !r.drives.contains p.1

/-- Nodes reached from `todo` in a graph. -/
def graphReach (l : List (Nat × Nat)) : Nat → List Nat → List Nat → List Nat
  | 0, _, seen => seen
  | _, [], seen => seen
  | k + 1, v :: r, seen =>
    if seen.contains v then graphReach l k r seen
    else graphReach l k (((l.filter fun p => p.1 == v).map Prod.snd) ++ r) (v :: seen)

/-- Is X line `x` on a cycle of the graph? -/
def onCycle (l : List (Nat × Nat)) (x : Nat) : Bool :=
  (graphReach l (2 * l.length + 2) ((l.filter fun p => p.1 == x).map Prod.snd) []).contains x

/-- The commit tick of a ring commit decided at the edge of the step (R307, R331). -/
def ringTickOf (s : State) (reports : List ReadyReport) : Nat :=
  let c := s.dev.ring.commit
  let g := (reports.map ReadyReport.slowest).foldl Nat.lcm 400
  if c.whenSel = 2 then c.at_ * 400000 else alignUp g (s.now + 25600)

/-- The rules of the ring check that fail: code, and position that broke it (0xFF none). (DEDUCED, log 30.) -/
def ringFails (s : State) (reports : List ReadyReport) : List (Nat × Nat) :=
  let c := s.dev.ring.commit
  let own := s.dev.ring.devpos
  let g := joinedGraph reports
  let eq := (reports.find? fun r => r.pos == own).any ReadyReport.equalise
  let t := ringTickOf s reports
  let two := (List.range 64).filter fun x => 2 ≤ (reports.filter fun r => r.drives.contains x).length
  let away := (ringOthers s).filter fun k => !bit s.dev.ring.members k
  let unnamed := (List.range 8).filter fun k => bit s.dev.ring.members k && k != own && !bit c.mask k
  let changed := reports.filter fun r => r.changesEqualise && r.pos != own
  two.map (fun x => (0x04910000 + x, 0xFF)) ++
  ((List.range 64).filter (onCycle g)).map (fun x => (0x04920000 + x, 0xFF)) ++
  ((reports.filter fun r => !r.aligned).map fun r => (0x04930000 + r.pos, r.pos)) ++ away.map (fun k => (0x04930000 + k, k)) ++
  ((reports.filter fun r => r.equalise != eq).map fun r => (0x04950000 + r.pos, r.pos)) ++
  (if marked s 0x2020 6 then unnamed.map fun k => (0x04950000 + k, k) else []) ++
  (if unnamed.isEmpty then [] else changed.map fun r => (0x04950000 + r.pos, r.pos)) ++
  (if c.whenSel = 2 && t < s.now + 25600 then [(0x04960000, 0xFF)] else []) ++
  (if s.dev.dict.commit.reqAt + hour < t then [(0x04020000, 0xFF)] else [])

/-- The lowest of failing codes with their positions. -/
def lowestOf (l : List (Nat × Nat)) : Option (Nat × Nat) :=
  l.foldl (fun m f => match m with | none => some f | some g => if f.1 < g.1 then some f else some g) none

/-- The ring commit ends without effect: the coordinator sends DISCARD, a member FAIL (R306, R309, R310). A check of the coordinator that still
runs is finished. -/
def ringFail (code pos : Nat) (s : State) : State :=
  let s := modRingCommit (fun r => { r with
    st := 0, result := code, failPos := pos, codes := (code, pos) :: r.codes,
    sent := some (if r.coordinator then .discard r.id code else .fail r.id pos code) }) s
  if s.dev.dict.commit.st = 2 then
    let s := modCommit (fun c => { c with result := code, failObj := noObj, stepCheck := noObj }) (cancelChecked s)
    notice 0x000A 3 0 0 [code, noObj] s
  else s

/-- A further failing code of a ring commit that has failed (R310): the lowest is the outcome that `COMMIT_RESULT` reports too, while no check
runs. -/
def lowerResult (code pos : Nat) (s : State) : State :=
  if code < s.dev.ring.commit.result then
    let s := modRingCommit (fun r => { r with result := code, failPos := pos }) s
    if s.dev.dict.commit.st = 0 then modCommit (fun c => { c with result := code }) s else s
  else s

/-- The decision, once the own check has succeeded and every reply is in (R306, R307): T is chosen and APPLY is sent. (DEDUCED, log 30.) -/
def ringDecide (s : State) : State :=
  let c := s.dev.ring.commit
  if c.coordinator && c.st == 1 && c.ownOk && s.dev.dict.commit.refills.isEmpty &&
     (ringPresent s).all (fun k => c.reports.any fun r => r.pos == k) then
    let reports := ownReport s :: c.reports
    match lowestOf (ringFails s reports) with
    | some (code, pos) => ringFail code pos s
    | none =>
      let t := ringTickOf s reports
      modCommit (fun k => { k with tickN := t }) (modRingCommit (fun r => { r with st := 2, sent := some (.apply r.id t) }) s)
  else s

/-! ### The end of the check (R329, R330) -/

/-- The check fails. (DEDUCED, log 27.) -/
def checkFails (f : Fail) (s : State) : State :=
  let s := modCommit (fun c => { c with st := 0, result := f.code, failObj := f.obj, stepCheck := f.step }) s
  let s := notice 0x000A 3 0 0 [f.code, f.obj] s
  if harbourmaster s = 0 then discardStaged s else s

/-- The check succeeds: the staged lock contribution is counted and pilot refills begin; runs that the change bars end (R61, R91, R415). -/
def checkPasses (targets : List (Nat × Nat)) (tick : Nat) (s : State) : State :=
  endBarredRun (modCommit (fun c => { c with
    st := 2, result := 0, failObj := noObj, stepCheck := noObj, okAt := s.now, tickN := tick, earliest := earliestEdge s targets.length, refills := targets ++ c.refills.filter
      (!targets.contains ·), blocked := targets ++ c.refills.filter (!targets.contains ·) }) s)

/-- A member sends READY with its report when its refills have ended (R306, R308, R332). -/
def sendReady (s : State) : State :=
  let c := s.dev.ring.commit
  if !c.coordinator && c.st == 1 && s.dev.dict.commit.st == 2 && s.dev.dict.commit.refills.isEmpty then
    modRingCommit (fun r => { r with st := 3, readySent := true, sent := some (.ready r.id (ownReport s)) }) s
  else s

/-- COMMIT_CHECK_DONE: the running check completes at the edge of the step. -/
def commitCheckDone (s : State) : State :=
  let ring := s.dev.ring.commit
  let inRingCommit := ring.coordinator || ring.st == 1
  let targets := refillTargets s
  let more := if inRingCommit then
      failsAt (s.dev.dict.commit.reqWhen == 3) 0x04020000 (key 0x2100 0) ++
      failsAt (ring.coordinator && s.dev.dict.commit.reqWhen == 1) 0x04960000 (key 0x2100 0)
    else tickFails s targets.length
  let tick := if inRingCommit then s.dev.dict.commit.tickN else commitTickOf s targets.length
  let r := runCheck s more
  let s := modCommit (fun c => { c with duration := s.now - c.reqAt, demand := r.demand, cycle := r.cycle }) s
  match r.fail with
  | some f =>
    if !inRingCommit then checkFails f s
    else if ring.st = 1 then ringFail f.code s.dev.ring.devpos (checkFails f s)
    else lowerResult f.code s.dev.ring.devpos (checkFails { f with code := min f.code ring.result } s)
  | none =>
    if !inRingCommit then checkPasses targets tick s
    else if ring.st = 1 then ringDecide (sendReady (modRingCommit (fun r => { r with ownOk := true }) (checkPasses targets tick s)))
    else
      let s := modCommit (fun c => { c with st := 0, result := ring.result, failObj := noObj, stepCheck := noObj }) s
      notice 0x000A 3 0 0 [ring.result, noObj] s

/-- COMMIT_CHECK_DONE (R330). -/
def execCommitCheckDone (t : Nat) : State → Host.Outcome State Fault Refusal :=
  atEdge t (occurs (fun s => s.dev.dict.commit.st == 1) commitCheckDone)

/-- The first words of the content of a SAMPLE or SPLINE segment from content position `start`, at most 2,048 (Table 3-8). -/
def headWords (s : State) (g : Seg) (start : Nat) : List Nat :=
  let i := if g.kind = 2 then 8 * (knotInterval s g start (g.items - 2) 0 0).1 else start
  let n := if g.kind = 2 then 8 * g.items else if g.kind = 1 then g.items else 0
  (List.range (min 2048 (n - i))).map fun k => segWord s g (i + k)

/-- The pilot content of a target whose step is `en` (Table 3-8). -/
def pilotWords (s : State) (en : Entry) : List Nat :=
  let all := fun (g : Seg) => (List.range (8 * g.items)).map (segWord s g)
  let g := s.seg en.segment
  if g.kind = 3 then all g
  else if g.kind = 4 then (all (s.seg (bits g.addr 31 16)) ++ headWords s (s.seg (bits g.addr 15 0)) en.start).take 2048
  else headWords s g en.start

/-- The pilot fetch unit has written the pilot of target `k` of engine `e`, of the checked change where one waits, into the engine's pilot
area (R90, R403). -/
def writePilot (e k : Nat) (s : State) : State :=
  let d := s.dev.dict
  let check := d.commit.st = 2
  let t := if check then d.staged else d.active
  let en := entryAt (if check then d.stepsStaged else d.stepsActive) (partBase t e + targetStep (targetWord t e k))
  let a := pilotBank s e * 262144 + 4 * (e % 2 * 32768 + k * 2048)
  modScratch (fun x => { x with content := mputs 0 a ((pilotWords s en).flatMap (leBytes 4)) x.content }) s

/-- PILOT_REFILL_DONE (R90, R91): the pilot holds its content; where no checked change waits, the requests to the target are served again. -/
def execPilotRefillDone (t : Nat) (e : Fin 64) (target : Fin 16) : State → Host.Outcome State Fault Refusal :=
  atEdge t fun s =>
    let s := if s.dev.dict.commit.refills.contains (e.val, target.val) then writePilot e target s else s
    ringDecide (sendReady (modCommit (fun c => { c with
      refills := c.refills.filter (· != (e.val, target.val)),
      blocked := if c.st = 2 then c.blocked else c.blocked.filter (· != (e.val, target.val)) }) s))

/-! ### What a commit tick does (R333, R334, Table 12-8) -/

/-- The elements of a list up to the last one that satisfies `p`. -/
def throughLast {α : Type} (p : α → Bool) (l : List α) : List α := (l.reverse.dropWhile fun x => !p x).reverse

/-- Engine commands that fall due at the commit tick act before it, in order of receipt, through the last one that puts the engine in or out
of ARMED, so that the commit finds whether the engine is armed (R101, R102). (DESIGN CHOICE, log 3.) -/
def armFirst (e : Nat) (s : State) : State :=
  let due := throughLast (fun (k : EngCmd) => k.cmd == 1 || k.cmd == 5 || k.cmd == 6) ((s.core e).pend.cmds.filter (·.tick ≤ s.now))
  let s := modPend e (fun p => { p with cmds := p.cmds.filter fun k => !due.contains k }) s
  forAll due (commandAct e false) s

/-- The fields of an entry whose change does not wait for a re-entry are blanked (R109). (DEDUCED, log 24.) -/
def Entry.reentryPart (en : Entry) : Entry :=
  { en with endAction := 0, waitSel := 0, next := 0, branch := 0, jumpMap := 0, tag := 0 }

/-- Does a commit touch engine `e` (R450): one of its objects or of the entries of its partition? (DEDUCED, log 41.) -/
def touches (ch sch : List Nat) (t : Tbl Nat) (e : Nat) : Bool :=
  ch.any (fun k => k / 256 / 0x80 == (0x6000 + e * 0x80) / 0x80) ||
  sch.any fun i => partBase t e ≤ i && i < partBase t e + partSize t e

/-- A commit at engine `e` (R101, R109, R110, R134, R450). `d0`: the dictionary before it. (DEDUCED, log 41.) -/
def commitEngine (d0 : Dict) (e : Nat) (s : State) : State :=
  let c := s.core e
  let old := entryAt d0.stepsActive (partBase d0.active e + c.play.step)
  let new := s.entry e c.play.step
  let ramp := ([1, 2, 3, 4, 5, 6] : List Nat).any fun k => d0.changed.contains (key (engIdx e 6) k)
  let again := c.st == .running && old.reentryPart != new.reentryPart && !c.play.lateEntry && c.play.reentry.isNone
  let tag := if c.active then new.tag else c.play.tag
  let go := c.st == .armed && s.act (engIdx e 0) 3 == 9
  let rests := c.st == .waiting || c.st == .holding
  let act := rests && old.endAction != new.endAction
  if !(ramp || again || go || act || tag != c.play.tag || touches d0.changed d0.stepChanged s.dev.dict.active e) then s
  else
    let s := modCore e (fun c => { c with
      vals := if ramp then { c.vals with rampIndex := 0 } else c.vals,
      play := { c.play with tag := tag, action := if rests then new.endAction else c.play.action,
                            reentry := if again then some s.now else c.play.reentry },
      pend := { c.pend with start := if go then some s.now else c.pend.start, again := act || c.pend.again },
      cache := cacheFor s e (if c.st == .armed then s.act (engIdx e 0) 4 else c.play.step) }) s
    if touches d0.changed d0.stepChanged s.dev.dict.active e then
      modEngine e (fun g => { g with log := g.log ++ [(s.now, 32)] }) s
    else s

/-- A commit at the pair of lines `p` and `p + 1` (R197, R198): it switches at the commit tick, or awaits a period start; lines that now share
one latch are both tripped where one is (R187); a changed trip mask takes the live comparator outputs. (DEDUCED, log 15, log 16.) -/
def commitPair (p : Nat) (s : State) : State :=
  let s := if awaits s p || awaits s (p + 1) then
      match pairPoint s p with
      | some k => modLine p (fun l => { l with applyBy := some k }) s
      | none => applyPair (64 * s.now) p s
    else s
  let shared := linked s p && (s.line p).trip != (s.line (p + 1)).trip
  let s := if shared then forAll [p, p + 1] (fun k s => modLine k (fun l => { l with trip := true, keepsSafe := false }) s) s else s
  forAll [p, p + 1] (fun p s => if tripHeld s p then setTrip none p s else s) s

/-- A commit that changes `BLANK_CMP` of channel `c` while blanking runs (R193, R197): a comparator that it selects is seen as not asserted, and
one that it no longer selects acts from the commit tick. `before`: `BLANK_CMP` before it. -/
def commitBlanking (c before : Nat) (s : State) : State :=
  let counts := (s.out c).blankEnd.any fun n => decide (s.now < n)
  if !counts || before == s.act (chIdx c 0x36) 3 then s
  else forAll [0, 1, 2, 3] (fun k s =>
    let j := 4 * c + k
    let old := (s.cmp j).asserted && !bit before k && !(s.out c).lost
    let new := cmpSeen s j
    if new && !old then seenAssert none j s else if old && !new then seenDeassert j s else s) s

/-- A commit at bank `b` (R405, R411). -/
def commitBank (d0 : Dict) (b : Nat) (s : State) : State :=
  let new := s.act (0x3100 + b) 1 != copyVal d0.active (0x3100 + b) 1
  let s := if new && s.dev.scratch.berth.handover.any (·.1 == b) then
      modBerth (fun x => { x with handover := none, status := setBit x.status 3 }) s else s
  if copyVal d0.active (0x3100 + b) 2 = 1 && s.act (0x3100 + b) 2 = 0 then modBank b (fun k => { k with retention := false, waking := false }) s
  else s

/-- Pending views open at the commit tick. -/
def openPending (s : State) : State :=
  forAll [1, 2, 3, 4, 5, 6, 7, 8] (fun k s =>
    forAll [0, 1, 2, 3] (fun v s =>
      if ((s.session k).view v).st = 1 then modSession k (Session.setView v (openView k s)) s else s) s) s

/-- The active copies take the staged values. (DEDUCED, log 24.) -/
def switchCopies (s : State) : State :=
  modDict (fun d => { d with
    active := d.staged, stepsActive := d.stepsStaged, changed := [], stepChanged := [],
    stepWritten := d.stepChanged.foldl (fun l i => insertNat i l) d.stepWritten,
    commit := { d.commit with
      st := 0, epoch := d.commit.epoch + 1, tickN := s.now, appliedN := s.now, tickTime := s.time,
      blocked := d.commit.refills } }) s

/-- The commit of a ring member counts as one (R307). -/
def countRing (s : State) : State :=
  if s.dev.ring.commit.st = 2 then
    modRingCommit (fun r => { r with st := 0, readySent := false, result := 0, failPos := 0xFF, applied := wrap32 (r.applied + 1) }) s
  else s

/-- The commit applies at the edge of the step. -/
def applyCommit (s : State) : State :=
  let s := forAll (List.range 64) armFirst s
  let d0 := s.dev.dict
  let before := fun (c k : Nat) => copyVal d0.active (chIdx c 0) k
  let s := assertLine (s.now + 1) 2019 (countRing (switchCopies s))
  let s := forAll (List.range 64) (commitEngine d0) s
  let s := forAll (List.range 1248) (commitSlots d0.changed) s
  let s := forAll (List.range 32) (commitTrig d0.active) s
  let s := forAll (List.range 64) (commitTimer d0.changed) s
  let s := forAll (List.range 64) (commitSense d0.active d0.changed) s
  let s := forAll (List.range 64) (fun c s => commitOutput c (before c 1) (before c 2) (before c 3) s) s
  let s := forAll (List.range 64) (fun c s => commitBlanking c (copyVal d0.active (chIdx c 0x36) 3) s) s
  let s := forAll (List.range 128) (fun k s => commitPair (2 * k) s) s
  let s := forAll (List.range 128) (commitBank d0) s
  let s := if d0.changed.any (fun k => key 0x3050 1 ≤ k && k ≤ key 0x3050 8) then
      modBerth (fun x => { x with status := setBit x.status 1 }) s else s
  let s := if copyVal d0.active 0x3000 1 != s.act 0x3000 1 then rateChanged s else s
  let s := if copyVal d0.active 0x5000 1 = 1 && s.act 0x5000 1 = 0 then forAll (List.range 64) discardPass s else s
  openPending s

/-- Is the commit timer loaded and has it reached T (R333)? WHEN 1 follows the time counter (R332). -/
def commitDue (s : State) : Bool :=
  let c := s.dev.dict.commit
  let ring := s.dev.ring.commit.st
  c.st == 2 && ring != 1 && ring != 3 &&
  (if c.reqWhen = 1 && ring = 0 then s.now % commitGrid (slowestGrid s) == 0 && decide (c.reqArg ≤ s.time) else decide (c.tickN ≤ s.now))

/-- Does the commit apply at the very edge of the step? -/
def commitsHere (s : State) : Bool :=
  commitDue s && (s.dev.dict.commit.tickN == s.now || (s.dev.dict.commit.reqWhen = 1 && s.dev.ring.commit.st = 0)) &&
  !(s.dev.ring.commit.readySent && s.dev.ring.commit.st == 3)

/-- Time reaches edge `t`, and a commit of that edge has applied: an event registered at the commit tick edge finds the new configuration,
whichever of the two commands comes first (R258, R338). -/
def reach (t : Nat) (s : State) : State :=
  let s := advance t s
  if commitsHere s then applyCommit s else s

/-- A meaning of a command that finds the commit of its edge applied. (DESIGN CHOICE, log 1, log 3.) -/
def atTick (t : Nat) (f : State → State) (s : State) : Host.Outcome State Fault Refusal := .next (f (reach t s))

/-- A member that has heard no APPLY discards at T (Table 11-7). -/
def applyMissed (s : State) : State :=
  notice 0x0010 1 0 0 [s.dev.ring.commit.id] (modRingCommit (fun r => { r with st := 0, readySent := false }) (cancelChecked s))

/-- COMMIT_TICK (R333). -/
def execCommitTick (t : Nat) : State → Host.Outcome State Fault Refusal :=
  atEdge t fun s =>
    if s.dev.ring.commit.readySent && s.dev.ring.commit.st == 3 then applyMissed s
    else if commitDue s then applyCommit s else s

/-! ### Ring commits: messages (R306 to R310) -/

/-- What a PREPARE is refused with; 0: the module takes part (R309, R312, Table 11-6). (DEDUCED, log 30.) -/
def prepareCode (s : State) : Nat :=
  let p := s.dev.ring.devpos
  lowest [failIf (!ringAligned s || s.dev.clock.holdover) (0x04930000 + p),
          failIf (s.dev.dict.commit.st != 0 || ringBusy s) (0x04940000 + p)]

/-- PREPARE (R306, R309, R312): the module's check begins, or it replies FAIL and the commit that it takes part in continues. The second copy of
the message, from the other direction, is nothing new. -/
def execPrepare (t id whenSel at_ : Nat) : State → Host.Outcome State Fault Refusal :=
  atEdge t (occurs (fun s => ringRuns s && (s.dev.ring.commit.id != id || (s.dev.ring.commit.sent.isNone && !ringBusy s))) fun s =>
    let c := prepareCode s
    if c != 0 then modRingCommit (fun r => { r with sent := some (.fail id s.dev.ring.devpos c) }) s
    else
      let s := modRingCommit (fun r => { r with
        st := 1, id := id, preparedAt := s.now, coordinator := false, ownOk := false, whenSel := whenSel, at_ := at_, readySent := false }) s
      startCommitCheck (whenSel % 4) at_ s)

/-- READY (R306): a report that is awaited is taken. -/
def execReady (t id : Nat) (rep : ReadyReport) : State → Host.Outcome State Fault Refusal :=
  atEdge t (occurs (fun s =>
    let c := s.dev.ring.commit
    c.coordinator && c.st == 1 && c.id == id && (ringPresent s).contains rep.pos && !c.reports.any fun r => r.pos == rep.pos)
    fun s => ringDecide (modRingCommit (fun c => { c with reports := c.reports ++ [rep] }) s))

/-- Location of the Hawser interface (Table 17-7). -/
def hawserLoc : Loc :=
  { die := 0, tile := 58, macro_ := 0, bank := 0, word := 0, bit_ := 0, depth := 3, data := false, physical := false, repair := false,
    retired := false }

/-- A member discards a ring commit that others apply: the coordinator reports the split as DEGRADED (Table 11-7). (DEDUCED, log 30.) -/
def commitSplit (id : Nat) (s : State) : State :=
  degraded (raiseReason 8 (reportFault 3 0 0 0x0010 (locate s hawserLoc) id 0 s))

/-- FAIL_REPLY (R306, R310): the ring commit is discarded; a later reply of the same commit can lower its result. One that comes after the
decision to apply tells of a member that discards alone. -/
def execFailReply (t id pos code : Nat) : State → Host.Outcome State Fault Refusal :=
  atEdge t (occurs (fun s => s.dev.ring.commit.coordinator && s.dev.ring.commit.id == id) fun s =>
    if s.dev.ring.commit.st = 1 then ringFail code pos s
    else if s.dev.ring.commit.st = 0 && s.dev.ring.commit.result != 0 then lowerResult code pos s
    else if s.dev.ring.commit.st = 2 || s.dev.ring.commit.st = 0 then commitSplit id s else s)

/-- APPLY (R306, R307): T is loaded into the commit timer. -/
def execApply (t id tick : Nat) : State → Host.Outcome State Fault Refusal :=
  atEdge t (occurs (fun s => s.dev.ring.commit.readySent && s.dev.ring.commit.st == 3 && s.dev.ring.commit.id == id) fun s =>
    modCommit (fun c => { c with tickN := tick }) (modRingCommit (fun r => { r with st := 2 }) s))

/-- The outcome that `COMMIT_RESULT` of a member reports (R310). -/
def reportOutcome (code : Nat) : State → State := modCommit fun c => { c with result := code, failObj := noObj, stepCheck := noObj }

/-- DISCARD (R309, R310): the checked change is dropped; every staged copy stays as it was. A member that has failed takes the outcome too.
(DEDUCED, log 30.) -/
def execDiscard (t id code : Nat) : State → Host.Outcome State Fault Refusal :=
  atEdge t (occurs (fun s => !s.dev.ring.commit.coordinator && s.dev.ring.commit.id == id && s.dev.ring.commit.st != 2) fun s =>
    if s.dev.ring.commit.st = 0 then
      if s.dev.dict.commit.st = 0 then modCommit (fun c => { c with result := code }) s else s
    else
      let s := modRingCommit (fun r => { r with st := 0, readySent := false }) s
      let s := if s.dev.dict.commit.st = 2 then cancelChecked s else modCommit (fun c => { c with st := 0 }) s
      notice 0x000A 3 0 0 [code, noObj] (reportOutcome code s))

/-- RING_COMMIT_TIMEOUT (R307): 50 ms after PREPARE the lowest position that has not replied fails the commit. -/
def execRingCommitTimeout (t : Nat) : State → Host.Outcome State Fault Refusal :=
  atEdge t (occurs (fun s => s.dev.ring.commit.coordinator && s.dev.ring.commit.st == 1 &&
    s.dev.ring.commit.preparedAt + 20000000 ≤ s.now) fun s =>
    match (ringPresent s).find? fun k => !s.dev.ring.commit.reports.any fun r => r.pos == k with
    | some k => ringFail (0x04900000 + k) k s
    | none => s)

/-! ### Views (R335 to R337) -/

/-- VIEW_OPEN: a view that is open or pending is replaced. (DEDUCED, log 40.) -/
def viewOpen (sess v : Nat) (s : State) : State :=
  modSession sess (Session.setView (v % 4) (if bit v 2 then { View.closed with st := 1 } else openView sess s)) s

/-- VIEW_OPEN (R335). -/
def execViewOpen (t : Nat) (r : Req) (v : Nat) : State → Host.Outcome State Fault Refusal :=
  atTick t (request r (fun s => failIf (8 ≤ v) 0x03830000 :: writeCodes r 0x2110 s) (viewOpen r.sess v))

/-- VIEW_CLOSE (R337). -/
def execViewClose (t : Nat) (r : Req) (v : Nat) : State → Host.Outcome State Fault Refusal :=
  atEdge t (request r (fun s => failIf (4 ≤ v) 0x03830000 :: writeCodes r 0x2110 s)
    (modSession r.sess (Session.setView (v % 4) View.closed)))

/-- VIEW_TIMEOUT (R337): `VIEW_TIMEOUT` ms after V or the last read that names the view. -/
def execViewTimeout (t sess : Nat) (view : Fin 4) : State → Host.Outcome State Fault Refusal :=
  atEdge t (occurs (fun s =>
    let x := s.session sess
    let v := x.view view
    let ms := x.val 0x2110 3
    v.st == 2 && ms != 0 && decide (max v.v v.lastRead + 400000 * ms ≤ s.now))
    (modSession sess (Session.setView view View.closed)))

end Sys2Proof.Machine
end

