-- ==== Sys2Proof/Machine/Lines.lean ====
section
/-! DEFINITION. The commands of the pulse lines: carrier, FOLLOW, pattern and one-shot instants, FIRE, TRIP_CLEAR and the end of blanking
(chapter 6). An instant is tap `tap` after the edge of the step (R167). -/

namespace Sys2Proof.Machine

/-- The instant that a command of a line names. -/
def tapInstant (s : State) (tap : Nat) : Nat := 64 * s.now + tap

/-- The carrier of line `p` has the event `k` next, at the instant named: what is due before it happens first, then it. -/
def carrierAtInstant (p tap : Nat) (k : CarrierEvent) (s : State) : State :=
  let i := tapInstant s tap
  let s' := carrierRun p i k.rank 8 s
  if nextCarrier s' p = some (i, k) then carrierEvent p i k (pairQueues p i s') else s

/-- CARRIER_PERIOD_START (R171 to R175, R188, R191, R195, R198, R236). -/
def execCarrierPeriodStart (t : Nat) (p : Fin 256) (tap : Nat) : State → Host.Outcome State Fault Refusal :=
  atEdge t (carrierAtInstant p tap .start)

/-- CARRIER_TARGET (R174). -/
def execCarrierTarget (t : Nat) (p : Fin 256) (tap : Nat) (rise : Bool) : State → Host.Outcome State Fault Refusal :=
  atEdge t (carrierAtInstant p tap (if rise then .rise else .fall))

/-- FOLLOW_EDGE (R176, R177): the first delayed edge of the line is due at the instant. -/
def execFollowEdge (t : Nat) (p : Fin 256) (tap : Nat) : State → Host.Outcome State Fault Refusal :=
  atEdge t (occurs (fun s => (s.line p).queue.head?.any fun q => q.1 == tapInstant s tap) (takeDelayed p))

/-- Does FIRE on line `p` start a one-shot, a pattern, or nothing (R182, R184)? -/
def fireEffect (p : Nat) (s : State) : State :=
  let l := s.line p
  let e := 64 * (s.now + 8)
  if l.set.mode = 3 && !(l.shot.any fun x => 64 * s.now < x.2) then
    modLine p (fun l => { l with shot := some (e + l.set.osDelay, e + l.set.osDelay + l.set.osWidth) }) s
  else if l.set.mode = 2 && l.set.patStart = 1 then modLine p (fun l => { l with patDue := l.patDue ++ [e] }) s
  else modLine p (fun l => { l with ignoredFires := sat32 (l.ignoredFires + 1) }) s

/-- The FIRE input of line `p` registers (R184, R201). -/
def fireInput (p : Nat) (s : State) : State :=
  let (s, hit) := registerInput (768 + p) s
  if hit then fireEffect p s else s

/-- PATTERN_START (R182): a start that FIRE has asked for, at its instant. -/
def execPatternStart (t : Nat) (p : Fin 256) : State → Host.Outcome State Fault Refusal :=
  atEdge t (occurs (fun s => lineMode s p == 2 && (s.line p).patDue.contains (64 * s.now)) fun s =>
    patternStart p (64 * s.now) (modLine p (fun l => { l with patDue := l.patDue.filter fun i => 64 * s.now < i }) s))

/-- PATTERN_BIT (R181): the next bit period begins at the instant. -/
def execPatternBit (t : Nat) (p : Fin 256) (tap : Nat) : State → Host.Outcome State Fault Refusal :=
  atEdge t (occurs (fun s => (s.line p).pat.any fun r => r.start + r.bit * r.taps == tapInstant s tap) (patternNext p))

/-- ONESHOT_RISE (R184). -/
def execOneshotRise (t : Nat) (p : Fin 256) (tap : Nat) : State → Host.Outcome State Fault Refusal :=
  atEdge t (occurs (fun s => lineMode s p == 3 && (s.line p).shot.any fun x => x.1 == tapInstant s tap)
    fun s => setW p (tapInstant s tap) true s)

/-- ONESHOT_FALL (R184). -/
def execOneshotFall (t : Nat) (p : Fin 256) (tap : Nat) : State → Host.Outcome State Fault Refusal :=
  atEdge t (occurs (fun s => lineMode s p == 3 && (s.line p).shot.any fun x => x.2 == tapInstant s tap)
    fun s => setW p (tapInstant s tap) false (modLine p (fun l => { l with shot := none }) s))

/-- The line whose release point a clear of line `p` arms: the first line of a linked pair (R187). -/
def clearLine (s : State) (p : Nat) : Nat := if linked s p then p / 2 * 2 else p

/-- The next release point takes the clear. -/
def tripClear (p : Nat) (s : State) : State := modLine (clearLine s p) (fun l => { l with clearArmed := true }) s

/-- TRIP_CLEAR (R188, R190). -/
def execTripClear (t : Nat) (r : Req) (p : Fin 256) (v : Nat) : State → Host.Outcome State Fault Refusal :=
  atEdge t (command r (lineIdx p) (fun _ => [must1 v]) (tripClear p))

/-- BLANKING_END (R192, R193): the count expires and the blanked comparators act again, from this edge. An assertion that was sampled at it or
since it, unblanked (R235), has acted. -/
def execBlankingEnd (t : Nat) (c : Fin 64) : State → Host.Outcome State Fault Refusal :=
  atEdge t (occurs (fun s => (s.out c).blankEnd.any (· ≤ s.now)) fun s =>
    let n := ((s.out c).blankEnd).getD 0
    let js := ([4 * c, 4 * c + 1, 4 * c + 2, 4 * c + 3] : List Nat).filter fun j =>
      (s.cmp j).asserted && !(s.out c).lost && bit (s.act (chIdx c 0x36) 3) (j % 4) && !(s.cmp j).seenAt.any (n ≤ ·)
    forAll js (fun j s => seenAssert none j s) (modOut c (fun o => { o with blankEnd := none }) s))

end Sys2Proof.Machine
end

