-- ==== Sys2Proof/Machine/Write.lean ====
section
/-! DEFINITION. REGISTER_WRITE: a write request to any object of the dictionary (R317 to R325, R505), key slots, and the operations that
writes of one request and cargo transfers share. -/

namespace Sys2Proof.Machine

/-! ### Key slots (R350) -/

/-- `KEY_RIGHTS`. -/
def keyRights (s : State) : Nat := s.rwv 0x1400 5

/-- Would the keys with `held` present and rights `v` leave a key that can open a harbourmaster session? -/
def keyRemains (held : Nat → Bool) (v : Nat) : Bool := ([0, 1, 2, 3] : List Nat).any fun k => held k && bit v k

/-- The refusals of a write of `len` bytes at `offset` of a key slot; `shape`: the code of a wrong form. -/
def keyCodes (shape k offset len : Nat) (s : State) : List Nat :=
  [failIf (offset != 0 || (len != 0 && len != 32)) shape,
   failIf (!keyRemains (fun j => if j = k then len != 0 else !(s.keySlot j).isEmpty) (keyRights s)) 0x05300000]

/-- A key slot takes a key or is emptied; in the brace state NVM keeps the old one until the state clears (R343). -/
def writeKey (k : Nat) (d : List Byte) (s : State) : State :=
  let old := s.keySlot k
  let s := modLink (fun l => { l with keys := tset k d l.keys }) s
  if s.dev.power.brace && !s.dev.power.keyWait.any (·.1 == k) then modPower (fun p => { p with keyWait := tset k old p.keyWait }) s else s

/-- The refusals of a write of `KEY_RIGHTS`. -/
def rightsCodes (v : Nat) (s : State) : List Nat :=
  [failIf (16 ≤ v) 0x03830000, failIf (!keyRemains (fun j => !(s.keySlot j).isEmpty) v) 0x05300000]

/-! ### RW objects (R319, R343) -/

/-- A device-wide RW object takes a value; an NVM write waits in the brace state. (DEDUCED, log 10.) -/
def setRw (k v : Nat) (s : State) : State :=
  let old := tget (if addressKey k then unwritten else objDefault (k / 256) (k % 256)) k s.dev.dict.rw
  let s := modDict (fun d => { d with rw := putRw k v d.rw }) s
  if s.dev.power.brace && nvmKey k && !s.dev.power.nvmWait.any (·.1 == k) then modPower (fun p => { p with nvmWait := tset k old p.nvmWait }) s
  else s

/-- A session's own RW object takes a value. -/
def setOwn (sess k v : Nat) : State → State := modSession sess fun x => { x with vals := putVal (k / 256) (k % 256) v x.vals }

/-- Value and reserved-field rules of RW objects. (DEDUCED, log 43.) -/
def rwCodes (index sub v : Nat) (s : State) : List Nat :=
  let out := fun (lo hi : Nat) => [failIf (v < lo || hi < v) 0x03810000]
  if index = 0x1100 || index = 0x1101 then
    match sub with
    | 2 => out 0 2
    | 5 => out 1 30
    | 7 => [failIf (bit v 12) 0x03830000]
    | 8 => [failIf (v != 1500 && v != 9000) 0x03810000]
    | 9 => out 1024 65535
    | _ => []
  else
    match index, sub with
    | 0x1200, 3 => out 100 600000
    | 0x1200, 4 => [failIf (16 ≤ v) 0x03830000]
    | 0x1400, 5 => rightsCodes v s
    | 0x2220, 1 => out 70 105
    | 0x3000, 5 => out 1 720
    | 0x3040, 3 => [failIf (v % 16 == 0) 0x03810000, failIf (16 ≤ v) 0x03830000]
    | 0x3040, 4 => out 64 65535
    | 0x4000, 1 => out 0 2047
    | 0x5100, 3 => out 0 1
    | 0xA020, 1 => out 0 524287
    | _, _ => []

/-! ### RS objects (R323 to R325) -/

/-- Staged writes are refused while a change is checked or waits for its tick, and from a ring member's READY on (R325, R309). -/
def stageBusy (s : State) : Bool := s.dev.dict.commit.st != 0 || s.dev.ring.commit.readySent

/-- The refusals of a staged write to an object that is no step entry. -/
def stageCodes (index sub : Nat) (s : State) : List Nat :=
  let ch := s.dev.dict.changed
  [failIf (stageBusy s) 0x06030000, failIf (32768 ≤ ch.length && !ch.contains (key index sub)) 0x05100000]

/-- The staged copy takes a value and the object is marked. -/
def stageValue (index sub v : Nat) : State → State :=
  modDict fun d => { d with
    staged := putVal index sub v d.staged,
    changed := if d.changed.contains (key index sub) then d.changed else key index sub :: d.changed }

/-- Step entries that `len` bytes at byte `a` of the table touch. -/
def entriesAt (a len : Nat) : List Nat := if len = 0 then [] else (List.range ((a + len - 1) / 64 - a / 64 + 1)).map (a / 64 + ·)

/-- Staged bytes of the step table; each entry touched is marked. -/
def stageSteps (a : Nat) (d : List Byte) : State → State :=
  modDict fun x => { x with
    stepsStaged := mputs 0 a d x.stepsStaged, stepChanged := (entriesAt a d.length).foldl (fun l i => insertNat i l) x.stepChanged }

/-! ### CMD objects -/

/-- What a write of value `v` to the CMD object index:sub is refused with, beside the rules of every write. (DEDUCED, log 18.) -/
def cmdCodes (index sub v : Nat) (s : State) : List Nat :=
  if 0x6000 ≤ index && index < 0x8000 then
    let k := v % 256
    if 1 ≤ k && k ≤ 6 then engineCmdCodes ((index - 0x6000) / 0x80) k (v / 256) s else [0x03110000]
  else if 0x8000 ≤ index && index < 0xA000 then
    let c := (index - 0x8000) / 0x80
    match (index - 0x8000) % 0x80, sub with
    | 0x00, 8 => [failIf (8 ≤ v) 0x03830000]
    | 0x00, _ => restartCodes c v s
    | 0x19, _ => [must1 v]
    | 0x12, _ => [failIf (8 ≤ v) 0x03830000]
    | 0x13, _ => [failIf (8 ≤ v) 0x03830000]
    | 0x14, _ => [failIf (8 ≤ v) 0x03830000]
    | 0x15, _ => [failIf (8 ≤ v) 0x03830000]
    | _, _ => [must1 v]
  else if 0x3020 ≤ index && index < 0x3026 then dchReleaseCodes (index - 0x3020) v s
  else
    match index, sub with
    | 0x2001, _ => must1 v :: realignCodes s
    | 0x2100, _ => commitReqCodes v s
    | 0x2103, _ => stageDiscardCodes v s
    | 0x2110, 1 => [failIf (8 ≤ v) 0x03830000]
    | 0x2110, _ => [failIf (4 ≤ v) 0x03830000]
    | 0x2210, _ => [failIf (v != 1 && v != 2) 0x03810000]
    | 0x3000, _ => trainCodes v s
    | 0x3040, _ => marchCodes v s
    | 0x5000, _ => calReqCodes v s
    | 0x5400, _ => [must1 v]
    | 0xA010, 2 => deleteCodes v s
    | 0xA010, _ => verifyCodes v s
    | _, _ => []

/-- FAULT_LOG_CLEAR (R468): every entry of the log is erased; entries that wait in the brace state stay. -/
def clearFaultLog : State → State := modFaults fun f => { f with log := [] }

/-- The effect of a write to a CMD object: that of the command which has a row of its own. (DEDUCED, log 18.) -/
def cmdEffect (sess index sub v : Nat) : State → State :=
  if 0x6000 ≤ index && index < 0x8000 then acceptCommand ((index - 0x6000) / 0x80) (v % 256) (v / 256)
  else if 0x8000 ≤ index && index < 0xA000 then
    let c := (index - 0x8000) / 0x80
    match (index - 0x8000) % 0x80, sub with
    | 0x00, 8 => supClear c v
    | 0x00, _ => outRestart c
    | 0x19, _ => startCheck c
    | 0x12, _ => cmpClear (4 * c) v
    | 0x13, _ => cmpClear (4 * c + 1) v
    | 0x14, _ => cmpClear (4 * c + 2) v
    | 0x15, _ => cmpClear (4 * c + 3) v
    | 0x30, _ => tripClear (4 * c)
    | 0x31, _ => tripClear (4 * c + 1)
    | 0x32, _ => tripClear (4 * c + 2)
    | _, _ => tripClear (4 * c + 3)
  else if 0x3020 ≤ index && index < 0x3026 then releaseChannel (index - 0x3020)
  else
    match index, sub with
    | 0x2001, _ => acceptRealign
    | 0x2100, _ => commitReq v
    | 0x2103, _ => stageDiscard
    | 0x2110, 1 => viewOpen sess v
    | 0x2110, _ => modSession sess (Session.setView (v % 4) View.closed)
    | 0x2210, _ => restartCmd (v == 2)
    | 0x3000, _ => makeDue v
    | 0x3040, _ => startRun v
    | 0x3050, _ => ringDoorbell v
    | 0x4080, _ => swEvent v
    | 0x5000, _ => calDue v
    | 0x5400, _ => clearFaultLog
    | 0xA010, 2 => deleteSeg v
    | _, _ => queueVerify v

/-! ### DOMAIN objects (R505, R52, R144, R428, R483) -/

/-- Bytes of the step table. -/
def stepTableBytes : Nat := 33554432

/-- Bytes of the banks. -/
def bankBytes : Nat := 33554432

/-- The refusals of a feed write of `len` bytes (R163). -/
def feedCodes (offset len : Nat) (s : State) : List Nat :=
  let n := offset / 2 ^ 48 % 65536
  let g := s.seg n
  [failIf (offset % 4 != 0 || len % 4 != 0) 0x03070000, failIf (g.kind != 5 || g.st != 2) (0x05210000 + n),
   failIf (g.kind == 5 && g.st == 2 && (feedIndex s n (bits offset 47 2) (len / 4)).isNone) (0x05200000 + n)]

/-- Is image `i` the one that runs (R483)? -/
def imageRuns (s : State) (i : Nat) : Bool := s.dev.power.running == i

/-- The refusals of a write of `len` bytes at `offset` of a DOMAIN object; `shape`: the code of a breach of its offset and length rules. -/
def domainCodes (shape index sub offset len : Nat) (s : State) : List Nat :=
  match index, sub with
  | 0x1400, k => keyCodes shape (k - 1) offset len s
  | 0x5100, i => [failIf (16777216 < offset + len) shape, failIf (imageRuns s (i - 1)) 0x06900000]
  | 0xA010, _ => failIf (offset != 0 || len != 32) shape :: storeCodes s
  | 0xA012, _ => contentCodes offset len s
  | 0xA020, _ => [failIf (64 < offset + len) shape, failIf (stageBusy s) 0x06030000]
  | 0xA021, _ =>
    [failIf (offset % 64 != 0 || len % 64 != 0 || stepTableBytes < offset + len) shape, failIf (stageBusy s) 0x06030000]
  | 0xA040, _ => feedCodes offset len s
  | 0xA050, _ => if bankBytes < offset + len then [shape] else bankContentCodes offset len s
  | _, _ => [failIf (16 < offset + len) shape]

/-- `d` written at `offset` of a list of bytes. -/
def patch (old : List Byte) (offset : Nat) (d : List Byte) : List Byte := old.take offset ++ d ++ old.drop (offset + d.length)

/-- The effect of an accepted write of bytes to a DOMAIN object. -/
def domainEffect (sess index sub offset : Nat) (d : List Byte) (s : State) : State :=
  match index, sub with
  | 0x1400, k => writeKey (k - 1) d s
  | 0x5100, i => modPower (fun p => if i = 1 then { p with imageA := false } else { p with imageB := false }) s
  | 0xA010, _ => defineSeg d s
  | 0xA012, _ => writeContent offset d s
  | 0xA020, _ => stageSteps (64 * (s.session sess).val 0xA020 1 + offset) d s
  | 0xA021, _ => stageSteps offset d s
  | 0xA040, _ =>
    let n := offset / 2 ^ 48 % 65536
    match feedIndex s n (bits offset 47 2) (d.length / 4) with
    | some w => feedWords n w d s
    | none => s
  | 0xA050, _ => writeBanks offset d s
  | i, _ => setRw (key i 6) (leVal (patch (ipv6Addr s (i % 2)) offset d)) s

/-! ### A write request -/

/-- The rules of a write of a value of fixed size (R318, R319): bytes of a wrong size are no value. (DEDUCED, log 43.) -/
def valueCodes (o : Obj) (index sub : Nat) (d : List Byte) (s : State) : List Nat :=
  let v := leVal d
  if d.length != tySize o.ty then [0x03800000]
  else failIf (o.ty == .bool && 1 < v) 0x03810000 ::
  (match o.acc with
   | .rs => stageCodes index sub s
   | .rw => rwCodes index sub v s
   | .rwSess => rwCodes index sub v s
   | .cmd => cmdCodes index sub v s
   | .cmdSess => cmdCodes index sub v s
   | _ => [])

/-- May any session write an object of this access kind (Table 12-4)? -/
def anySession (a : Acc) : Bool := a == .rwSess || a == .cmdSess

/-- Rules on the object itself: existence, access kind, session, view, mooring dictionary (R317, R320, R337). -/
def objectCodes (r : Req) (index sub : Nat) (s : State) : List Nat :=
  failIf (mooring s && !inMooringDict index) 0x02060000 ::
  (match object index sub with
   | none => [if (rowsOf index).isEmpty then 0x02020000 else 0x02030000]
   | some o =>
     [failIf (o.acc == .ro) 0x02040000, failIf (o.acc != .ro && !anySession o.acc && !isHm s r.sess) 0x02010000,
      failIf r.view.isSome 0x02090000])

/-- Every rule on a write request. -/
def registerCodes (r : Req) (index sub offset : Nat) (d : List Byte) (s : State) : List Nat :=
  objectCodes r index sub s ++
  (match object index sub with
   | none => []
   | some o =>
     if o.acc == .ro then []
     else if o.ty == .domain then
       failIf (256 < d.length) 0x01160000 :: domainCodes 0x03850000 index sub offset d.length s ++
       (if index = 0xA010 then defineCodes offset d s else [])
     else valueCodes o index sub d s)

/-- The effect of an accepted write request. -/
def registerEffect (sess index sub offset : Nat) (d : List Byte) (s : State) : State :=
  match object index sub with
  | none => s
  | some o =>
    if o.ty == .domain then domainEffect sess index sub offset d s
    else
      let v := leVal d
      match o.acc with
      | .rs => stageValue index sub v s
      | .rw => setRw (key index sub) v s
      | .rwSess => setOwn sess (key index sub) v s
      | .cmd => cmdEffect sess index sub v s
      | .cmdSess => cmdEffect sess index sub v s
      | _ => s

/-- KEY_SLOT_WRITE (R350). -/
def execKeySlotWrite (t : Nat) (r : Req) (k : Fin 4) (offset : Nat) (data : List Byte) : State → Host.Outcome State Fault Refusal :=
  atEdge t (command r 0x1400 (fun s => failIf (256 < data.length) 0x01160000 :: keyCodes 0x03850000 k offset data.length s)
    (writeKey k data))

/-- KEY_RIGHTS_WRITE (R350). -/
def execKeyRightsWrite (t : Nat) (r : Req) (v : Nat) : State → Host.Outcome State Fault Refusal :=
  atEdge t (command r 0x1400 (rightsCodes v) (setRw (key 0x1400 5) v))

end Sys2Proof.Machine
end

