-- ==== Sys2Proof/Machine/Read.lean ====
section
/-! DEFINITION. What a read of each object returns (R279, R320, R336): the read-only objects are computed from the state. REGISTER_WRITE: one
access of a REQUEST to an object, a write or a read. -/

namespace Sys2Proof.Machine

/-- The units of a lost channel as of its loss (R459). (DEDUCED, log 47.) -/
def asOfLoss (c : Nat) (s : State) : State :=
  match s.dev.lostCopies.find? fun p => p.1 == c with
  | some (_, x) => modDev (fun d => { d with
      outs := tset c x.out d.outs, lines := x.lines.foldl (fun t p => tset p.1 p.2 t) d.lines,
      cmps := x.cmps.foldl (fun t p => tset p.1 p.2 t) d.cmps, senses := tset c x.sense d.senses, cals := tset c x.cal d.cals }) s
  | none => s

/-! ### Status words -/

/-- `OUT_STATUS` (Table 7-7). (DEDUCED, log 19.) -/
def outStatus (s : State) (c : Nat) : Nat :=
  let o := s.out c
  b2n o.enabled + 2 * b2n (o.parkCause != 0) + 4 * b2n o.seq.isSome + 8 * b2n o.rangePending + 16 * b2n o.limit + 32 * (o.det % 8) +
  256 * (o.modeIn % 4) + 1024 * (o.rangeIn % 4)

/-- `CMP_STATUS` (Table 8-10). -/
def cmpStatus (s : State) (j : Nat) : Nat :=
  let c := s.cmp j
  b2n (c.armed && !c.arming) + 2 * b2n c.asserted + 4 * b2n c.latched + 8 * b2n c.inBand + 16 * b2n c.arming + 32 * b2n c.thFail + 64 * b2n (blanked s j) +
  128 * b2n c.forced

/-- The PENDING bit of line `p`, as of the loss on a lost channel (R459). -/
def showsPending (s : State) (p : Nat) : Bool :=
  match s.dev.lostCopies.find? fun x => x.1 == p / 4 with
  | some (_, x) => x.pendingLines.contains p
  | none => linePending s p

/-- `LINE_STATUS` (Table 6-6). -/
def lineStatus (s : State) (p : Nat) : Nat :=
  let b := ballLevel s p
  let l := s.line p
  b2n (b == 1) + 2 * b2n l.trip + 4 * b2n (b == 2) + 8 * b2n (showsPending s p) + 16 * b2n (l.gated || l.railSafe)

/-- `REFCLK_STATUS` and `SYNC_STATUS` (Table 10-9). -/
def refclkStatus (s : State) : Nat :=
  let c := s.dev.clock
  b2n c.refPresent + 2 * b2n c.locked + 4 * b2n c.holdover + 8 * b2n c.relocking

def syncStatus (s : State) : Nat :=
  let c := s.dev.clock
  b2n (c.syncSource == 1) + 2 * b2n c.epochSet + 4 * b2n c.syncMissed + 8 * b2n (c.syncOffset != 0)

/-- `DCH_FLAGS` (Table 14-11). -/
def dchFlags (s : State) (m : Nat) : Nat :=
  let c := s.chan m
  b2n c.marginal + 2 * b2n c.doubled + 4 * b2n (c.owed.any fun p => p.2 != 0) + 8 * b2n (!c.inOrder.isEmpty)

/-- `BANK_STATE` (Table 15-13). -/
def bankState (s : State) (b : Nat) : Nat :=
  let k := s.bank b
  b2n k.retention + 2 * b2n k.waking + 4 * b2n (s.dev.scratch.march.any fun r => r.bank == b && r.window.isSome) +
  8 * b2n (bankOwner s b == 0x43) + 16 * b2n k.retired + 32 * b2n k.repair

/-- `CAL_STATE` (Table 16-6). -/
def calState (s : State) (c : Nat) : Nat :=
  let x := s.cal c
  if decide (x.retired.length ≥ 3) then 4 else if inPass s c then 2 else if x.pass.isSome then 3 else if x.dueAt.isSome then 1 else 0

/-- Bits of the units below `n` that satisfy `p`. -/
def unitMask (n : Nat) (p : Nat → Bool) : Nat := (List.range n).foldl (fun m k => if p k then m + 2 ^ k else m) 0

/-- The level of ball TRIGk: as driven, or as sampled (R259, R260). -/
def trigLevel (s : State) (k : Nat) : Bool :=
  if trigOut s k then pulseActive s k != bit (trigCfg s k) 3 else (s.trig k).level

/-- The input and slot that select line `v` (R252). -/
def lineConsumer (s : State) (v : Nat) : Option (Nat × Nat) :=
  (List.range 1248).findSome? fun i => ([0, 1] : List Nat).findSome? fun ab =>
    let w := slotWord s.dev.dict.active i ab
    if slotEn w && slotSel w == v then some (i, ab) else none

/-- Assertions of a line so far: those of past edges have been counted. -/
def lineAsserts (s : State) (v : Nat) : Nat :=
  wrap32 (tget 0 v s.dev.fabric.counts + (s.dev.fabric.sched.filter fun x => x.1 ≤ s.now && x.2 == v).length)

/-- Blocks not held, and the longest free run (R38). -/
def freeBlocks (s : State) : Nat := storeBlocks - ((heldRuns s 65536).map fun r => r.2.2).sum

def largestFree (s : State) : Nat :=
  let l := heldRuns s 65536
  let starts := (0 :: l.map fun r => r.2.1 + r.2.2).filter fun a => (overlaps l a 1).isEmpty && a < storeBlocks
  (starts.map fun a => ((l.map fun r => r.2.1).filter (a ≤ ·)).foldl min storeBlocks - a).foldl max 0

/-! ### Values -/

/-- All ones of a number of `n` bits, where a condition does not hold. -/
def orOnes (n : Nat) (o : Option Nat) : Nat := o.getD (2 ^ n - 1)

/-- The STREAM or LIVE segment of the current step (Table 5-6), which WAITING, HOLDING and STOPPED keep. -/
def currentSource (s : State) (e : Nat) : Option Nat :=
  let c := s.core e
  let n := c.play.entry.segment
  if (c.active || c.st == .stopped) && sourceSeg s n then some n else none

/-- Read-only values of the block of engine `e` at offset `off`. -/
def engineRo (s : State) (e off sub : Nat) : Nat :=
  let c := s.core e
  let src := c.src
  let live := (currentSource s e).any fun n => (s.seg n).kind == 6
  match off, sub with
  | 0x00, 2 => engineState s e
  | 0x00, 6 => c.stopCause
  | 0x00, 7 => c.play.step
  | 0x00, 8 => c.play.tag
  | 0x00, 9 => c.play.pass % 2 ^ 24
  | 0x00, 10 => orOnes 8 (c.pend.atEnd.map JumpReq.target)
  | 0x00, 11 => c.cnt.ignored
  | 0x00, 12 => c.cnt.late
  | 0x00, 13 => c.cnt.releases
  | 0x00, 14 => c.holdCause
  | 0x02, k => c.loop (k - 1)
  | 0x05, 1 => pilotBank s e
  | 0x05, 2 => e % 2 * 32768
  | 0x06, 7 => c.vals.rampIndex
  | 0x06, 8 => c.vals.inc
  | 0x06, 9 => c.vals.fund
  | 0x06, 10 => c.play.x
  | 0x06, 11 => c.vals.phi
  | 0x06, 12 => ofInt 32 c.vals.scale
  | 0x06, 13 => ofInt 32 c.vals.offset
  | 0x06, 14 => c.cnt.sat
  | 0x06, 15 => c.cnt.satLast
  | 0x06, 16 => c.cnt.muted
  | 0x07, 1 => orOnes 32 (currentSource s e)
  | 0x07, 2 => match currentSource s e with | some n => sourceFill s e n | none => 0
  | 0x07, 3 => playFill s e
  | 0x07, 4 => b2n src.panic
  | 0x07, 5 => src.panics
  | 0x07, 6 => src.lows
  | 0x07, 8 => if live then match currentSource s e with | some n => liveRl c n % 2 ^ 32 | none => 0 else 0
  | 0x07, 9 => src.overruns
  | 0x07, 10 => b2n src.latch
  | 0x07, 11 => src.underruns
  | 0x07, 12 => src.discarded
  | 0x07, 13 => src.ur.step
  | 0x07, 14 => src.ur.tag
  | 0x07, 15 => src.ur.pass
  | 0x07, 16 => src.ur.l0
  | 0x07, 17 => src.ur.l1
  | 0x07, 18 => src.ur.l2
  | 0x07, 19 => src.ur.l3
  | 0x07, 20 => src.ur.position
  | 0x07, 21 => src.ur.index
  | 0x07, 22 => src.ur.time
  | 0x09, k => if k ≤ 12 then (s.input (12 * e + (k - 1))).coalesce else (s.input (12 * e + (k - 13))).drops
  | 0x7F, 1 => (s.engine e).phys
  | 0x7F, 2 => (s.engine e).takeovers
  | _, _ => 0

/-- Read-only values of the block of channel `c` at offset `off`. -/
def channelRo (s : State) (c off sub : Nat) : Nat :=
  let o := s.out c
  let x := s.sense c
  let line := fun (k : Nat) =>
    let p := 4 * c + k
    let l := s.line p
    if sub = 14 then lineStatus s p else if sub = 15 then l.trips else if sub = 16 then l.dropped else if sub = 17 then l.clearFails
    else l.ignoredFires
  let cmp := fun (k : Nat) =>
    let j := 4 * c + k
    if sub = 7 then cmpStatus s j else if sub = 9 then (s.cmp j).asserts else (s.cmp j).clearFails
  match off, sub with
  | 0x00, 5 => outStatus s c
  | 0x00, 6 => o.parkCause
  | 0x00, 7 => o.supFlags
  | 0x00, 10 => o.dac
  | 0x00, 11 => o.compliance
  | 0x00, 12 => o.openCnt
  | 0x00, 13 => o.overcurrent
  | 0x00, 14 => o.rangeChanges
  | 0x10, 3 => ofInt 32 x.armCodeA
  | 0x11, 3 => ofInt 32 x.armCodeB
  | 0x12, _ => cmp 0
  | 0x13, _ => cmp 1
  | 0x14, _ => cmp 2
  | 0x15, _ => cmp 3
  | 0x18, 11 => x.skipped
  | 0x18, k => ofInt 32 (tget 0 (k - 2) x.results)
  | 0x19, 5 => x.checkFails
  | 0x30, _ => line 0
  | 0x31, _ => line 1
  | 0x32, _ => line 2
  | 0x33, _ => line 3
  | 0x37, k => if k ≤ 12 then (s.input (768 + 4 * c + (k - 9))).coalesce else (s.input (768 + 4 * c + (k - 13))).drops
  | 0x40, 1 => calState s c
  | 0x40, 2 => (s.cal c).count
  | 0x40, 3 => (s.cal c).time
  | 0x40, 4 => ofInt 32 (s.cal c).tCal
  | 0x40, 5 => (s.cal c).source
  | 0x40, 6 => (s.cal c).discards
  | 0x40, 7 => (s.cal c).retired.length
  | 0x40, 9 => gainK s c
  | 0x40, 10 => ofInt 32 (offsetC s c)
  | _, _ => 0

/-- Read-only values of a Hawser link. -/
def linkRo (l : HwLink) (sub : Nat) : Nat :=
  match sub with
  | 1 => b2n l.lane0 + 2 * b2n l.lane1 + 4 * b2n l.up
  | 2 => l.neighbour
  | 3 => l.delayPs
  | 4 => l.err0
  | 5 => l.err1
  | 6 => l.laneLosses
  | 7 => l.linkLosses
  | _ => 0

/-- Read-only values of the device and store objects, as session `sess` reads them. -/
def deviceRo (s : State) (sess index sub : Nat) : Nat :=
  let d := s.dev
  let x := s.session sess
  let k := d.clock
  let cm := d.dict.commit
  let rg := d.ring
  let stream := s.stream (x.val 0xA040 2)
  let isStream := (s.seg (x.val 0xA040 2)).kind == 5
  match index, sub with
  | 0x1000, 3 => 0x4300
  | 0x1000, 4 => 0x4201
  | 0x1000, 5 => 0x4102
  | 0x1000, 7 => if d.power.running = 0xFF then Config.romVersion else Config.fwVersion (if d.power.running = 0 then d.power.imageIdA else d.power.imageIdB)
  | 0x2000, 1 => refclkStatus s
  | 0x2000, 2 => k.refLosses
  | 0x2000, 3 => holdoverNs s
  | 0x2000, 4 => b2n k.dramClkLocked
  | 0x2000, 5 => Config.mclkKhz
  | 0x2000, 6 => k.lclkPort
  | 0x2001, 1 => k.syncSource
  | 0x2001, 2 => k.n
  | 0x2001, 3 => k.n / 400000
  | 0x2001, 4 => syncStatus s
  | 0x2001, 5 => k.syncSlips
  | 0x2001, 6 => k.syncMisses
  | 0x2001, 7 => ofInt 32 k.syncOffset
  | 0x2001, 9 => s.time
  | 0x2020, 1 => rg.devpos
  | 0x2020, 2 => rg.size
  | 0x2020, 3 => rg.st
  | 0x2020, 4 => rg.master
  | 0x2020, 5 => rg.members
  | 0x2020, 7 => ofInt 32 rg.alignPs
  | 0x2020, 8 => rg.alignSteps
  | 0x2020, 9 => rg.error
  | 0x2021, 2 => rg.commit.st
  | 0x2021, 3 => rg.commit.result
  | 0x2021, 4 => rg.commit.failPos
  | 0x2021, 5 => rg.commit.id
  | 0x2021, 6 => rg.commit.applied
  | 0x2022, _ => linkRo rg.east sub
  | 0x2023, _ => linkRo rg.west sub
  | 0x2024, _ => rg.txDrops
  | 0x2101, _ => cm.result
  | 0x2103, 1 => cm.st
  | 0x2103, 2 => cm.epoch
  | 0x2103, 3 => cm.tickN
  | 0x2103, 4 => cm.tickTime
  | 0x2103, 5 => d.dict.changed.length
  | 0x2103, 6 => d.dict.stepChanged.length
  | 0x2103, 7 => cm.failObj
  | 0x2103, 9 => cm.duration
  | 0x2200, k => ofInt 32 (tget 0 (k - 1) d.power.railMv)
  | 0x2201, 1 => b2n d.power.brace
  | 0x2201, 2 => d.power.braces
  | 0x2201, 3 => d.power.braceRails
  | 0x2201, 4 => ofInt 32 d.power.braceMin
  | 0x2201, 5 => d.power.analogResets
  | 0x2201, 6 => d.power.below
  | 0x2210, 1 => d.power.resetCause
  | 0x2210, 2 => d.power.bootUsed
  | 0x2210, 3 => d.power.startFail
  | 0x2210, 4 => d.power.mooringReason
  | 0x2210, 5 => d.power.running
  | 0x2210, 6 => d.power.duration
  | 0x2210, 7 => d.power.starts
  | 0x2220, 2 => ofInt 32 d.power.tempMax
  | 0x2220, 3 => d.power.tempDie
  | 0x2600, 1 => b2n (d.faults.pe64 == 0xFF) + b2n (d.faults.pe65 == 0xFF)
  | 0x2600, 2 => d.faults.pe64
  | 0x2600, 3 => d.faults.pe65
  | 0x2600, 4 => unitMask 64 d.faults.retired.contains
  | 0x2600, 5 => b2n (d.faults.retired.contains 64) + 2 * b2n (d.faults.retired.contains 65)
  | 0x3000, 2 => d.dram.ratePending
  | 0x3000, 6 => budget (slowestRate s)
  | 0x3000, 7 => demand s d.dict.active d.dict.stepsActive false
  | 0x3000, 8 => unitMask 64 fun e => (s.core e).src.panic
  | 0x3000, 9 => cm.demand
  | 0x3010, 1 => storeBlocks
  | 0x3010, 2 => freeBlocks s
  | 0x3010, 3 => largestFree s
  | 0x3010, 4 => (d.store.segs.filter fun p => p.2.st != 0).length
  | 0x3010, 5 => loadingCount s
  | 0x3030, 1 => d.scratch.corrected
  | 0x3030, 2 => d.scratch.uncorrectable
  | 0x3030, 3 => unitMask 64 fun b => (s.bank b).retired
  | 0x3030, 4 => unitMask 64 fun b => (s.bank (64 + b)).retired
  | 0x3031, m => tget 0 (m - 1) d.scratch.conflicts
  | 0x3040, 2 => match d.scratch.march with | some r => if r.destructive then 2 else 1 | none => 0
  | 0x3040, 5 => d.scratch.marchResult
  | 0x3040, 6 => d.scratch.marchFailBit
  | 0x3040, 7 => d.scratch.abandoned
  | 0x3040, 8 => d.scratch.runs
  | 0x3050, 10 => d.scratch.berth.status
  | 0x3050, 12 => d.scratch.berth.accesses
  | 0x3050, 13 => d.scratch.berth.busies
  | 0x4000, 2 => lineAsserts s (x.val 0x4000 1)
  | 0x4000, 3 => match lineConsumer s (x.val 0x4000 1) with | some p => p.1 | none => 0xFFFF
  | 0x4000, 4 => match lineConsumer s (x.val 0x4000 1) with | some p => p.2 | none => 0xFF
  | 0x4080, 2 => d.fabric.swWrites
  | 0x5000, 4 => d.calSwaps
  | 0x5000, 5 => d.calLast
  | 0x5000, 6 => unitMask 64 fun c => (s.cal c).source == 3
  | 0x5000, 7 => unitMask 64 fun c => (s.cal c).fallback
  | 0x5100, 4 => b2n d.power.imageA + 2 * b2n d.power.imageB
  | 0x5400, 2 => d.faults.log.length
  | 0x5400, 4 => d.faults.discarded
  | 0x5600, 6 => d.faults.recoveries
  | 0x5600, 7 => lostChannels s
  | 0x5600, 8 => d.faults.suppressed
  | 0x5600, k => tget 0 (k - 1) d.faults.classes
  | 0x5800, 1 => d.faults.reasons
  | 0x5800, 2 => d.faults.since
  | 0x5800, 3 => d.faults.requests
  | 0xA010, 4 => verifyResult s
  | 0xA010, 7 => d.store.errorOffset
  | 0xA020, 4 => cm.stepCheck
  | 0xA040, 3 => if isStream then stream.wp else 0
  | 0xA040, 4 => if isStream then stream.rp else 0
  | _, _ => 0

/-- Read-only values of the numbered units of the device: DRAM channels, banks, TRIG balls, timers, outbound inputs. -/
def unitRo (s : State) (index sub : Nat) : Nat :=
  if 0x3020 ≤ index && index < 0x3026 then
    let c := s.chan (index - 0x3020)
    match sub with
    | 1 => c.st
    | 2 => dchFlags s (index - 0x3020)
    | 3 => c.rate
    | 4 => ofInt 32 c.temp
    | 5 => c.trains
    | 6 => c.trainTime
    | 7 => c.corrInline
    | 8 => c.corrLink
    | 9 => c.freezes
    | 13 => c.neighbours
    | 14 => c.postponed
    | 15 => c.resilver
    | _ => c.writeLog.length
  else if 0x3100 ≤ index && index < 0x3180 then
    let b := s.bank (index - 0x3100)
    match sub with
    | 3 => bankState s (index - 0x3100)
    | 4 => b.spareUsed
    | 5 => b.ownerFaults
    | 6 => b.lastMaster
    | 7 => b.wakeStalls
    | 8 => b.borrowStalls
    | _ => b.replaces
  else if 0x4010 ≤ index && index < 0x4030 then
    let k := index - 0x4010
    match sub with
    | 5 => b2n (trigLevel s k)
    | 6 => (s.input (1024 + k)).coalesce
    | _ => (s.input (1024 + k)).drops
  else if 0x4040 ≤ index && index < 0x4080 then
    let k := index - 0x4040
    let a := s.input (1056 + k)
    let b := s.input (1120 + k)
    match sub with
    | 10 => (s.timer k).st
    | 11 => (s.timer k).fires
    | 12 => sat32 (a.coalesce + b.coalesce)
    | 13 => sat32 (a.drops + b.drops)
    | 14 => (s.timer k).divAcc
    | _ => (s.timer k).ignored
  else if 0x4090 ≤ index && index < 0x40D0 then
    let i := s.input (1184 + (index - 0x4090))
    if sub = 3 then i.coalesce else i.drops
  else 0

/-- Is the index one of numbered units? -/
def isUnitIndex (index : Nat) : Bool :=
  (0x3020 ≤ index && index < 0x3026) || (0x3100 ≤ index && index < 0x3180) ||
  (0x4010 ≤ index && index < 0x4030) || (0x4040 ≤ index && index < 0x4080) || (0x4090 ≤ index && index < 0x40D0)

/-- The highest subindex of an index, which its subindex 0 returns. -/
def highestSub (index : Nat) : Nat := (rowsOf index).foldl (fun m r => max m r.hi) 0

/-- The read-only value of index:sub. -/
def roValue (s : State) (sess index sub : Nat) : Nat :=
  if sub = 0 && index != 0x2101 then highestSub index
  else if 0x6000 ≤ index && index < 0x8000 then engineRo s ((index - 0x6000) / 0x80) ((index - 0x6000) % 0x80) sub
  else if 0x8000 ≤ index && index < 0xA000 then
    let c := (index - 0x8000) / 0x80
    channelRo (asOfLoss c s) c ((index - 0x8000) % 0x80) sub
  else match linkObject s sess index sub with
    | some v => v
    | none => if isUnitIndex index then unitRo s index sub else deviceRo s sess index sub

/-- The value that a read of an object of fixed size returns (Table 12-4). -/
def readValue (s : State) (sess : Nat) (staged : Bool) (index sub : Nat) : Nat :=
  match object index sub with
  | some o =>
    match o.acc with
    | .ro => roValue s sess index sub
    | .rs => if staged then s.stg index sub else s.act index sub
    | .rw => if addressKey (key index sub) then tget (ipv4Default s (index % 2)) (key index sub) s.dev.dict.rw else s.rwv index sub
    | .rwSess => (s.session sess).val index sub
    | _ => 0
  | none => 0

/-! ### DOMAIN and STR objects -/

/-- Little-endian bytes of 32-bit words. -/
def wordBytes (ws : List Nat) : List Byte := ws.flatMap (leBytes 4)

/-- A directory entry (Table 2-1). -/
def segEntry (s : State) (n : Nat) : List Byte :=
  let g := s.seg n
  wordBytes [g.kind + 16 * g.st + 256 * (if g.st = 3 then g.error else 0) + 65536 * b2n g.crcFault, g.addr, g.lengthM1, g.items, g.hint,
    lockCount s n % 2 ^ 24, g.crc, alloyRefs s n + 65536 * playingCount s n]

/-- An entry of the fault log (Table 17-8), with its CHECK. -/
def logEntryBytes (e : LogEntry) : List Byte :=
  let b := wordBytes [e.cls + 256 * e.kind + 65536 * e.cause, e.source + 65536 * e.count] ++ leBytes 8 e.location ++ leBytes 8 e.time ++
    leBytes 8 e.n ++ wordBytes [e.start, 0] ++ leBytes 8 e.p0 ++ leBytes 8 e.p1 ++ wordBytes [0]
  b ++ leBytes 4 (crc32c b)

/-- A calibration table in the layout of Table 16-3, with its CHECK. -/
def calRecordBytes (s : State) (c : Nat) : List Byte :=
  let x := s.cal c
  let t := x.table
  let h := fun (l : List Int) (n : Nat) => (List.range n).flatMap fun i => leBytes 2 (ofInt 16 (listAt 0 i l))
  let seq := match x.source with
    | 0 => (x.copyA.map CalRec.seq).getD 0
    | 1 => (x.copyB.map CalRec.seq).getD 0
    | _ => 0
  let retired := x.retired.foldl (fun a k => a + 2 ^ k) 0
  let b := wordBytes [1 + 256 * c, seq] ++ leBytes 8 x.time ++ leBytes 4 (ofInt 32 x.tCal) ++
    ((List.range 66).map fun i => BitVec.ofInt 8 (listAt 0 i t.trims)) ++ [0, 0] ++
    ((List.range 5).flatMap fun r => leBytes 4 (listAt 0x400000 r t.k) ++ leBytes 4 (ofInt 16 (listAt 0 r t.oc))) ++
    h t.thOffset 8 ++ h t.senseCorr 4 ++ leBytes 2 (ofInt 16 t.monOffset) ++ leBytes 2 (ofInt 16 t.monGain) ++ leBytes 12 retired ++
    List.replicate 84 0
  b ++ leBytes 4 (crc32c b)

/-- The freeze record (Table 14-5); empty unless frozen. Its command trace is what DRAM timing made. -/
def freezeBytes (s : State) (m : Nat) : List Byte :=
  let c := s.chan m
  match c.record with
  | some r => wordBytes [r.cause + 16 * r.op, r.bank + 16 * r.row + 2 ^ 22 * r.col] ++ leBytes 8 r.addr ++ wordBytes [r.syndrome, 0] ++
      leBytes 8 r.time ++ (List.range 128).flatMap fun k => leBytes 4 (Config.freezeTrace m c.freezes k)
  | none => []

/-- The bytes of a DOMAIN or STR object, for the objects whose size is small; the stores are read by range (`readBytes`). -/
def domainBytes (s : State) (sess : Nat) (index sub : Nat) : List Byte :=
  if 0x8000 ≤ index && index < 0xA000 then
    let c := (index - 0x8000) / 0x80
    let s := asOfLoss c s
    if sub = 8 then (s.cal c).map.map fun k => BitVec.ofNat 8 k else calRecordBytes s c
  else if 0x3020 ≤ index && index < 0x3026 then
    (if sub = 11 then (s.chan (index - 0x3020)).set else freezeBytes s (index - 0x3020))
  else if index = 0x1100 || index = 0x1101 then ipv6Addr s (index - 0x1100)
  else
    match index, sub with
    | 0x1000, 1 => [0x55, 0x39, 0x36, 0x36, 0x34]
    | 0x1000, 2 => [0x55, 0x68, 0x6C, 0x79, 0x74, 0x68]
    | 0x1000, _ => Config.serial
    | 0x4000, _ => s.dev.dict.commit.cycle.flatMap (leBytes 2)
    | 0x5400, _ => (s.dev.faults.log.flatMap logEntryBytes) ++ List.replicate (262144 - 64 * s.dev.faults.log.length) 0
    | 0xA010, _ => segEntry s ((s.session sess).val 0xA010 5)
    | 0xA030, 1 => (List.range 65600).flatMap fun k => leBytes 4 (ofInt 32 (tap (k / 64) (k % 64)))
    | 0xA030, _ => (List.range 47).flatMap fun i => leBytes 4 (ofInt 32 (halfband i))
    | _, _ => []

/-- `len` bytes at `offset` of a DOMAIN object. (DESIGN CHOICE, log 7.) -/
def readBytes (s : State) (sess : Nat) (staged : Bool) (index sub offset len : Nat) : List Byte :=
  let table := fun (g : Bool) => if g then s.dev.dict.stepsStaged else s.dev.dict.stepsActive
  match index, sub with
  | 0xA012, _ => storeBytes s ((s.seg (offset / 2 ^ 48 % 65536)).addr * 4096 + offset % 2 ^ 48) len
  | 0xA020, 3 => mgets 0 (64 * (s.session sess).val 0xA020 1 + offset) len (table true)
  | 0xA020, _ => mgets 0 (64 * (s.session sess).val 0xA020 1 + offset) len (table staged)
  | 0xA021, _ => mgets 0 offset len (table staged)
  | 0xA050, _ => mgets 0 offset len s.dev.scratch.content
  | _, _ => ((domainBytes s sess index sub).drop offset).take len

/-- The refusals of a read of `len` bytes at `offset` of a DOMAIN object; `shape`: the code of a breach of its offset and length rules. -/
def domainReadCodes (shape sess index sub offset len : Nat) (s : State) : List Nat :=
  match index, sub with
  | 0xA012, _ =>
    let n := offset / 2 ^ 48 % 65536
    let g := s.seg n
    [failIf (g.st != 2 && g.st != 3) (0x06040000 + n), failIf (g.st != 0 && decide (g.size < offset % 2 ^ 48 + len)) 0x03060000]
  | 0xA020, _ => [failIf (decide (64 < offset + len)) shape]
  | 0xA021, _ => [failIf (offset % 64 != 0 || len % 64 != 0 || decide (stepTableBytes < offset + len)) shape]
  | 0xA050, _ => if bankBytes < offset + len then [shape] else bankContentCodes offset len s
  | _, _ => [failIf (decide ((domainBytes s sess index sub).length < offset + len)) shape]

/-- The rules of a read request on the object itself (R317, R320, R321, R337). (DESIGN CHOICE, log 7.) -/
def readObjectCodes (r : Req) (index sub : Nat) (s : State) : List Nat :=
  failIf (mooring s && !inMooringDict index) 0x02060000 ::
  (match object index sub with
   | none => [if (rowsOf index).isEmpty then 0x02020000 else 0x02030000]
   | some o =>
     [failIf (o.acc == .wo || o.acc == .cmd || o.acc == .cmdSess) 0x02050000, failIf (r.staged && o.acc != .rs) 0x02070000,
      failIf (r.staged && r.view.isSome) 0x02080000, failIf (r.view.isSome && (index == 0xA012 || index == 0xA050)) 0x02090000,
      failIf (r.view.any fun k => ((s.session r.sess).view k).st != 2) 0x06500000])

/-- The module as of the latest tick of the quay of an engine or channel object (R279); any other object is read as it is. -/
def asOfTick (index : Nat) (s : State) : State :=
  if 0x6000 ≤ index && index < 0xA000 then
    let q := (index - 0x6000) / 0x80 % 64 / 8
    if s.now % s.grid q = 0 then s else { s with dev := tget s.dev q s.ticked }
  else s

/-- The snapshot of the open view that a read names. -/
def viewSnap (r : Req) (s : State) : Option Snap := r.view.bind fun k => ((s.session r.sess).view k).snap

/-- The state that a read request of an object reads: that of its view, or this one (R279, R336). -/
def readState (r : Req) (index : Nat) (s : State) : State :=
  asOfTick index (match viewSnap r s with
    | some d => { s with dev := d.dev, ticked := d.ticked }
    | none => s)

/-- The value of fixed size that a read request returns: in a view, an object of the link or of the session is as it was at V (R336). -/
def readNow (r : Req) (index sub : Nat) (s : State) : Nat :=
  match (viewSnap r s).bind fun d => d.vals.find? fun p => p.1 == key index sub with
  | some p => p.2
  | none => readValue (readState r index s) r.sess r.staged index sub

/-! ### One access of a REQUEST (R320, R347) -/

/-- The refusals of a READ: at most 256 bytes of a DOMAIN object. -/
def readCodes (r : Req) (index sub offset count : Nat) (s : State) : List Nat :=
  readObjectCodes r index sub s ++
  (if (object index sub).any fun o => o.ty == .domain then
    failIf (256 < count) 0x01160000 :: failIf (count == 0) 0x03850000 ::
      (if r.view.isSome && (viewSnap r s).isNone then [] else domainReadCodes 0x03850000 r.sess index sub offset count (readState r index s))
   else [])

/-- DATA of a READ (Table 13-4). -/
def readData (r : Req) (index sub offset count : Nat) (s : State) : List Byte :=
  match object index sub with
  | none => []
  | some o =>
    match o.ty with
    | .domain => readBytes (readState r index s) r.sess r.staged index sub offset count
    | .str => domainBytes (readState r index s) r.sess index sub
    | _ => leBytes (tySize o.ty) (readNow r index sub s)

/-- The refusals, the effect and DATA of an access. -/
def accessCodes (r : Req) (index sub offset : Nat) (a : Access) (s : State) : List Nat :=
  match a with
  | .write d => registerCodes r index sub offset d s
  | .read count => readCodes r index sub offset count s
  | .malformed => [0x01010000]

def accessEffect (r : Req) (index sub offset : Nat) (a : Access) (s : State) : State :=
  match a with
  | .write d => registerEffect r.sess index sub offset d s
  | _ => s

def accessData (r : Req) (index sub offset : Nat) (a : Access) (s : State) : List Byte :=
  match a with
  | .read count => readData r index sub offset count s
  | _ => []

/-- A read that names an open view restarts the view's time, whatever it answers (R337). -/
def accessTouch (r : Req) (a : Access) (s : State) : State :=
  match a with
  | .read _ => touchView r s
  | _ => s

/-- REGISTER_WRITE (R320, R347): a WRITE or a READ of one object. A view opens at an edge whose commit has applied (R335). (DEDUCED, log 18;
DESIGN CHOICE, log 7.) -/
def execRegisterWrite (t : Nat) (r : Req) (index sub offset : Nat) (a : Access) : State → Host.Outcome State Fault Refusal :=
  let f := requestRun r fun s =>
    execute r (accessCodes r index sub offset a) (accessEffect r index sub offset a) (accessData r index sub offset a) (accessTouch r a s)
  if index = 0x2110 then atTick t f else atEdge t f

end Sys2Proof.Machine
end

