-- ==== Sys2Proof/Machine/Cargo.lean ====
section
/-! DEFINITION. Cargo transfers (R358 to R362, R483). -/

namespace Sys2Proof.Machine

/-! ### Transfers of a session -/

/-- Transfer `num` leaves the open transfers. -/
def dropTransfer (k num : Nat) : State → State :=
  modSession k fun x => { x with transfers := x.transfers.filter fun a => a.num != num }

/-- The write buffer of a controller of the sample store that serves is full (R374). -/
def writesFull (s : State) : Bool := ([0, 1, 2, 3] : List Nat).any fun m => controllerRuns s m && 64 ≤ writesIn (s.chan m).work.queue

/-- The window that the device grants: 256 KiB (R359), or one segment for content of the store that finds a write buffer full (R374).
(DESIGN CHOICE, log 60.) -/
def grantWindow (s : State) (key_ seg : Nat) : Nat := if key_ / 256 = 0xA012 && writesFull s then seg else 262144

/-- The device sends a CARGO_ACK for transfer `a`: its window is the one granted now. -/
def sendAck (k : Nat) (a : Transfer) (code : Nat) (s : State) : State :=
  let w := grantWindow s a.key a.segSize
  modSession k (fun x => { x with cargoAck := some (a.num, a.acked, w, code) }) (modTransfer k a.num (fun a => { a with window := w }) s)

/-- A transfer ends with `code`. -/
def endTransfer (k : Nat) (a : Transfer) (code : Nat) (s : State) : State := sendAck k a code (dropTransfer k a.num s)

/-! ### Opening (R358) -/

/-- Is SEG_SIZE a power of two from 1,024 to 8,192? -/
def segSizeOk (v : Nat) : Bool := v == 1024 || v == 2048 || v == 4096 || v == 8192

/-- The SEG_SIZE that applies: at most 1,024 while the `MTU` that the port has taken at the start is 1,500 (R343). -/
def segSizeFor (s : State) (port v : Nat) : Nat := if (s.port port).cfg.mtu = 1500 then 1024 else v

/-- The refusals that every open shares: an object that is no DOMAIN, a wrong SEG_SIZE, the limits of open transfers. (DEDUCED, log 48.) -/
def openCodes (r : Req) (index sub segSize : Nat) (s : State) : List Nat :=
  let t := (s.session r.sess).nextTransfer
  [failIf (!segSizeOk segSize || (object index sub).any fun o => o.ty != .domain) (0x01120000 + t),
   failIf (4 ≤ (s.session r.sess).transfers.length || 16 ≤ openTransfers s) 0x01110000]

/-- Is the object a DOMAIN? -/
def isDomain (index sub : Nat) : Bool := (object index sub).any fun o => o.ty == .domain

/-- Does an access to `SEG_CONTENT` reach past the content size (R52)? -/
def pastContent (offset len : Nat) (s : State) : Bool :=
  let g := s.seg (offset / 2 ^ 48 % 65536)
  g.st != 0 && decide (g.size < offset % 2 ^ 48 + len)

/-- The refusals of a write transfer by its object: a breach of its offset and length rules is one of the open (R505); a feed meets its window segment
by segment. -/
def openWriteCodes (r : Req) (index sub offset total : Nat) (s : State) : List Nat :=
  if !isDomain index sub then []
  else
    let shape := 0x01120000 + (s.session r.sess).nextTransfer
    if index = 0xA040 then
      let n := offset / 2 ^ 48 % 65536
      [failIf (offset % 4 != 0 || total % 4 != 0) shape, failIf ((s.seg n).kind != 5 || (s.seg n).st != 2) (0x05210000 + n)]
    else failIf (index == 0xA012 && pastContent offset total s) shape :: domainCodes shape index sub offset total s

/-- A new transfer of session `k`, opened on port `p`. -/
def newTransfer (k p : Nat) (write : Bool) (key_ offset total seg window : Nat) (bytes : Mem) (s : State) : State :=
  let n := s.now
  modSession k (fun x => { x with
    transfers := x.transfers ++ [{
      num := x.nextTransfer, write := write, key := key_, offset := offset, total := total, segSize := seg, acked := 0,
      window := window, got := [], bytes := bytes, lastAccepted := n, lastAdvance := n, resends := 0, sentTo := 0, lastPort := 1 - p,
      sends0 := 0, sends1 := 0 }],
    nextTransfer := x.nextTransfer + 1 }) s

/-- DATA of the response to an open (Table 13-4): TRANSFER, WINDOW and SEG_SIZE. -/
def openData (num window seg : Nat) : List Byte := leBytes 2 num ++ [0, 0] ++ leBytes 4 window ++ leBytes 4 seg

/-- CARGO_OPEN_WRITE (R358). -/
def execCargoOpenWrite (t : Nat) (r : Req) (index sub offset total segSize : Nat) : State → Host.Outcome State Fault Refusal :=
  let k := key index sub
  atEdge t (requestWith r
    (fun s => objectCodes r index sub s ++ openCodes r index sub segSize s ++ openWriteCodes r index sub offset total s)
    (fun s =>
      let seg := segSizeFor s r.port segSize
      newTransfer r.sess r.port true k offset total seg (grantWindow s k seg) [] s)
    (fun s =>
      let seg := segSizeFor s r.port segSize
      openData (s.session r.sess).nextTransfer (grantWindow s k seg) seg))

/-- The refusals of a read transfer by its object. -/
def openReadCodes (r : Req) (index sub offset total : Nat) (s : State) : List Nat :=
  let shape := 0x01120000 + (s.session r.sess).nextTransfer
  if isDomain index sub then
    failIf (index == 0xA012 && pastContent offset total s) shape :: domainReadCodes shape r.sess index sub offset total (readState r index s)
  else []

/-- CARGO_OPEN_READ (R358, R360): the bytes are those of the edge of the open, or of the view; the first segments go out. -/
def execCargoOpenRead (t : Nat) (r : Req) (index sub offset total segSize : Nat) : State → Host.Outcome State Fault Refusal :=
  atEdge t (requestRun r fun s =>
    execute r (fun s => readObjectCodes r index sub s ++ openCodes r index sub segSize s ++ openReadCodes r index sub offset total s)
      (fun s =>
        let seg := segSizeFor s r.port segSize
        let data := readBytes (readState r index s) r.sess r.staged index sub offset total
        let num := (s.session r.sess).nextTransfer
        sendSegments r.sess num (newTransfer r.sess r.port false (key index sub) offset total seg (16 * seg) (mputs 0 0 data []) s))
      (fun s =>
        let seg := segSizeFor s r.port segSize
        openData (s.session r.sess).nextTransfer (16 * seg) seg)
      (touchView r s))

/-! ### Segments (R359, R361) -/

/-- The offset in its object of position `p` of a transfer; the byte index of a feed wraps within its 48 bits (R144). -/
def Transfer.at_ (a : Transfer) (p : Nat) : Nat :=
  if a.key / 256 = 0xA040 then a.offset / 2 ^ 48 * 2 ^ 48 + (a.offset + p) % 2 ^ 48 else a.offset + p

/-- What the destination refuses a segment with; 0: it takes it. -/
def segmentCode (a : Transfer) (p len : Nat) (s : State) : Nat :=
  match a.key / 256 with
  | 0xA012 => lowest (contentCodes (a.at_ p) len s)
  | 0xA040 => lowest (feedCodes (a.at_ p) len s)
  | 0xA050 => lowest (bankContentCodes (a.at_ p) len s)
  | _ => 0

/-- Accepted bytes that their object takes at once; an image slot that is being written holds no valid image. -/
def segmentEffect (k : Nat) (a : Transfer) (p : Nat) (d : List Byte) (s : State) : State :=
  match a.key / 256 with
  | 0xA012 => domainEffect k 0xA012 1 (a.at_ p) d s
  | 0xA040 => domainEffect k 0xA040 1 (a.at_ p) d s
  | 0xA050 => domainEffect k 0xA050 1 (a.at_ p) d s
  | 0x5100 => domainEffect k 0x5100 (a.key % 256) (a.at_ p) d s
  | _ => s

/-- ACKED moves across the accepted segments that are contiguous from it. -/
def advanceAcked (seg total : Nat) : Nat → Nat → List Nat → Nat
  | 0, acked, _ => acked
  | n + 1, acked, got => if got.contains acked then advanceAcked seg total n (min (acked + seg) total) got else acked

/-- The transfer with the segment at `p` accepted at edge `n`. -/
def Transfer.accept (a : Transfer) (p n : Nat) (d : List Byte) : Transfer :=
  let got := p :: a.got
  let acked := advanceAcked a.segSize a.total got.length a.acked got
  { a with
    acked := acked, got := got.filter fun q => acked ≤ q, bytes := mputs 0 p d a.bytes, lastAccepted := n,
    lastAdvance := if acked = a.acked then a.lastAdvance else n }

/-- Does the segment have its place in the transfer, within the window? -/
def segmentFits (a : Transfer) (p len : Nat) : Bool :=
  p % a.segSize == 0 && p < a.total && len == min a.segSize (a.total - p) && p + len ≤ a.acked + a.window

/-- A segment whose place is right and that has not been accepted before. (DEDUCED, log 48.) -/
def takeSegment (k : Nat) (a : Transfer) (p : Nat) (d : List Byte) (s : State) : State :=
  let c := segmentCode a p d.length s
  if c = 0 then
    let s := segmentEffect k a p d s
    let s := modLink (fun l => { l with cargoBytes := (l.cargoBytes + d.length) % 2 ^ 64 }) s
    let b := a.accept p s.now d
    sendAck k b 0 (modTransfer k a.num (fun _ => b) s)
  else if a.key / 256 = 0xA040 then endTransfer k a c s else s

/-- CARGO_DATA (R359). -/
def execCargoData (t : Nat) (port : Fin 2) (sess : Nat) (macOk : Bool) (transfer position crc : Nat) (data : List Byte) :
    State → Host.Outcome State Fault Refusal :=
  atEdge t (withFrame sess port macOk fun s =>
    match (s.session sess).transfer transfer with
    | none => s
    | some a =>
      if !a.write then s
      else if crc32c data != crc then modLink (fun l => { l with cargoCrcFails := sat32 (l.cargoCrcFails + 1) }) s
      else if !segmentFits a position data.length then s
      else if position < a.acked || a.got.contains position then sendAck sess a 0 s
      else takeSegment sess a position data s)

/-- CARGO_ACK of the host for a read (R359): its ABORT ends the transfer. (DEDUCED, log 48.) -/
def execCargoAck (t : Nat) (port : Fin 2) (sess : Nat) (macOk : Bool) (transfer acked window abort : Nat) :
    State → Host.Outcome State Fault Refusal :=
  atEdge t (withFrame sess port macOk fun s =>
    match (s.session sess).transfer transfer with
    | none => s
    | some a =>
      if a.write then s
      else if abort != 0 then dropTransfer sess transfer s
      else
        let n := s.now
        let k := min acked a.total
        sendSegments sess transfer (modTransfer sess transfer (fun a => { a with
          window := window, acked := max a.acked k, sentTo := max a.sentTo k, lastAccepted := if a.acked < k then n else a.lastAccepted,
          lastAdvance := if a.acked < k then n else a.lastAdvance }) s))

/-- CARGO_RESEND (R359, R360): a read whose ACKED has not advanced for 500 µs goes on from ACKED. -/
def execCargoResend (t sess transfer : Nat) : State → Host.Outcome State Fault Refusal :=
  atEdge t (occurs (fun s => ((s.session sess).transfer transfer).any fun a =>
      !a.write && decide (a.acked < a.total) && decide (a.lastAdvance + 200000 ≤ s.now)) fun s =>
    let n := s.now
    sendSegments sess transfer (modTransfer sess transfer (fun a => { a with resends := a.resends + 1, lastAdvance := n, sentTo := a.acked }) s))

/-- CARGO_IDLE_TIMEOUT (R359): no accepted segment for 1 s. -/
def execCargoIdleTimeout (t sess transfer : Nat) : State → Host.Outcome State Fault Refusal :=
  atEdge t fun s => match (s.session sess).transfer transfer with
    | some a => if a.lastAccepted + 400000000 ≤ s.now then endTransfer sess a (0x01140000 + transfer) s else s
    | none => s

/-! ### Closing (R362, R483) -/

/-- All TOTAL bytes in order. -/
def Transfer.data (a : Transfer) : List Byte := mgets 0 0 a.total a.bytes

/-- Is the whole transfer held until its close? -/
def heldToClose (a : Transfer) : Bool :=
  let i := a.key / 256
  !(i == 0xA012 || i == 0xA040 || i == 0xA050 || i == 0x5100)

/-- What the object refuses a complete transfer with. -/
def objectCloseCodes (a : Transfer) (imageOk : Bool) (s : State) : List Nat :=
  if !a.write then []
  else if a.key / 256 = 0x5100 then [failIf (!imageOk) 0x06910000]
  else if heldToClose a then
    domainCodes (0x01120000 + a.num) (a.key / 256) (a.key % 256) a.offset a.total s ++
    (if a.key / 256 = 0xA010 then defineCodes a.offset a.data s else [])
  else []

/-- The refusals of a close. -/
def closeCodes (a : Transfer) (crc : Nat) (imageOk : Bool) (s : State) : List Nat :=
  let bad := a.acked != a.total || crc32c a.data != crc
  failIf bad (0x01130000 + a.num) :: (if bad then [] else objectCloseCodes a imageOk s)

/-- Image `i` is complete and passes its check (R482, R483): the slot holds it, with a version of its own (Table 0-3). Its NVM write waits
in the brace state. -/
def imageWritten (i : Nat) : State → State :=
  modPower fun p => { p with
    imageA := p.imageA || i == 0, imageB := p.imageB || i == 1, imageIdA := if i = 0 then p.imagesHeld else p.imageIdA,
    imageIdB := if i = 1 then p.imagesHeld else p.imageIdB, imagesHeld := p.imagesHeld + 1,
    imageWait := if p.brace && !p.imageWait.contains i then i :: p.imageWait else p.imageWait }

/-- The effect of a successful close. -/
def closeEffect (k : Nat) (a : Transfer) (s : State) : State :=
  if !a.write then s
  else if a.key / 256 = 0x5100 then imageWritten (a.key % 256 - 1) s
  else if heldToClose a then domainEffect k (a.key / 256) (a.key % 256) a.offset a.data s
  else s

/-- A refused image sends a notice (R482, R483). -/
def closeRefused (a : Transfer) (code : Nat) (s : State) : State :=
  if code = 0x06910000 then notice 0x0066 1 0 0 [a.key % 256 - 1] s else s

/-- A close, executed: with or without success the transfer ends. (DEDUCED, log 48.) -/
def closeTransfer (r : Req) (num crc : Nat) (imageOk : Bool) (s : State) : State :=
  match (s.session r.sess).transfer num with
  | none => respond r (0x01100000 + num) [] s
  | some a =>
    let c := lowest (closeCodes a crc imageOk s)
    let s := if c = 0 then closeEffect r.sess a s else closeRefused a c s
    respond r c [] (dropTransfer r.sess num s)

/-- CARGO_CLOSE (R362, R483). `imageOk`: does a complete image pass the check of R482? -/
def execCargoClose (t : Nat) (r : Req) (transfer crc : Nat) (imageOk : Bool) : State → Host.Outcome State Fault Refusal :=
  atEdge t (requestRun r (closeTransfer r (transfer % 65536) crc imageOk))

end Sys2Proof.Machine
end

