-- ==== Sys2Proof/Machine/Fault.lean ====
section
/-! DEFINITION. Checkpoints, takeover by a standby slot, the management pair, quay faults and the replacement request (R448 to R463,
R468). -/

namespace Sys2Proof.Machine

/-! ### Checkpoints (R449, R450) -/

/-- Can engine `e` write and confirm checkpoints: it has had no detection edge that still stands? -/
def engineSound (s : State) (e : Nat) : Bool := (s.engine e).takeover.isNone && (s.core e).st != .fault

/-- The engine writes its state into one of its three slots. -/
def writeCheckpoint (e : Nat) (s : State) : State :=
  let n := s.now
  if engineSound s e then
    modEngine e (fun g =>
      let l := g.checkpoints ++ [{ edge := n, confirmed := false, core := g.core }]
      { g with checkpoints := l.drop (l.length - 3) }) s
  else s

/-- CHECKPOINT (R449): every edge whose N is a multiple of 3,200. -/
def execCheckpoint (t : Nat) : State → Host.Outcome State Fault Refusal :=
  atEdge t (occurs (fun s => s.dev.power.phase == .ready && s.now % 3200 == 0) (forAll (List.range 64) writeCheckpoint))

/-- The edge of the second-newest confirmed checkpoint, from which the event log counts; 0 where there are fewer. -/
def logStart (l : List Checkpoint) : Nat :=
  match (l.filter Checkpoint.confirmed).reverse with
  | _ :: c :: _ => c.edge
  | _ => 0

/-- The checkpoint of engine `e` written 1,600 ECLK ago is confirmed; the event log keeps what follows the second-newest one. -/
def confirmCheckpoint (e : Nat) (s : State) : State :=
  let n := s.now
  if engineSound s e then
    modEngine e (fun g =>
      let l := g.checkpoints.map fun c => if c.edge + 1600 = n then { c with confirmed := true } else c
      { g with checkpoints := l, log := g.log.filter fun x => logStart l ≤ x.1 }) s
  else s

/-- CHECKPOINT_CONFIRMED (R449). -/
def execCheckpointConfirmed (t : Nat) : State → Host.Outcome State Fault Refusal :=
  atEdge t (occurs (fun s => s.dev.power.phase == .ready) (forAll (List.range 64) confirmCheckpoint))

/-- The edge of the newest confirmed checkpoint; 0, the start, where none is held. -/
def newestConfirmed (g : Engine) : Nat := (g.checkpoints.filter Checkpoint.confirmed).foldl (fun m c => max m c.edge) 0

/-! ### Takeover (R21, R24, R448, R451 to R454) -/

/-- Is standby slot `k` bound to a takeover in progress, or has it failed in one? -/
def slotBusy (s : State) (k : Nat) : Bool :=
  (List.range 64).any fun e => match (s.engine e).takeover with
    | some x => x.slot == k || x.retire.contains k
    | none => false

/-- Is standby slot `k` free? -/
def slotFree (s : State) (k : Nat) : Bool := (if k = 64 then s.dev.faults.pe64 else s.dev.faults.pe65) == 0xFF && !slotBusy s k

/-- The standby slot for engine `e` (R21): the preferred one, else the other. -/
def chooseSlot (s : State) (e : Nat) : Option Nat :=
  let l := if e < 32 then [64, 65] else [65, 64]
  (l : List Nat).find? (slotFree s)

/-- Slots that have failed are retired (R23); a standby slot that is retired reads 0xFE. -/
def retireSlots (l : List Nat) : State → State :=
  modFaults fun f => { f with
    retired := l.foldl (fun r k => if r.contains k then r else r ++ [k]) f.retired, pe64 := if l.contains 64 then 0xFE else f.pe64,
    pe65 := if l.contains 65 then 0xFE else f.pe65 }

/-- Outputs 0 to 14 of engine `e` scheduled from edge `n` on. -/
def dueOutputs (e n : Nat) (x : Nat × Nat) : Bool := n ≤ x.1 && x.2 / 16 == e && x.2 % 16 != 15

/-- The takeover of engine `e` by slot `k` begins at the edge of the step, F: the code of the last tick before F is held to Tr, and
producer outputs that fall due from F on are counted in place of asserted. (DESIGN CHOICE, log 6.) -/
def beginTakeover (e k block : Nat) (s : State) : State :=
  let f := s.now
  let c := s.core e
  let hold := if c.lastTick = some f then c.play.codePrev else c.play.code
  let n := (s.dev.fabric.sched.filter (dueOutputs e f)).length
  let s := modFabric (fun x => { x with sched := x.sched.filter fun a => !dueOutputs e f a }) s
  let s := modEngine e (fun g => { g with
    takeover := some {
      f := f, tr := s.tickAt e (f + 12000), slot := k, tc := newestConfirmed g, held := hold, suppressed := n, retire := [],
      boundAt := f, block := block },
    checkpoints := g.checkpoints.filter Checkpoint.confirmed }) s
  if c.lastTick = some f then latchDac e s else s

/-- Engine `e` enters FAULT (R24): its channel parks and is lost; the failed slots are retired; accepted commands and rate steps are counted
at their ticks (R102, R132). (DEDUCED, log 49.) -/
def engineFault (e failed block : Nat) (gone : List Nat) (s : State) : State :=
  let s := leaveStep e (dropRequests e s)
  let s := modEngine e (fun g => { g with
    takeover := none, core := { g.core with st := .fault, phase := .still, pend := { g.core.pend with underrun := none } } }) s
  let s := retireSlots gone s
  let s := engineNotice 0x0052 0 e [failed] s
  loseChannel e (slotLoc failed block) (hardPark s.now e 4 s)

/-- The standby slot that engine `e` gives back where a lower-numbered engine is detected at the edge at which `e` was given it (R21). -/
def giveBack (e : Nat) : State → State :=
  modEngine e fun g => { g with takeover := g.takeover.map fun x => { x with slot := 0xFF } }

/-- Engine `e`, which has given its slot back, is served after the lower-numbered ones: by a slot that is still free, or none (R21, R24). -/
def serveAgain (e : Nat) (s : State) : State :=
  match (s.engine e).takeover, chooseSlot s e with
  | some x, some k => modEngine e (fun g => { g with takeover := some { x with slot := k } }) s
  | some x, none => engineFault e (x.retire.getLastD (s.engine e).phys) x.block ((s.engine e).phys :: x.retire) s
  | none, _ => s

/-- Higher-numbered engines that took a slot at the edge of the step: they are served after `e` (R21). -/
def servedAfter (s : State) (e : Nat) : List Nat :=
  (List.range 64).filter fun x => decide (e < x) && (s.engine x).takeover.any fun k => k.boundAt == s.now

/-- A detection edge of engine `e` (R448, R454): at F the takeover begins; in a takeover it is the standby slot that fails, and a second
free slot goes on with the same Tr and the same checkpoint. Of engines detected at one edge the lower-numbered is served first, whichever
command comes first (R21). `check`: 0 residue, 1 parity, 2 watchdog. (DEDUCED, log 49.) -/
def detectFault (e check block : Nat) (s : State) : State :=
  let g := s.engine e
  let failed := match g.takeover with | some x => x.slot | none => g.phys
  let gone := match g.takeover with | some x => x.retire ++ [x.slot] | none => []
  let s := assertLine (s.now + 1) (16 * e + 15) s
  let l := locate s (slotLoc failed block)
  let s := engineNotice 0x0050 1 e [check + 1, failed, l] s
  let later := servedAfter s e
  let s := forAll later giveBack s
  let s := match chooseSlot s e with
    | none => engineFault e failed block (g.phys :: gone) s
    | some k =>
      let s := reportFault 2 1 e 0x0050 l (check + 1) failed s
      match g.takeover with
      | none => beginTakeover e k block s
      | some x =>
        let n := s.now
        modEngine e (fun g => { g with takeover := some { x with slot := k, retire := gone, boundAt := n, block := block } }) s
  forAll later serveAgain s

/-- ENGINE_FAULT_DETECTED (R448). `block`: the block of Table 17-7 that fails. -/
def execEngineFaultDetected (t : Nat) (e : Fin 64) (check : Fin 3) (block : Nat) : State → Host.Outcome State Fault Refusal :=
  atEdge t (occurs (fun s => s.dev.power.phase == .ready && (s.core e).st != .fault) (detectFault e check (block % 128)))

/-- A notice of a takeover is sent, or waits for the recovery of the management pair (Table 17-9). -/
def takeoverNotice (n : Notice) (s : State) : State :=
  if s.dev.faults.recovering.isSome then modFaults (fun f => { f with held := f.held ++ [n] }) s
  else forAll [1, 2, 3, 4, 5, 6, 7, 8] (fun k s => enqueue k n s) s

/-- The standby slot resumes output (Table 17-2). (DESIGN CHOICE, log 6, log 49.) -/
def resume (e : Nat) (x : Takeover) (s : State) : State :=
  let g := s.engine e
  let s := retireSlots (g.phys :: x.retire) s
  let s := modFaults (fun f => { f with
    pe64 := if x.slot = 64 then e else f.pe64, pe65 := if x.slot = 65 then e else f.pe65, suppressed := sat32 x.suppressed }) s
  let s := modEngine e (fun g => { g with takeover := none, phys := x.slot, takeovers := sat32 (g.takeovers + 1) }) s
  let s := if (s.core e).lastTick = some s.now then latchDac e s else s
  let s := assertLine (s.now + 1) 2022 s
  let p := (s.core e).play
  let s := takeoverNotice { code := 0x0051, cls := 1, kind := 1, source := e, time := s.time, n := s.now, step := p.step, tag := p.tag,
                            params := [x.slot, s.now, sat32 x.suppressed], sent := none } s
  raiseReason 0 s

/-- TAKEOVER_RESUME (R451, R26, R23): at Tr, before the tick of the quay at that edge. -/
def execTakeoverResume (t : Nat) (e : Fin 64) : State → Host.Outcome State Fault Refusal :=
  atEdge t fun s => match (s.engine e).takeover with
    | some x => if x.tr = s.now then resume e x s else s
    | none => s

/-! ### The management pair (R455, R456) -/

/-- MGMT_MISMATCH (R455, R456): recovery begins, restarts once, or fails. `journalOk`: can every journal entry be read? -/
def execMgmtMismatch (t : Nat) (journalOk : Bool) : State → Host.Outcome State Fault Refusal :=
  atEdge t (occurs (fun s => s.dev.power.phase == .ready) fun s =>
    let n := s.now
    let dead := declareFatal (Config.fatalCause 1) (mgmtLoc.code s.dev.ring.devpos) s
    match s.dev.faults.recovering with
    | none => if journalOk then modFaults (fun f => { f with recovering := some (n, 0) }) s else dead
    | some (a, k) => if journalOk && k == 0 then modFaults (fun f => { f with recovering := some (a, 1) }) s else dead)
where
  /-- Location of the management pair (Table 17-7). -/
  mgmtLoc : Loc :=
    { die := 0, tile := 56, macro_ := 0, bank := 0, word := 0, bit_ := 0, depth := 3, data := false, physical := false, repair := false,
      retired := false }

/-- Recoveries of the last 3,600 s, the one that ends now among them. -/
def recentRecoveries (s : State) : List Nat := s.time :: s.dev.faults.recent.filter fun x => s.time < x + 3600000000000

/-- A recovery that began at edge `a` completes (R455, R456): what waited for it is sent, and the ninth within 3,600 s is a DEGRADED
condition. (DEDUCED, log 49.) -/
def recovered (a : Nat) (s : State) : State :=
  let l := recentRecoveries s
  let wait := s.dev.faults.held
  let s := modFaults (fun f => { f with recovering := none, recoveries := sat32 (f.recoveries + 1), recent := l, held := [] }) s
  let s := forAll wait takeoverNotice s
  let p0 := (s.now - a) * 5 / 2
  let s := notice 0x0053 1 0 0 [p0, l.length] s
  let worse := decide (l.length > 8) && !bit s.dev.faults.reasons 7
  let s := reportFault (if worse then 3 else 0) 0 0 0x0053 (locate s execMgmtMismatch.mgmtLoc) p0 l.length s
  if worse then degraded (raiseReason 7 s) else s

/-- MGMT_RECOVERED (R455, R456). -/
def execMgmtRecovered (t : Nat) : State → Host.Outcome State Fault Refusal :=
  atEdge t fun s => match s.dev.faults.recovering with
    | some (a, _) => recovered a s
    | none => s

/-! ### Quay dies, FATAL, replacement request, fault log -/

/-- QUAY_LINK_WATCHDOG (R458): all eight channels of the quay are lost. -/
def execQuayLinkWatchdog (t : Nat) (q : Fin 8) : State → Host.Outcome State Fault Refusal :=
  atEdge t (occurs (fun s => s.dev.power.phase == .ready) (quayFault q 0xFF 15))

/-- QUAY_DIE_FAULT (R458): the channels of the quay in `channels` are lost. -/
def execQuayDieFault (t : Nat) (q : Fin 8) (channels : Nat) : State → Host.Outcome State Fault Refusal :=
  atEdge t (occurs (fun s => s.dev.power.phase == .ready) fun s =>
    forAll ((List.range 8).filter (bit channels)) (fun k s => loseChannel (8 * q + k) (Loc.die2 (1 + q) false) s) s)

/-- FATAL (R460, R461). -/
def execFatal (t cause location : Nat) : State → Host.Outcome State Fault Refusal :=
  atEdge t (occurs (fun s => s.dev.power.phase != .porLow && s.dev.power.phase != .resetWait) (declareFatal cause location))

/-- REPLACEMENT_REQUEST_REPEAT (R463): 600 s after the latest request while a reason holds. (DEDUCED, log 49.) -/
def execReplacementRequestRepeat (t : Nat) : State → Host.Outcome State Fault Refusal :=
  atEdge t (occurs (fun s => s.dev.faults.reasons != 0 && decide (s.dev.faults.lastRequest + 240000000000 ≤ s.now)) requestNotice)

/-- FAULT_LOG_CLEAR (R468). -/
def execFaultLogClear (t : Nat) (r : Req) (v : Nat) : State → Host.Outcome State Fault Refusal :=
  atEdge t (command r 0x5400 (fun _ => [must1 v]) clearFaultLog)

end Sys2Proof.Machine
end

