-- ==== Sys2Proof/Machine/Inputs.lean ====
section
/-! DEFINITION. The commands that find the commit of their edge applied (R258, R338): inputs that register an event, the ticks of the quays
and what falls due at them, monitor slots, and the engines' reads (chapters 3 to 11). -/

namespace Sys2Proof.Machine

/-! ### Engine inputs (R88, R97, R98) -/

/-- TASK_INPUT_EVENT (R88). -/
def execTaskInputEvent (t : Nat) (e : Fin 64) (k : Fin 8) : State → Host.Outcome State Fault Refusal := atTick t (engineInput e k)

/-- HOLD_IN (R103). -/
def execHoldIn (t : Nat) (e : Fin 64) : State → Host.Outcome State Fault Refusal := atTick t (engineInput e 8)

/-- RELEASE (R104). -/
def execRelease (t : Nat) (e : Fin 64) : State → Host.Outcome State Fault Refusal := atTick t (engineInput e 9)

/-- ABORT_INPUT (R105). -/
def execAbortInput (t : Nat) (e : Fin 64) : State → Host.Outcome State Fault Refusal := atTick t (engineInput e 10)

/-- RATE_STEP (R132, R133). -/
def execRateStep (t : Nat) (e : Fin 64) : State → Host.Outcome State Fault Refusal := atTick t (rateStepInput e)

/-! ### Ticks, and actions that fall due at one -/

/-- OUTPUT_TICK (R116). The module computes ticks while its dictionary is ready. (DESIGN CHOICE, log 3.) -/
def execOutputTick (t : Nat) (q : Fin 8) (f : TickFacts) : State → Host.Outcome State Fault Refusal :=
  atTick t (occurs (fun s => s.dev.power.phase == .ready && s.now % s.grid q == 0) (quayTick q f.late f.det))

/-- Runs the tick of engine `e` where the named request falls due. (DESIGN CHOICE, log 3.) -/
def dueAction (e : Nat) (q : EngPend → Option Nat) : State → State :=
  occurs (fun s => fallsDue (q (s.core e).pend) s) (engineTick e false)

/-- ENGINE_CMD_ACTION (R102): the accepted commands whose tick has come act, in order of receipt, within the engine's tick. -/
def execEngineCmdAction (t : Nat) (e : Fin 64) : State → Host.Outcome State Fault Refusal :=
  atTick t (occurs (fun s => (s.core e).pend.cmds.any fun k => k.tick ≤ s.now) (engineTick e false))

/-- IMMEDIATE_JUMP (R92). -/
def execImmediateJump (t : Nat) (e : Fin 64) : State → Host.Outcome State Fault Refusal :=
  atTick t (dueAction e fun p => p.jump.map JumpReq.q)

/-- START_BY_EVENT (R101). -/
def execStartByEvent (t : Nat) (e : Fin 64) : State → Host.Outcome State Fault Refusal := atTick t (dueAction e EngPend.start)

/-- WAIT_SEL_RELEASE (R82). -/
def execWaitSelRelease (t : Nat) (e : Fin 64) : State → Host.Outcome State Fault Refusal := atTick t (dueAction e EngPend.release)

/-- HOLD_TAKES_EFFECT (R103). -/
def execHoldTakesEffect (t : Nat) (e : Fin 64) : State → Host.Outcome State Fault Refusal := atTick t (dueAction e EngPend.hold)

/-- RELEASE_DEAD_TIME (R104). -/
def execReleaseDeadTime (t : Nat) (e : Fin 64) : State → Host.Outcome State Fault Refusal := atTick t (dueAction e EngPend.unhold)

/-- ABORT_TAKES_EFFECT (R105). -/
def execAbortTakesEffect (t : Nat) (e : Fin 64) : State → Host.Outcome State Fault Refusal := atTick t (dueAction e EngPend.abort)

/-- RATE_STEP_APPLICATION (R132). -/
def execRateStepApplication (t : Nat) (e : Fin 64) : State → Host.Outcome State Fault Refusal :=
  atTick t (dueAction e fun p => p.rate.head?.map Prod.fst)

/-- UNDERRUN (R156). -/
def execUnderrun (t : Nat) (e : Fin 64) : State → Host.Outcome State Fault Refusal :=
  atTick t (dueAction e fun p => p.underrun.map Prod.fst)

/-! ### Decision points, code formation, and what an engine reads -/

/-- DECISION_POINT (R94): 24 ECLK before an end tick. -/
def execDecisionPoint (t : Nat) (e : Fin 64) : State → Host.Outcome State Fault Refusal :=
  atTick t (occurs (fun s => (s.now + 24) % s.gridE e == 0) fun s => decide24 e (s.now + 24) s)

/-- CODE_FORMATION (R123). -/
def execCodeFormation (t : Nat) (e : Fin 64) : State → Host.Outcome State Fault Refusal :=
  atTick t (occurs (fun s => (s.now + 20) % s.gridE e == 0) fun s => form20 e (s.now + 20) s)

/-- LATE_ENTRY_ARRIVAL (R74). -/
def execLateEntryArrival (t : Nat) (e : Fin 64) : State → Host.Outcome State Fault Refusal :=
  atTick t (occurs (fun s => (s.core e).play.lateEntry && (s.core e).st == .running) (entryArrives e))

/-- LIVE_INDEX_READ (R147): a read returns within 12 ECLK of its issue, under the grant (R142). -/
def execLiveIndexRead (t : Nat) (e : Fin 64) : State → Host.Outcome State Fault Refusal :=
  atTick t fun s => match liveRead s e, (s.core e).src.nextRead with
    | some n, some m => if liveGrant s e n && m ≤ s.now && s.now ≤ m + 12 then readIndexWord e n s else s
    | _, _ => s

/-! ### Inputs of the fabric's other blocks (R251) -/

/-- FIRE (R184): the line's input registers. -/
def execFire (t : Nat) (p : Fin 256) : State → Host.Outcome State Fault Refusal := atTick t (fireInput p)

/-- TRIG_INPUT_TRANSITION (R259, R506): the ball is sampled at a new level. -/
def execTrigInputTransition (t : Nat) (k : Fin 32) (level : Bool) : State → Host.Outcome State Fault Refusal :=
  atTick t (occurs (fun s => !trigOut s k) (trigSample k level))

/-- TRIG_OUTPUT_EVENT (R260). -/
def execTrigOutputEvent (t : Nat) (k : Fin 32) : State → Host.Outcome State Fault Refusal := atTick t (trigOutput k)

/-- TMR_START (R261). -/
def execTmrStart (t : Nat) (k : Fin 64) : State → Host.Outcome State Fault Refusal := atTick t (tmrStart k)

/-- TMR_HALT (R261). -/
def execTmrHalt (t : Nat) (k : Fin 64) : State → Host.Outcome State Fault Refusal := atTick t (tmrHalt k)

/-- HAWSER_OUTBOUND_EVENT (R296, R297). -/
def execHawserOutboundEvent (t : Nat) (x : Fin 64) : State → Host.Outcome State Fault Refusal := atTick t (outboundEvent x)

/-! ### The monitor converter -/

/-- MONITOR_SLOT (R239, R245). `sample`: what the source of the slot measures. -/
def execMonitorSlot (t : Nat) (c : Fin 64) (sample : Int) : State → Host.Outcome State Fault Refusal :=
  atTick t (occurs (fun s => s.now % 200 == 0) (monitorSlot c sample))

end Sys2Proof.Machine
end

