-- ==== Sys2Proof/Machine/Sha256.lean ====
section
/-! DEFINITION. SHA-256 (FIPS 180-4) and HMAC-SHA-256 (FIPS 198-1), which authenticate every Skeim frame (R346, R352). -/

namespace Sys2Proof.Machine

/-- The initial hash value. -/
def shaInit : List (BitVec 32) :=
  [0x6A09E667, 0xBB67AE85, 0x3C6EF372, 0xA54FF53A, 0x510E527F, 0x9B05688C, 0x1F83D9AB, 0x5BE0CD19]

/-- The 64 round constants. -/
def shaK : List (BitVec 32) :=
  [0x428A2F98, 0x71374491, 0xB5C0FBCF, 0xE9B5DBA5, 0x3956C25B, 0x59F111F1, 0x923F82A4, 0xAB1C5ED5,
   0xD807AA98, 0x12835B01, 0x243185BE, 0x550C7DC3, 0x72BE5D74, 0x80DEB1FE, 0x9BDC06A7, 0xC19BF174] ++
  [0xE49B69C1, 0xEFBE4786, 0x0FC19DC6, 0x240CA1CC, 0x2DE92C6F, 0x4A7484AA, 0x5CB0A9DC, 0x76F988DA,
   0x983E5152, 0xA831C66D, 0xB00327C8, 0xBF597FC7, 0xC6E00BF3, 0xD5A79147, 0x06CA6351, 0x14292967] ++
  [0x27B70A85, 0x2E1B2138, 0x4D2C6DFC, 0x53380D13, 0x650A7354, 0x766A0ABB, 0x81C2C92E, 0x92722C85,
   0xA2BFE8A1, 0xA81A664B, 0xC24B8B70, 0xC76C51A3, 0xD192E819, 0xD6990624, 0xF40E3585, 0x106AA070] ++
  [0x19A4C116, 0x1E376C08, 0x2748774C, 0x34B0BCB5, 0x391C0CB3, 0x4ED8AA4A, 0x5B9CCA4F, 0x682E6FF3,
   0x748F82EE, 0x78A5636F, 0x84C87814, 0x8CC70208, 0x90BEFFFA, 0xA4506CEB, 0xBEF9A3F7, 0xC67178F2]

/-- The message, a one bit, zeros, and its length in bits: whole blocks of 64 bytes. -/
def shaPad (d : List Byte) : List Byte :=
  d ++ 0x80 :: List.replicate ((119 - d.length % 64) % 64) 0 ++
  ((List.range 8).map fun k => BitVec.ofNat 8 (8 * d.length / 2 ^ (56 - 8 * k)))

/-- The big-endian words of a list of bytes. -/
def shaWords : List Byte → List (BitVec 32)
  | a :: b :: c :: d :: r => BitVec.ofNat 32 (((a.toNat * 256 + b.toNat) * 256 + c.toNat) * 256 + d.toNat) :: shaWords r
  | _ => []

/-- Word `k` of a list. -/
def shaAt (l : List (BitVec 32)) (k : Nat) : BitVec 32 := l.getD k 0

/-- One further word of the message schedule; `w` holds the 16 words before it, the latest first. -/
def shaNext (w : List (BitVec 32)) : BitVec 32 :=
  let a := shaAt w 1
  let b := shaAt w 14
  (a.rotateRight 17 ^^^ a.rotateRight 19 ^^^ (a >>> 10)) + shaAt w 6 + (b.rotateRight 7 ^^^ b.rotateRight 18 ^^^ (b >>> 3)) + shaAt w 15

/-- `n` further words of the schedule. -/
def shaSchedule : Nat → List (BitVec 32) → List (BitVec 32)
  | 0, _ => []
  | n + 1, w => shaNext w :: shaSchedule n (shaNext w :: w.take 15)

/-- One round on the working variables a to h, with K + W. -/
def shaRound (v : List (BitVec 32)) (kw : BitVec 32) : List (BitVec 32) :=
  match v with
  | [a, b, c, d, e, f, g, h] =>
    let t1 := h + (e.rotateRight 6 ^^^ e.rotateRight 11 ^^^ e.rotateRight 25) + ((e &&& f) ^^^ (~~~e &&& g)) + kw
    let t2 := (a.rotateRight 2 ^^^ a.rotateRight 13 ^^^ a.rotateRight 22) + ((a &&& b) ^^^ (a &&& c) ^^^ (b &&& c))
    [t1 + t2, a, b, c, d + t1, e, f, g]
  | v => v

/-- One block of 16 words into the hash value. -/
def shaBlock (h w : List (BitVec 32)) : List (BitVec 32) :=
  List.zipWith (· + ·) h ((List.zipWith (· + ·) shaK (w ++ shaSchedule 48 w.reverse)).foldl shaRound h)

/-- `n` blocks. -/
def shaBlocks : Nat → List (BitVec 32) → List (BitVec 32) → List (BitVec 32)
  | 0, h, _ => h
  | n + 1, h, w => shaBlocks n (shaBlock h (w.take 16)) (w.drop 16)

/-- SHA-256 of a message. -/
def sha256 (d : List Byte) : List Byte :=
  let w := shaWords (shaPad d)
  (shaBlocks (w.length / 16) shaInit w).flatMap fun x => [x.extractLsb' 24 8, x.extractLsb' 16 8, x.extractLsb' 8 8, x.extractLsb' 0 8]

/-- HMAC-SHA-256 of a message under a key. -/
def hmacSha256 (k d : List Byte) : List Byte :=
  let k := if 64 < k.length then sha256 k else k
  let k := k ++ List.replicate (64 - k.length) 0
  sha256 (k.map (· ^^^ 0x5C) ++ sha256 (k.map (· ^^^ 0x36) ++ d))

end Sys2Proof.Machine
end

