-- ==== Sys2Proof/Machine/Link.lean ====
section
/-! DEFINITION. The Skeim link: sessions, notices, ports and address resolution (chapter 13). -/

namespace Sys2Proof.Machine

/-! ### Sessions (R351 to R354) -/

/-- A session ends (R354): its transfers and views end, its notices are dropped, its number becomes free; the harbourmaster's staged change
is discarded while no check runs and none awaits its tick (R327). -/
def endSession (k : Nat) (s : State) : State :=
  let hm := isHm s k
  let s := modLink (fun l => { l with sources := terase (2 * k) (terase (2 * k + 1) l.sources) }) (modSession k (fun _ => Session.free) s)
  if hm && s.dev.dict.commit.st == 0 then discardStaged s else s

/-- The number that a CHALLENGE gives: the lowest that is free; one that an unanswered CHALLENGE holds only where there is no other.
(DEDUCED, log 44.) -/
def freeNumber (s : State) : Nat :=
  let l := ([1, 2, 3, 4, 5, 6, 7, 8] : List Nat).filter fun k => !(s.session k).isOpen
  ((l.find? fun k => !(s.session k).challenged).orElse fun _ => l.head?).getD 0

/-- A refusal on SESSION 0. -/
def refuseOpen (code : Nat) : State → State := modLink fun l => { l with lastRefusal := code }

/-- A frame whose MAC fails is discarded and counted (R346). -/
def macFailed (p : Nat) : State → State := modPort p fun x => { x with macFails := sat32 (x.macFails + 1) }

/-- OPEN (R346, R351, R352): its MAC is all zeros. -/
def execOpen (t : Nat) (port : Fin 2) (macOk : Bool) (keySlot : Nat) (ask : OpenAsk) : State → Host.Outcome State Fault Refusal :=
  atEdge t (occurs (fun s => linkServes s && (s.port port).up) fun s =>
    let code := lowest [failIf ((s.keySlot keySlot).isEmpty) (0x01030000 + keySlot), failIf (8 ≤ sessionsOpen s) 0x01060000]
    if !macOk then macFailed port s
    else if code != 0 then refuseOpen code s
    else
      let n := s.link.nonces
      modSession (freeNumber s) (fun _ => { Session.free with
        challenged := true, role := ask.role, slot := keySlot, slotKey := s.keySlot keySlot, hostNonce := ask.hostNonce, nonce := n })
        (modLink (fun l => { l with nonces := n + 1, lastRefusal := 0 }) s))

/-- SK of a session (R352): HMAC-SHA-256, under the key that the slot named in OPEN held, of the two nonces and `SERIAL`. -/
def sessionKey (s : State) (k : Nat) : List Byte :=
  let x := s.session k
  hmacSha256 x.slotKey (leBytes 16 x.hostNonce ++ leBytes 16 (Config.deviceNonce x.nonce) ++ Config.serial)

/-- The refusals of a CONFIRM (R353). (DEDUCED, log 44.) -/
def confirmCodes (k : Nat) (s : State) : List Nat :=
  let x := s.session k
  [failIf (x.role == 1 && !bit (keyRights s) x.slot) (0x01030000 + x.slot),
   failIf (x.role == 1 && harbourmaster s != 0) 0x01050000]

/-- The RESPONSE, SEQ 0, to a CONFIRM of session `k` (Table 13-5). -/
def handshake (k port code : Nat) (s : State) : Response :=
  { seq := 0, code := code, epoch := s.dev.dict.commit.epoch, data := [], retransmit := false, port := replyPort s k port, at_ := s.now }

/-- The session opens; in mooring mode it receives the notice MOORING (R484). -/
def openSession (k port : Nat) (s : State) : State :=
  let s := frameArrives k port (modSession k (fun x => { x with
    isOpen := true, challenged := false, last := some (handshake k port 0 s) }) s)
  if mooring s then
    enqueue k { code := 0x0065, cls := 0, kind := 0, source := 0, time := s.time, n := s.now, step := 0xFFFFFFFF, tag := 0,
                params := [s.dev.power.mooringReason, s.dev.power.startFail], sent := none } s
  else s

/-- A CONFIRM that follows a CHALLENGE. (DEDUCED, log 44.) -/
def confirmChallenge (k port : Nat) (s : State) : State :=
  let code := lowest (confirmCodes k s)
  if code = 0 then openSession k port s else refuseOpen code (modSession k (fun _ => Session.free) s)

/-- CONFIRM (R353): of a session that is open it follows no CHALLENGE. -/
def execConfirm (t : Nat) (port : Fin 2) (sess : Nat) (macOk : Bool) : State → Host.Outcome State Fault Refusal :=
  atEdge t fun s =>
    if !(linkServes s && (s.port port).up) then s
    else if (s.session sess).challenged then
      if macOk then confirmChallenge sess port s else macFailed port s
    else withFrame sess port macOk (fun s => modSession sess (fun x => { x with last := some (handshake sess port 0x01070000 s) }) s) s

/-- KEEPALIVE (R354). -/
def execKeepalive (t : Nat) (port : Fin 2) (sess : Nat) (macOk : Bool) : State → Host.Outcome State Fault Refusal :=
  atEdge t (withFrame sess port macOk id)

/-- CLOSE (R354). -/
def execClose (t : Nat) (port : Fin 2) (sess : Nat) (macOk : Bool) : State → Host.Outcome State Fault Refusal :=
  atEdge t (withFrame sess port macOk (endSession sess))

/-- Has no authenticated frame of the session arrived for its `SESSION_TIMEOUT`? -/
def timedOut (s : State) (k : Nat) : Bool :=
  let x := s.session k
  x.isOpen && decide (x.lastFrame + 400000 * x.val 0x1200 3 ≤ s.now)

/-- SESSION_TIMEOUT (R354). -/
def execSessionTimeout (t sess : Nat) : State → Host.Outcome State Fault Refusal :=
  atEdge t (occurs (fun s => timedOut s sess) (endSession sess))

/-! ### Notices (R356, R357) -/

/-- Has the notice been sent 1 ms or more ago? -/
def resendDue (now seq : Nat) (n : Notice) : Bool := n.sent.any fun q => q.1 == seq && q.2.1 + 400000 ≤ now

/-- Is notice `seq` of the session about to be lost as well? -/
def lostNext (s : State) (k seq : Nat) : Bool :=
  (s.session k).notices.any fun n => resendDue s.now seq n && n.sent.any fun q => 3 ≤ q.2.2

/-- The run of lost notices that waits for its end is reported once the notice after it is not about to be lost (R356). (DEDUCED, log 45.) -/
def closeRun (k : Nat) (s : State) : State :=
  match (s.session k).lostRun with
  | none => s
  | some (f, c) =>
    if lostNext s k (f + c) then s
    else
      let s := modSession k (fun x => { x with lostRun := none }) s
      pump k (enqueue k { code := 0x0012, cls := 1, kind := 0, source := 0, time := s.time, n := s.now, step := 0xFFFFFFFF, tag := 0,
                          params := [f, c], sent := none } s)

/-- ACK (R357): notices up to `acked` leave the queue. -/
def execAck (t : Nat) (port : Fin 2) (sess : Nat) (macOk : Bool) (acked : Nat) : State → Host.Outcome State Fault Refusal :=
  atEdge t (withFrame sess port macOk fun s =>
    closeRun sess (pump sess (modSession sess (fun x => { x with
      notices := x.notices.filter fun n => !n.sent.any fun q => q.1 ≤ acked }) s)))

/-- A notice is lost (R356): the run of lost notices is reported at its end. (DEDUCED, log 45.) -/
def loseNotice (k seq : Nat) (s : State) : State :=
  let x := s.session k
  let run := match x.lostRun with | some (f, c) => (f, c + 1) | none => (seq, 1)
  closeRun k (modSession k (fun x => { x with
    notices := x.notices.filter fun n => !n.sent.any fun q => q.1 == seq, lost := sat32 (x.lost + 1), lostRun := some run }) s)

/-- NOTICE_RETRANSMIT (R356). -/
def execNoticeRetransmit (t sess seq : Nat) : State → Host.Outcome State Fault Refusal :=
  atEdge t (occurs (fun s => (s.session sess).isOpen && boundUp s (s.session sess) && (s.session sess).notices.any (resendDue s.now seq))
    fun s =>
      if lostNext s sess seq then loseNotice sess seq s
      else modSession sess (fun x => { x with notices := x.notices.map fun n =>
        { n with sent := n.sent.map fun q => if q.1 = seq then (q.1, s.now, q.2.2 + 1) else q } }) s)

/-! ### Ports (R342, R363) -/

/-- Edges from the receipt of a request to the first byte of its response: LCLK +40 to LCLK +96 (R280, R281). (DESIGN CHOICE, log 60.) -/
def responseEdges : Nat := 58

/-- A response that has not left when port `lost` is lost leaves on port `q`. -/
def redirect (now lost q : Nat) (a : Response) : Response :=
  if a.port = lost && now < a.at_ + responseEdges then { a with port := q } else a

/-- A session changes over to port `q` (R363): what is not acknowledged is sent again, which does not count; unsent responses leave on the new
port; cargo goes on from ACKED. (DEDUCED, log 45, log 46.) -/
def failOver (k lost q : Nat) (s : State) : State :=
  let n := s.now
  let s := modSession k (fun x => { x with
    activePort := q, notices := x.notices.map fun n => { n with sent := n.sent.map fun a => (a.1, s.now, a.2.2) },
    resps := x.resps.map (redirect n lost q), last := x.last.map (redirect n lost q) }) s
  let s := sendReads k true (closeRun k s)
  notice 0x0011 1 5 lost [lost, k] (assertLine s.now 2041 s)

/-- Sessions that change over from port `p` to the other, both bound. (DEDUCED, log 46.) -/
def changeOver (p : Nat) (s : State) : State :=
  forAll [1, 2, 3, 4, 5, 6, 7, 8] (fun k s =>
    let x := s.session k
    let other := if p = 0 then x.bound1 else x.bound0
    settleTimers k (if x.isOpen && x.activePort == p && other && (s.port (1 - p)).up then failOver k p (1 - p) s else s)) s

/-- LCLK and the PTP servo move to port `q`, where the port has heard a master or not. (DEDUCED, log 46.) -/
def moveLclk (q : Nat) (s : State) : State :=
  let heard := if q = 0 then s.link.announce0 else s.link.announce1
  modLink (fun l => { l with ptpState := b2n heard }) (modClock (fun c => { c with lclkPort := q }) s)

/-- PORT_LOSS (R363). -/
def execPortLoss (t : Nat) (p : Fin 2) : State → Host.Outcome State Fault Refusal :=
  atEdge t (occurs (fun s => (s.port p).up) fun s =>
    let s := modPort p (fun x => { x with up := false, downs := sat32 (x.downs + 1) }) s
    let s := if s.dev.clock.lclkPort != p.val then s
      else if (s.port (1 - p)).up then moveLclk (1 - p) s else modClock (fun c => { c with lclkPort := 0xFF }) s
    changeOver p s)

/-- May a port come up at this speed (R341)? `PORT_SPEED_SEL` as the start has taken it. -/
def speedAllowed (c : PortCfg) (speed25 : Bool) : Bool := if speed25 then c.speedSel != 2 else c.speedSel != 1

/-- PORT_RETURN (R341, R363): a session whose active port is still down moves to it; LCLK takes it where no port drives it. RS-FEC is of 25GBASE-KR.
(DEDUCED, log 46.) -/
def execPortReturn (t : Nat) (p : Fin 2) (speed25 rsFec : Bool) : State → Host.Outcome State Fault Refusal :=
  atEdge t (occurs (fun s => !(s.port p).up && speedAllowed (s.port p).cfg speed25) fun s =>
    let s := modPort p (fun x => { x with up := true, speed25 := speed25, rsFec := rsFec && speed25 }) s
    let s := if s.dev.clock.lclkPort = 0xFF then moveLclk p s else s
    let s := if (s.port (1 - p)).up then s else changeOver (1 - p) s
    forAll [1, 2, 3, 4, 5, 6, 7, 8] (fun k s => sendReads k false (pump k (settleTimers k s))) s)

/-- Does a port take a frame of the network layer (R342): untagged or with one tag, and no fragment? -/
def frameTaken (f : NetFrame) : Bool := f.tags ≤ 1 && !f.fragment

/-- A reply to the Ethernet and IP source of a frame (R342). -/
def replyOn (f : NetFrame) : State → State :=
  occurs (fun s => linkServes s && (s.port f.port).up && frameTaken f) (modPort f.port fun x => { x with replies := x.replies + 1, lastReply := some f.src })

/-- ADDRESS_RESOLUTION (R342). -/
def execAddressResolution (t : Nat) (f : NetFrame) : State → Host.Outcome State Fault Refusal := atEdge t (replyOn f)

/-- ECHO_REQUEST (R342). -/
def execEchoRequest (t : Nat) (f : NetFrame) : State → Host.Outcome State Fault Refusal := atEdge t (replyOn f)

end Sys2Proof.Machine
end

