-- ==== Sys2Proof/Machine/Power.lean ====
section
/-! DEFINITION. Supplies and temperature: the brace state, analog rail resets and temperature readings (R475 to R479). -/

namespace Sys2Proof.Machine

/-! ### The brace state (R475, R476) -/

/-- The latest result of rail `k` (R471). -/
def setRail (k : Nat) (mv : Int) : State → State := modPower fun p => { p with railMv := tset k mv p.railMv }

/-- Rail `k` is below its warning level at the edge of the step: the brace state is entered, or goes on. Levels are magnitudes.
(DEDUCED, log 50.) -/
def railBelow (k : Nat) (mv : Int) (s : State) : State :=
  let s := setRail k mv s
  let n := s.now
  if s.dev.power.brace then
    modPower (fun p => { p with
      below := setBit p.below k, braceRails := setBit p.braceRails k, braceMin := min p.braceMin mv.natAbs, clearAt := none }) s
  else
    let snap := (n, s.time, 2 ^ k)
    let s := modPower (fun p => { p with
      brace := true, braceAt := n, braces := sat32 (p.braces + 1), below := 2 ^ k, braceRails := 2 ^ k, braceMin := mv.natAbs, clearAt := none,
      snapshot := some snap }) s
    notice 0x0060 1 0 0 [2 ^ k] (assertLine (n + 3) 2016 s)

/-- RAIL_WARNING (R475): rail `k` is seen below its warning level; `mv`: what the rail monitor reads. -/
def execRailWarning (t : Nat) (k : Fin 11) (mv : Int) : State → Host.Outcome State Fault Refusal :=
  atEdge t (occurs (fun s => s.dev.power.phase != .porLow) (railBelow k mv))

/-- RAIL_RECOVERY (R476): rail `k` is seen at or above its warning level plus hysteresis. -/
def execRailRecovery (t : Nat) (k : Fin 11) (mv : Int) : State → Host.Outcome State Fault Refusal :=
  atEdge t fun s =>
    let s := setRail k mv s
    let n := s.now
    if s.dev.power.brace then
      modPower (fun p =>
        let b := clearBit p.below k
        { p with below := b, clearAt := if b = 0 then some (n + 40000) else p.clearAt }) s
    else s

/-- The clear edge: NVM work that waited is done, and the restart after an analog rail reset is due. (DEDUCED, log 50.) -/
def clearBrace (s : State) : State :=
  let p := s.dev.power
  let n := s.now
  let s := modPower (fun p => { p with
    brace := false, clearAt := none, nvmWait := [], keyWait := [], imageWait := [], analogWait := false,
    analogAt := if p.analogWait then some n else p.analogAt }) s
  notice 0x0061 2 0 0 [p.braceRails, ofInt 64 p.braceMin, (n - p.braceAt) * 5 / 2] (assertLine (n + 1) 2017 (flushLog s))

/-- BRACE_CLEAR (R476): 40,000 ECLK after the last recovery. -/
def execBraceClear (t : Nat) : State → Host.Outcome State Fault Refusal :=
  atEdge t (occurs (fun s => s.dev.power.clearAt.any (· ≤ s.now)) clearBrace)

/-! ### Analog rails (R478, R443) -/

/-- An analog rail reset: every channel that is not parked hard-parks 1 ECLK later with cause 5, every line drives its safe state, and
passes of the calibration are discarded. (DEDUCED, log 50.) -/
def analogReset (k : Nat) (mv : Int) (s : State) : State :=
  let s := railBelow k mv s
  let n := s.now
  let s := forAll (List.range 64) (fun c s =>
    if (s.out c).lost then s
    else
      let parks := (s.out c).parkCause = 0 || (s.out c).seq.isSome
      let s := parkAt (n + 1) c 5 0 s
      if parks then discardPass c s else s) s
  let s := forAll (List.range 256) (fun p s => modLine p (fun l => { l with railSafe := true }) s) s
  let s := modPower (fun p => { p with analogResets := sat32 (p.analogResets + 1), analogWait := true, analogAt := none }) s
  notice 0x0062 0 0 0 [2 ^ k] s

/-- ANALOG_RAIL_RESET (R478), of rails 7 to 10. -/
def execAnalogRailReset (t : Nat) (k : Fin 11) (mv : Int) : State → Host.Outcome State Fault Refusal :=
  atEdge t (occurs (fun s => s.dev.power.phase == .ready && 7 ≤ k.val) (analogReset k mv))

/-- The restart tick of quay `q`: the first tick on a 1 µs boundary at or after the clear edge. -/
def restartTick (s : State) (q a : Nat) : Nat := s.usTick (8 * q) a

/-- Quay `q` restarts: channels parked for cause 5 start the enable sequence, enabled comparators arm again, and lines resume as under
R195. (DEDUCED, log 50.) -/
def analogRestart (q : Nat) (s : State) : State :=
  let s := forAll ((List.range 8).map (8 * q + ·)) (fun c s =>
    if (s.out c).lost then s
    else
      let o := s.out c
      rearm c (if o.parkCause == 5 && o.seq.isNone && s.act (chIdx c 0) 1 == 1 then startEnable c s else s)) s
  forAll ((List.range 32).map (32 * q + ·)) (fun p s =>
    let wait := hasPeriods s p
    if (s.line p).railSafe then modLine p (fun l => { l with railSafe := false, gated := l.gated || wait }) s else s) s

/-- ANALOG_RAIL_RESTART (R478): the quays whose restart tick is the edge. -/
def execAnalogRailRestart (t : Nat) : State → Host.Outcome State Fault Refusal :=
  atEdge t fun s => match s.dev.power.analogAt with
    | none => s
    | some a =>
      let qs := List.range 8
      let s' := forAll (qs.filter fun q => restartTick s q a == s.now) analogRestart s
      if qs.all fun q => restartTick s q a ≤ s.now then modPower (fun p => { p with analogAt := none }) s' else s'

/-! ### Temperature (R479) -/

/-- The highest reading and its die. -/
def hottest : List (Nat × Int) → Option (Nat × Int)
  | [] => none
  | x :: r => match hottest r with
    | some y => if x.2 < y.2 then some y else some x
    | none => some x

/-- The highest reading `v`, of die `die`: its warning, which comes again only after every reading has fallen 5 °C below
`TEMP_WARN_C`, and its fatal limit. (DEDUCED, log 50.) -/
def readTemp (die : Nat) (v : Int) (s : State) : State :=
  let w := 1024 * (s.rwv 0x2220 1 : Int)
  let warned := s.dev.power.tempWarned
  let s := modPower (fun p => { p with
    tempMax := v, tempDie := die, tempWarned := decide (w < v) || (p.tempWarned && !decide (v ≤ w - 5120)) }) s
  let s := if decide (w < v) && !warned then notice 0x0063 1 0 0 [die, ofInt 64 v] (assertLine s.now 2018 s) else s
  if 112640 < v then declareFatal (Config.fatalCause 3) ((Loc.die2 die false).code s.dev.ring.devpos) s else s

/-- TEMP_READ (R479, R460): `temps` are (die code, reading in 1/1,024 °C). -/
def execTempRead (t : Nat) (temps : List (Nat × Int)) : State → Host.Outcome State Fault Refusal :=
  atEdge t fun s => match hottest temps with
    | none => s
    | some (die, v) => if s.dev.power.phase == .porLow || s.dev.power.phase == .resetWait then s else readTemp die v s

end Sys2Proof.Machine
end

