-- ==== Sys2Proof/Machine/Dispatch.lean ====
section
/-! DEFINITION. One arm for each command: the one call of its meaning. -/

namespace Sys2Proof.Machine

def exec (i : Instr) (s : State) : Host.Outcome State Fault Refusal :=
  match i with
  | .pornRelease t devpos bootsel localMemOk vioDropped => Sys2Proof.Machine.execPornRelease t devpos bootsel localMemOk vioDropped s
  | .pornAssert t ns => Sys2Proof.Machine.execPornAssert t ns s
  | .eclkLock t dramClk badRows badDram => Sys2Proof.Machine.execEclkLock t dramClk badRows badDram s
  | .dictionaryReady t us => Sys2Proof.Machine.execDictionaryReady t us s
  | .engineCmdArm t r e hi => Sys2Proof.Machine.execEngineCmdArm t r e hi s
  | .engineCmdStart t r e hi => Sys2Proof.Machine.execEngineCmdStart t r e hi s
  | .engineCmdAbort t r e hi => Sys2Proof.Machine.execEngineCmdAbort t r e hi s
  | .engineCmdResume t r e hi => Sys2Proof.Machine.execEngineCmdResume t r e hi s
  | .engineCmdDisarm t r e hi => Sys2Proof.Machine.execEngineCmdDisarm t r e hi s
  | .engineCmdReset t r e hi => Sys2Proof.Machine.execEngineCmdReset t r e hi s
  | .engineCmdAction t e => Sys2Proof.Machine.execEngineCmdAction t e s
  | .taskInputEvent t e k => Sys2Proof.Machine.execTaskInputEvent t e k s
  | .immediateJump t e => Sys2Proof.Machine.execImmediateJump t e s
  | .startByEvent t e => Sys2Proof.Machine.execStartByEvent t e s
  | .waitSelRelease t e => Sys2Proof.Machine.execWaitSelRelease t e s
  | .holdIn t e => Sys2Proof.Machine.execHoldIn t e s
  | .holdTakesEffect t e => Sys2Proof.Machine.execHoldTakesEffect t e s
  | .release t e => Sys2Proof.Machine.execRelease t e s
  | .releaseDeadTime t e => Sys2Proof.Machine.execReleaseDeadTime t e s
  | .abortInput t e => Sys2Proof.Machine.execAbortInput t e s
  | .abortTakesEffect t e => Sys2Proof.Machine.execAbortTakesEffect t e s
  | .rateStep t e => Sys2Proof.Machine.execRateStep t e s
  | .rateStepApplication t e => Sys2Proof.Machine.execRateStepApplication t e s
  | .decisionPoint t e => Sys2Proof.Machine.execDecisionPoint t e s
  | .codeFormation t e => Sys2Proof.Machine.execCodeFormation t e s
  | .underrun t e => Sys2Proof.Machine.execUnderrun t e s
  | .outputTick t q f => Sys2Proof.Machine.execOutputTick t q f s
  | .lateEntryArrival t e => Sys2Proof.Machine.execLateEntryArrival t e s
  | .liveIndexRead t e => Sys2Proof.Machine.execLiveIndexRead t e s
  | .dramReadComplete t m res a e words arrived => Sys2Proof.Machine.execDramReadComplete t m res a e words arrived s
  | .engineFaultDetected t e check block => Sys2Proof.Machine.execEngineFaultDetected t e check block s
  | .takeoverResume t e => Sys2Proof.Machine.execTakeoverResume t e s
  | .checkpoint t => Sys2Proof.Machine.execCheckpoint t s
  | .checkpointConfirmed t => Sys2Proof.Machine.execCheckpointConfirmed t s
  | .carrierPeriodStart t p tap => Sys2Proof.Machine.execCarrierPeriodStart t p tap s
  | .carrierTarget t p tap rise => Sys2Proof.Machine.execCarrierTarget t p tap rise s
  | .followEdge t p tap => Sys2Proof.Machine.execFollowEdge t p tap s
  | .fire t p => Sys2Proof.Machine.execFire t p s
  | .patternStart t p => Sys2Proof.Machine.execPatternStart t p s
  | .patternBit t p tap => Sys2Proof.Machine.execPatternBit t p tap s
  | .oneshotRise t p tap => Sys2Proof.Machine.execOneshotRise t p tap s
  | .oneshotFall t p tap => Sys2Proof.Machine.execOneshotFall t p tap s
  | .comparatorTransition t j asserted tripAt => Sys2Proof.Machine.execComparatorTransition t j asserted tripAt s
  | .tripClear t r p v => Sys2Proof.Machine.execTripClear t r p v s
  | .blankingEnd t c => Sys2Proof.Machine.execBlankingEnd t c s
  | .enableSequenceStep t c => Sys2Proof.Machine.execEnableSequenceStep t c s
  | .softParkStep t c => Sys2Proof.Machine.execSoftParkStep t c s
  | .rangeChangeStep t c => Sys2Proof.Machine.execRangeChangeStep t c s
  | .supervisionFlag t c f => Sys2Proof.Machine.execSupervisionFlag t c f s
  | .supClear t r c v => Sys2Proof.Machine.execSupClear t r c v s
  | .outRestart t r c v det => Sys2Proof.Machine.execOutRestart t r c v det s
  | .outRestartAction t c det => Sys2Proof.Machine.execOutRestartAction t c det s
  | .monitorSlot t c sample => Sys2Proof.Machine.execMonitorSlot t c sample s
  | .monitorResult t c => Sys2Proof.Machine.execMonitorResult t c s
  | .armEdge t c input => Sys2Proof.Machine.execArmEdge t c input s
  | .thCheckPeriodic t => Sys2Proof.Machine.execThCheckPeriodic t s
  | .thCheckReq t r c v => Sys2Proof.Machine.execThCheckReq t r c v s
  | .cmpClearLatch t r j => Sys2Proof.Machine.execCmpClearLatch t r j s
  | .cmpClearInBand t r j => Sys2Proof.Machine.execCmpClearInBand t r j s
  | .cmpClearForce t r j => Sys2Proof.Machine.execCmpClearForce t r j s
  | .trigInputTransition t k level => Sys2Proof.Machine.execTrigInputTransition t k level s
  | .trigOutputEvent t k => Sys2Proof.Machine.execTrigOutputEvent t k s
  | .trigPulseEnd t k => Sys2Proof.Machine.execTrigPulseEnd t k s
  | .timerFire t k => Sys2Proof.Machine.execTimerFire t k s
  | .tmrStart t k => Sys2Proof.Machine.execTmrStart t k s
  | .tmrHalt t k => Sys2Proof.Machine.execTmrHalt t k s
  | .swEvent t r v => Sys2Proof.Machine.execSwEvent t r v s
  | .swEventAssert t => Sys2Proof.Machine.execSwEventAssert t s
  | .hawserOutboundEvent t x => Sys2Proof.Machine.execHawserOutboundEvent t x s
  | .hawserInboundEvent t x => Sys2Proof.Machine.execHawserInboundEvent t x s
  | .hawserCellSend t => Sys2Proof.Machine.execHawserCellSend t s
  | .hawserCell t west lane start body crc => Sys2Proof.Machine.execHawserCell t west lane start body crc s
  | .hawserLaneLost t west lane => Sys2Proof.Machine.execHawserLaneLost t west lane s
  | .ringDiscovery t d => Sys2Proof.Machine.execRingDiscovery t d s
  | .ringJoin t n master f => Sys2Proof.Machine.execRingJoin t n master f s
  | .alignTracking t f => Sys2Proof.Machine.execAlignTracking t f s
  | .newTimingMaster t reachable => Sys2Proof.Machine.execNewTimingMaster t reachable s
  | .syncEdge t => Sys2Proof.Machine.execSyncEdge t s
  | .syncMiss t => Sys2Proof.Machine.execSyncMiss t s
  | .syncRealign t r v blocked => Sys2Proof.Machine.execSyncRealign t r v blocked s
  | .refclkLoss t => Sys2Proof.Machine.execRefclkLoss t s
  | .refclkReturn t ns => Sys2Proof.Machine.execRefclkReturn t ns s
  | .refclkRelocked t => Sys2Proof.Machine.execRefclkRelocked t s
  | .ptpMessage t port msg => Sys2Proof.Machine.execPtpMessage t port msg s
  | .registerWrite t r index sub offset a => Sys2Proof.Machine.execRegisterWrite t r index sub offset a s
  | .commitReq t r v => Sys2Proof.Machine.execCommitReq t r v s
  | .commitCheckDone t => Sys2Proof.Machine.execCommitCheckDone t s
  | .pilotRefillDone t e target => Sys2Proof.Machine.execPilotRefillDone t e target s
  | .commitTick t => Sys2Proof.Machine.execCommitTick t s
  | .stageDiscard t r v => Sys2Proof.Machine.execStageDiscard t r v s
  | .ringCommitRequest t r v => Sys2Proof.Machine.execRingCommitRequest t r v s
  | .prepare t id whenSel at_ => Sys2Proof.Machine.execPrepare t id whenSel at_ s
  | .ready t id rep => Sys2Proof.Machine.execReady t id rep s
  | .failReply t id pos code => Sys2Proof.Machine.execFailReply t id pos code s
  | .apply t id tick => Sys2Proof.Machine.execApply t id tick s
  | .discard t id code => Sys2Proof.Machine.execDiscard t id code s
  | .ringCommitTimeout t => Sys2Proof.Machine.execRingCommitTimeout t s
  | .viewOpen t r v => Sys2Proof.Machine.execViewOpen t r v s
  | .viewClose t r v => Sys2Proof.Machine.execViewClose t r v s
  | .viewTimeout t sess view => Sys2Proof.Machine.execViewTimeout t sess view s
  | .segDefine t r offset data => Sys2Proof.Machine.execSegDefine t r offset data s
  | .segDelete t r n => Sys2Proof.Machine.execSegDelete t r n s
  | .segVerify t r n => Sys2Proof.Machine.execSegVerify t r n s
  | .segmentVerified t unreadable => Sys2Proof.Machine.execSegmentVerified t unreadable s
  | .open_ t port macOk keySlot ask => Sys2Proof.Machine.execOpen t port macOk keySlot ask s
  | .confirm t port sess macOk => Sys2Proof.Machine.execConfirm t port sess macOk s
  | .keepalive t port sess macOk => Sys2Proof.Machine.execKeepalive t port sess macOk s
  | .close t port sess macOk => Sys2Proof.Machine.execClose t port sess macOk s
  | .sessionTimeout t sess => Sys2Proof.Machine.execSessionTimeout t sess s
  | .ack t port sess macOk acked => Sys2Proof.Machine.execAck t port sess macOk acked s
  | .noticeRetransmit t sess seq => Sys2Proof.Machine.execNoticeRetransmit t sess seq s
  | .cargoOpenWrite t r index sub offset total segSize => Sys2Proof.Machine.execCargoOpenWrite t r index sub offset total segSize s
  | .cargoOpenRead t r index sub offset total segSize => Sys2Proof.Machine.execCargoOpenRead t r index sub offset total segSize s
  | .cargoClose t r transfer crc imageOk => Sys2Proof.Machine.execCargoClose t r transfer crc imageOk s
  | .cargoData t port sess macOk transfer position crc data => Sys2Proof.Machine.execCargoData t port sess macOk transfer position crc data s
  | .cargoAck t port sess macOk transfer acked window abort => Sys2Proof.Machine.execCargoAck t port sess macOk transfer acked window abort s
  | .cargoResend t sess transfer => Sys2Proof.Machine.execCargoResend t sess transfer s
  | .cargoIdleTimeout t sess transfer => Sys2Proof.Machine.execCargoIdleTimeout t sess transfer s
  | .portLoss t p => Sys2Proof.Machine.execPortLoss t p s
  | .portReturn t p speed25 rsFec => Sys2Proof.Machine.execPortReturn t p speed25 rsFec s
  | .addressResolution t f => Sys2Proof.Machine.execAddressResolution t f s
  | .echoRequest t f => Sys2Proof.Machine.execEchoRequest t f s
  | .keySlotWrite t r k offset data => Sys2Proof.Machine.execKeySlotWrite t r k offset data s
  | .keyRightsWrite t r v => Sys2Proof.Machine.execKeyRightsWrite t r v s
  | .dramFreeze t m cause a => Sys2Proof.Machine.execDramFreeze t m cause a s
  | .dchRelease t r m v => Sys2Proof.Machine.execDchRelease t r m v s
  | .freezeAutoRelease t m => Sys2Proof.Machine.execFreezeAutoRelease t m s
  | .dramReinitDone t m ok => Sys2Proof.Machine.execDramReinitDone t m ok s
  | .resilverDone t m bytes => Sys2Proof.Machine.execResilverDone t m bytes s
  | .dramTrainReq t r v => Sys2Proof.Machine.execDramTrainReq t r v s
  | .mr4Read t m hot temp => Sys2Proof.Machine.execMr4Read t m hot temp s
  | .refreshDue t m bank => Sys2Proof.Machine.execRefreshDue t m bank s
  | .rowCounterWindow t m => Sys2Proof.Machine.execRowCounterWindow t m s
  | .scrub t m res a => Sys2Proof.Machine.execScrub t m res a s
  | .retrainDrainDone t m => Sys2Proof.Machine.execRetrainDrainDone t m s
  | .retrainSweepDone t m set => Sys2Proof.Machine.execRetrainSweepDone t m set s
  | .retrainRetestDone t m pass => Sys2Proof.Machine.execRetrainRetestDone t m pass s
  | .retrainReplayDone t m bytes => Sys2Proof.Machine.execRetrainReplayDone t m bytes s
  | .berthRead t slot word portA flipped => Sys2Proof.Machine.execBerthRead t slot word portA flipped s
  | .berthWrite t slot word value portA sampled => Sys2Proof.Machine.execBerthWrite t slot word value portA sampled s
  | .berthStatusClear t v => Sys2Proof.Machine.execBerthStatusClear t v s
  | .berthHandover t v => Sys2Proof.Machine.execBerthHandover t v s
  | .handoverTakesEffect t => Sys2Proof.Machine.execHandoverTakesEffect t s
  | .sendDoorbellNotice t v => Sys2Proof.Machine.execSendDoorbellNotice t v s
  | .berthTimeRead t => Sys2Proof.Machine.execBerthTimeRead t s
  | .berthDoorbell t r v => Sys2Proof.Machine.execBerthDoorbell t r v s
  | .marchPreserving t r v => Sys2Proof.Machine.execMarchPreserving t r v s
  | .marchDestructive t r v => Sys2Proof.Machine.execMarchDestructive t r v s
  | .marchWindowBorrow t => Sys2Proof.Machine.execMarchWindowBorrow t s
  | .marchWindowRelease t busy failBit => Sys2Proof.Machine.execMarchWindowRelease t busy failBit s
  | .marchDone t failBit => Sys2Proof.Machine.execMarchDone t failBit s
  | .bankRetention t b => Sys2Proof.Machine.execBankRetention t b s
  | .bankWake t b => Sys2Proof.Machine.execBankWake t b s
  | .calTempRead t q temps => Sys2Proof.Machine.execCalTempRead t q temps s
  | .calElementMeasured t c trim => Sys2Proof.Machine.execCalElementMeasured t c trim s
  | .elementSubstitution t c => Sys2Proof.Machine.execElementSubstitution t c s
  | .calPassEnd t c res => Sys2Proof.Machine.execCalPassEnd t c res s
  | .calSwap t => Sys2Proof.Machine.execCalSwap t s
  | .calRecordWritten t c => Sys2Proof.Machine.execCalRecordWritten t c s
  | .calReq t r v => Sys2Proof.Machine.execCalReq t r v s
  | .mgmtMismatch t journalOk => Sys2Proof.Machine.execMgmtMismatch t journalOk s
  | .mgmtRecovered t => Sys2Proof.Machine.execMgmtRecovered t s
  | .quayLinkWatchdog t q => Sys2Proof.Machine.execQuayLinkWatchdog t q s
  | .quayDieFault t q channels => Sys2Proof.Machine.execQuayDieFault t q channels s
  | .fatal t cause location => Sys2Proof.Machine.execFatal t cause location s
  | .replacementRequestRepeat t => Sys2Proof.Machine.execReplacementRequestRepeat t s
  | .faultLogClear t r v => Sys2Proof.Machine.execFaultLogClear t r v s
  | .railWarning t k mv => Sys2Proof.Machine.execRailWarning t k mv s
  | .railRecovery t k mv => Sys2Proof.Machine.execRailRecovery t k mv s
  | .braceClear t => Sys2Proof.Machine.execBraceClear t s
  | .supplyReset t k => Sys2Proof.Machine.execSupplyReset t k s
  | .analogRailReset t k mv => Sys2Proof.Machine.execAnalogRailReset t k mv s
  | .analogRailRestart t => Sys2Proof.Machine.execAnalogRailRestart t s
  | .tempRead t temps => Sys2Proof.Machine.execTempRead t temps s
  | .restartNormal t r => Sys2Proof.Machine.execRestartNormal t r s
  | .restartMooring t r => Sys2Proof.Machine.execRestartMooring t r s
  | .softwareReset t => Sys2Proof.Machine.execSoftwareReset t s
  | .refclkWaitTimeout t => Sys2Proof.Machine.execRefclkWaitTimeout t s
  | .supplyResetRestart t vioDropped localMemOk => Sys2Proof.Machine.execSupplyResetRestart t vioDropped localMemOk s
  | .hawserLinkRejoin t link otherMaster members => Sys2Proof.Machine.execHawserLinkRejoin t link otherMaster members s

end Sys2Proof.Machine
end

