-- ==== Sys2Proof/Machine/Step.lean ====
section
/-! DEFINITION. One step of the block: the command at the front of the queue is carried out on the rest of the queue. -/

namespace Sys2Proof.Machine

/-- Takes the command at the front of the queue; an empty queue idles (no time passes without a command). (DESIGN CHOICE, log 1.) -/
def step (s : State) : Host.Outcome State Fault Refusal :=
  match s.pending with
  | [] => .next s
  | c :: r => exec c { s with pending := r }

/-- `s` with the command that a table word spells at the front of its queue; unchanged where it spells none. (DESIGN CHOICE, log 51.) -/
def State.withFetchWord (s : State) (nbits w : Nat) : State :=
  match Sys2Proof.decodeTableWord nbits w with
  | some c => { s with pending := c :: s.pending }
  | none => s

end Sys2Proof.Machine
end

