-- ==== Sys2Proof/Safety.lean ====
section
/-! DEFINITION. The terms in which the claims speak: completion of a command, what a step leaves, acceptance of a frame and of a
request, an engine whose tick is due, and the machine's invariant. -/

namespace Sys2Proof.Machine

/-! ### Completion and frames -/

/-- The command completes, and `P` holds of the next state. -/
def Completes (o : Host.Outcome State Fault Refusal) (P : State → Prop) : Prop := ∃ s', o = .next s' ∧ P s'

/-- Nothing changes but sessions: the whole device, the rest of the link, and the queue stay. -/
abbrev SessionsOnly (s' s : State) : Prop :=
  s'.dev = s.dev ∧ s'.link = { s.link with sessions := s'.link.sessions } ∧ s'.ticked = s.ticked ∧ s'.undefined = s.undefined ∧
  s'.pending = s.pending

/-- Of the device only the engines change, and of them only engine `e`. -/
abbrev EngineOnly (e : Nat) (s' s : State) : Prop :=
  s'.dev = { s.dev with engines := s'.dev.engines } ∧ (∀ x, x ≠ e → s'.engine x = s.engine x) ∧ s'.ticked = s.ticked ∧
  s'.undefined = s.undefined ∧ s'.pending = s.pending

/-- What stays of the device when an engine acts: every part but the engines, the event fabric's schedule and the stores' streams. -/
abbrev EngineFrame (e : Nat) (s' s : State) : Prop :=
  (∀ x, x ≠ e → s'.engine x = s.engine x) ∧ s'.dev.clock = s.dev.clock ∧ s'.dev.dict = s.dev.dict ∧ s'.dev.lines = s.dev.lines ∧
  s'.dev.outs = s.dev.outs ∧ s'.dev.cmps = s.dev.cmps ∧ s'.dev.senses = s.dev.senses ∧ s'.dev.ring = s.dev.ring ∧
  s'.dev.store.segs = s.dev.store.segs ∧ s'.dev.store.content = s.dev.store.content ∧ s'.dev.scratch = s.dev.scratch ∧
  s'.dev.dram = s.dev.dram ∧ s'.dev.cals = s.dev.cals ∧ s'.dev.faults = s.dev.faults ∧ s'.dev.power = s.dev.power ∧
  s'.ticked = s.ticked ∧ s'.pending = s.pending

/-! ### Frames and requests of a session (R339, R346, R349, R354) -/

/-- An authenticated frame of an open session arrives on a port that is up. -/
abbrev Arrives (s : State) (sess : Nat) (port : Fin 2) (macOk : Bool) : Prop :=
  linkServes s = true ∧ (s.port port).up = true ∧ (s.session sess).isOpen = true ∧ macOk = true

/-- A request with a number above every earlier one, within the window of R349. -/
abbrev NewRequest (s : State) (r : Req) : Prop :=
  Arrives s r.sess r.port r.macOk ∧ (s.session r.sess).highest < r.seq ∧ r.seq ≤ (s.session r.sess).highest + 64

/-- The harbourmaster session writes an object of index `index`, naming no view; in mooring mode one of the mooring dictionary. -/
abbrev MayWrite (s : State) (r : Req) (index : Nat) : Prop :=
  isHm s r.sess = true ∧ r.view = none ∧ (mooring s = true → inMooringDict index = true)

/-- Any session writes an object of index `index`, naming no view; in mooring mode one of the mooring dictionary. -/
abbrev MayUse (s : State) (r : Req) (index : Nat) : Prop :=
  r.view = none ∧ (mooring s = true → inMooringDict index = true)

/-- The latest response of the session answers `r` with `code` (0: carried out). -/
abbrev Answers (s : State) (r : Req) (code : Nat) : Prop :=
  ∃ a, (s.session r.sess).last = some a ∧ a.seq = r.seq ∧ a.code = code ∧ a.retransmit = false

/-! ### Engines at a tick -/

/-- A tick of engine `e`, which is not in FAULT or TAKEOVER, is due at the edge of the state: its edge lies on the grid of its quay
(R114), and it has not been computed. -/
abbrev TickDue (s : State) (e : Nat) : Prop :=
  s.now % s.gridE e = 0 ∧ (s.core e).lastTick ≠ some s.now ∧ (s.engine e).takeover = none ∧ (s.core e).st ≠ .fault

/-- Input `k` of engine `e` registers an event at the edge of the state, and no other input that competes with it (R97) does. -/
abbrev LoneEvent (s : State) (e k : Nat) : Prop :=
  (registerInput (12 * e + k) s).2 = true ∧ ∀ j, j < 11 → j ≠ k → inputEvent s (12 * e + j) = false

/-- The first dead-time tick of a transition of engine `e` into step `k` has been computed (R77, R79, R108). -/
abbrev EnteredStep (s' s : State) (e k : Nat) : Prop :=
  (s'.core e).st = .running ∧ (s'.core e).play.step = k ∧ (s'.core e).play.entry = s.entry e k ∧
  (s'.core e).play.tag = (s.entry e k).tag ∧ (s'.core e).play.pass = 0 ∧ (s'.core e).phase = .dead 1 ∧
  (s'.core e).lastTick = some s.now

/-! ### The invariant -/

/-- The byte memories are in canonical form: the step tables and the scratchpad (an unlisted byte reads zero). -/
abbrev MemoriesCanonical (s : State) : Prop :=
  memWf 0 s.dev.dict.stepsActive = true ∧ memWf 0 s.dev.dict.stepsStaged = true ∧ memWf 0 s.dev.scratch.content = true

end Sys2Proof.Machine
end

