-- ==== Sys2Proof/Certificates/Slice0/Obligations.lean ====
section
/-! DEFINITION. The statements for the provers. In each, `u` is the state at the edge of the command: `advance t s`, time has passed and
nothing else has happened (TimePassesAlone), or, for a command that finds the commit of its edge applied (R258, R338), `reach t s`. -/

open Sys2Proof Sys2Proof.Machine

/-- A step takes the command at the front of the queue and carries it out on the rest of the queue, first in, first out; an empty queue
idles. The queue is the model's interface; that an empty queue idles is the model's choice (log entry 1). -/
def Obligations.StepRunsFront : Prop :=
  (∀ (c : Instr) (r : List Instr) (s : State), step { s with pending := c :: r } = exec c { s with pending := r }) ∧
  (∀ s : State, s.pending = [] → step s = .next s)

/-- Whatever the command at the front does, the commands behind it wait unchanged (the queue is the model's interface, log entry 1). -/
def Obligations.StepConsumesOnlyTheFront : Prop :=
  ∀ s s' : State, step s = .next s' → s'.pending = s.pending.tail

/-- Every command of the table ends in a next state, from every state (log entry 3 says what an event does whose condition does not
hold). -/
def Obligations.EveryCommandCompletes : Prop :=
  ∀ (c : Instr) (s : State), ∃ s', exec c s = .next s'

/-- The three byte memories keep their canonical form in every step, from every state that has it. -/
def Obligations.MemoriesStayCanonical : Prop :=
  ∀ s s' : State, MemoriesCanonical s → step s = .next s' → MemoriesCanonical s'

/-- The invariant holds right after reset. -/
def Obligations.ResetMemoriesCanonical : Prop := MemoriesCanonical State.reset

/-- N and the time counter advance, and what was at the ticks that pass is kept; every other register, unit and memory stays. No hard park
falls due (SupervisionParks speaks of one that does). -/
def Obligations.TimePassesAlone : Prop :=
  ∀ (t : Nat) (s : State), s.dev.clock.numbering = .plain → (∀ x ∈ s.dev.outs, ∀ k, x.2.parkDue = some k → max s.now t < k.1) →
    (advance t s).now = max s.now t ∧
    (advance t s).dev.clock.timeAcc = s.dev.clock.timeAcc + s.dev.clock.timeRate * (max s.now t - s.now) ∧
    (advance t s).dev = { s.dev with
      clock := { s.dev.clock with n := (advance t s).dev.clock.n, timeAcc := (advance t s).dev.clock.timeAcc },
      fabric := { s.dev.fabric with sched := (advance t s).dev.fabric.sched, counts := (advance t s).dev.fabric.counts } } ∧
    (advance t s).link = s.link ∧ (advance t s).undefined = s.undefined ∧ (advance t s).pending = s.pending ∧
    (∀ x ∈ s.dev.fabric.sched, max s.now t - 1 ≤ x.1 → x ∈ (advance t s).dev.fabric.sched) ∧
    (∀ q, q < 8 → tget s.dev q (advance t s).ticked =
      (if s.now < t ∧ s.now ≤ (t - 1) / s.grid q * s.grid q then s.dev else tget s.dev q s.ticked))

/-- Reset values of every kind of unit, read through the model's accessors. -/
def Obligations.ResetValues : Prop :=
  (∀ e, e < 64 → ((State.reset.core e).st = .idle ∧ (State.reset.core e).l0 = 0 ∧ (State.reset.core e).l1 = 0 ∧
    (State.reset.core e).l2 = 0 ∧ (State.reset.core e).l3 = 0 ∧ (State.reset.core e).stopCause = 0 ∧ (State.reset.core e).holdCause = 0 ∧
    (State.reset.core e).vals.inc = 0x100000000 ∧ (State.reset.core e).vals.fund = 0 ∧ (State.reset.core e).vals.scale = 0x400000 ∧
    (State.reset.core e).vals.offset = 0 ∧ (State.reset.engine e).phys = e ∧
    partBase State.reset.dev.dict.active e = 8192 * e ∧ partSize State.reset.dev.dict.active e = 8192)) ∧
  (∀ n, State.reset.seg n = Seg.empty) ∧
  (∀ c, (State.reset.out c).enabled = false ∧ (State.reset.out c).parkSwitch = true ∧ (State.reset.out c).parkCause = 1) ∧
  (∀ j, (State.reset.cmp j).armed = false ∧ (State.reset.cmp j).asserted = false ∧ (State.reset.cmp j).latched = false) ∧
  (∀ p, (State.reset.line p).trip = false ∧ (State.reset.line p).w = false ∧ (State.reset.line p).set.cfg = 0) ∧
  (∀ k, (State.reset.session k).isOpen = false) ∧
  State.reset.dev.dict.commit.st = 0 ∧ State.reset.dev.dict.changed = [] ∧ State.reset.dev.dict.stepChanged = [] ∧
  State.reset.dev.faults.log = [] ∧ State.reset.pending = []

/-- Registration at a consumer input: the routes' one register, the limiters, and coalescing. -/
def Obligations.InputsRegisterOneEdgeLater : Prop :=
  ∀ (i : Nat) (s : State), (s.input i).lastReg ≠ some s.now →
    let wa := slotWord s.dev.dict.active i 0
    let wb := slotWord s.dev.dict.active i 1
    let hit := fun w => slotEn w ∧ 0 < s.now ∧ (s.now - 1, slotSel w) ∈ s.dev.fabric.sched
    let passes := fun w (last : Option Nat) => slotLim w = true → ∀ l, last = some l → l = s.now ∨ l + slotSpacing w ≤ s.now
    let a := hit wa ∧ passes wa (s.input i).lastA
    let b := hit wb ∧ passes wb (s.input i).lastB
    ((registerInput i s).2 = true ↔ a ∨ b) ∧
    (a → b → ((registerInput i s).1.input i).coalesce = sat32 ((s.input i).coalesce + 1)) ∧
    (¬ (a ∧ b) → ((registerInput i s).1.input i).coalesce = (s.input i).coalesce) ∧
    (hit wa → ¬ a → ¬ hit wb → ((registerInput i s).1.input i).drops = sat32 ((s.input i).drops + 1)) ∧
    (∀ j, j ≠ i → (registerInput i s).1.input j = s.input j) ∧
    (registerInput i s).1.dev = { s.dev with fabric := { s.dev.fabric with inputs := (registerInput i s).1.dev.fabric.inputs } } ∧
    (registerInput i s).1.link = s.link

/-- The TRIG commands complete as the rules give them. -/
def Obligations.TrigBalls : Prop :=
  (∀ (t : Nat) (k : Fin 32) (level : Bool) (s : State), let u := reach t s
    Completes (exec (.trigInputTransition t k level) s) fun s' =>
      (trigOut u k = false → (s'.trig k).level = level ∧ (s'.trig k).inputAt = none) ∧
      (trigOut u k = false → (∀ n, (u.trig k).inputAt = some n → n < u.now) →
        ((u.trig k).inputAt = none → (u.trig k).level ≠ level) →
        edgeSelects (trigCfg u k) level = true → lineAt s' (u.now + 3) (1792 + k) = true) ∧
      (∀ n, (u.trig k).inputAt = some n → u.now ≤ n → s'.dev.fabric.sched = u.dev.fabric.sched) ∧
      (trigOut u k = true → s' = u) ∧
      (∀ j, j ≠ k.val → s'.trig j = u.trig j) ∧ s'.dev = { u.dev with fabric := s'.dev.fabric } ∧ s'.link = u.link) ∧
  (∀ (t : Nat) (k : Fin 32) (s : State), let u := reach t s
    (registerInput (1024 + k) u).2 = true →
    Completes (exec (.trigOutputEvent t k) s) fun s' =>
      (trigOut u k = true → (s'.trig k).pulseEnd = some (u.now + 1 + u.act (0x4010 + k) 2)) ∧
      (trigOut u k = true → (u.trig k).pulseEnd = none → (s'.trig k).pulseFrom = some (u.now + 1)) ∧
      (trigOut u k = false → s'.trig k = u.trig k) ∧
      (∀ j, j ≠ k.val → s'.trig j = u.trig j) ∧ s'.dev = { u.dev with fabric := s'.dev.fabric } ∧ s'.link = u.link) ∧
  (∀ (t : Nat) (k : Fin 32) (s : State), let u := advance t s
    (∃ n, (u.trig k).pulseEnd = some n ∧ n ≤ u.now) →
    Completes (exec (.trigPulseEnd t k) s) fun s' =>
      pulseActive s' k = false ∧ (s'.trig k).pulseEnd = none ∧
      (∀ j, j ≠ k.val → s'.trig j = u.trig j) ∧ s'.dev = { u.dev with fabric := s'.dev.fabric } ∧ s'.link = u.link)

/-- The timer commands complete as R261 gives them; other timers and every part but the event fabric stay. -/
def Obligations.Timers : Prop :=
  (∀ (t : Nat) (k : Fin 64) (s : State), let u := reach t s
    (registerInput (1056 + k) u).2 = true → (u.timer k).st ≠ 2 → inputEvent u (1120 + k) = false →
    Completes (exec (.tmrStart t k) s) fun s' =>
      (tmrMode u k = 2 ∨ (tmrMode u k = 1 ∧ tmrSrc u k ≠ 2) →
        (s'.timer k).st = 2 ∧ (s'.timer k).x = u.now ∧ (s'.timer k).fired = 0) ∧
      (tmrMode u k = 0 → (s'.timer k).ignored = sat32 ((u.timer k).ignored + 1) ∧ (s'.timer k).st = (u.timer k).st) ∧
      (∀ j, j ≠ k.val → s'.timer j = u.timer j) ∧ s'.dev = { u.dev with fabric := s'.dev.fabric } ∧ s'.link = u.link) ∧
  (∀ (t : Nat) (k : Fin 64) (s : State), let u := reach t s
    (registerInput (1120 + k) u).2 = true →
    Completes (exec (.tmrHalt t k) s) fun s' =>
      (tmrMode u k ≠ 0 → (s'.timer k).st = 1 ∧ (s'.timer k).fired = 0 ∧ (s'.timer k).divAcc = 0) ∧
      (tmrMode u k = 0 → s'.timer k = u.timer k) ∧
      (∀ j, j ≠ k.val → s'.timer j = u.timer j) ∧ s'.dev = { u.dev with fabric := s'.dev.fabric } ∧ s'.link = u.link) ∧
  (∀ (t : Nat) (k : Fin 64) (s : State), let u := advance t s
    tmrDue u k = true →
    Completes (exec (.timerFire t k) s) fun s' =>
      lineAt s' (u.now + 1) (1824 + k) = true ∧ (s'.timer k).fires = wrap32 ((u.timer k).fires + 1) ∧
      (tmrMode u k = 2 → (s'.timer k).st = 1) ∧
      (tmrMode u k = 1 → u.act (tmrIdx k) 5 = 0 → (s'.timer k).st = 2) ∧
      (tmrMode u k = 1 → u.act (tmrIdx k) 5 ≠ 0 → u.act (tmrIdx k) 5 ≤ (u.timer k).fired + 1 → (s'.timer k).st = 3) ∧
      (∀ j, j ≠ k.val → s'.timer j = u.timer j) ∧ s'.dev = { u.dev with fabric := s'.dev.fabric } ∧ s'.link = u.link)

/-- Software events: acceptance, assertion at the boundary, and the refusal of another session's write. -/
def Obligations.SoftwareEvents : Prop :=
  (∀ (t : Nat) (r : Req) (v : Nat) (s : State), let u := advance t s
    NewRequest u r → MayWrite u r 0x4080 →
    Completes (exec (.swEvent t r v) s) fun s' =>
      Answers s' r 0 ∧ (∃ w ∈ s'.dev.fabric.sw, w.mask = v % 2 ^ 64 ∧ u.now + 16 ≤ w.at_ ∧ w.at_ < u.now + 16 + 400 ∧ w.at_ % 400 = 0) ∧
      s'.dev.fabric.swWrites = wrap32 (u.dev.fabric.swWrites + 1) ∧ s'.dev.fabric.sched = u.dev.fabric.sched ∧
      s'.dev = { u.dev with fabric := s'.dev.fabric }) ∧
  (∀ (t : Nat) (s : State), let u := advance t s
    Completes (exec (.swEventAssert t) s) fun s' =>
      (∀ w ∈ u.dev.fabric.sw, ∀ k, w.at_ ≤ u.now → k < 64 → bit w.mask k = true → lineAt s' (u.now + 1) (1888 + k) = true) ∧
      (∀ w ∈ s'.dev.fabric.sw, u.now < w.at_) ∧ s'.dev = { u.dev with fabric := s'.dev.fabric } ∧ s'.link = u.link) ∧
  (∀ (t : Nat) (r : Req) (v : Nat) (s : State), let u := advance t s
    NewRequest u r → isHm u r.sess = false → r.view = none → mooring u = false →
    Completes (exec (.swEvent t r v) s) fun s' => Answers s' r 0x02010000 ∧ s'.dev = u.dev)

/-- Acceptance of the six engine commands; the command acts at `tick` (EngineCommandsAct). -/
def Obligations.EngineCommandsAccepted : Prop :=
  ∀ (t : Nat) (r : Req) (e : Fin 64) (hi : Nat) (s : State), let u := advance t s
    let st := (u.core e).st
    let accepted := fun (n h : Nat) (s' : State) =>
      Answers s' r 0 ∧
      (∃ k : EngCmd, (s'.core e).pend.cmds = (u.core e).pend.cmds ++ [k] ∧ k.cmd = n ∧ k.step = h ∧
        u.now + 16 ≤ k.tick ∧ k.tick % 400 = 0 ∧ k.tick % u.gridE e = 0) ∧
      (s'.core e).st = st ∧ (s'.core e).play = (u.core e).play ∧ (s'.core e).vals = (u.core e).vals ∧
      (s'.core e).src.latch = (if n = 4 then false else (u.core e).src.latch) ∧
      s'.dev = { u.dev with engines := s'.dev.engines } ∧ (∀ j, j ≠ e.val → s'.engine j = u.engine j)
    NewRequest u r → MayWrite u r (engIdx e 0) → (u.engine e).takeover = none →
    (st = .idle ∨ st = .stopped → configured u e = true → Completes (exec (.engineCmdArm t r e 0) s) (accepted 1 0)) ∧
    (st = .armed → Completes (exec (.engineCmdStart t r e 0) s) (accepted 2 0)) ∧
    ((u.core e).active = true → Completes (exec (.engineCmdAbort t r e 0) s) (accepted 3 0)) ∧
    (st = .stopped ∨ ((u.core e).src.latch = true ∧ (u.core e).active = true) →
      hi < 2 ^ 19 → hi < partSize u.dev.dict.active e → reachable u e hi = true →
      Completes (exec (.engineCmdResume t r e hi) s) (accepted 4 hi)) ∧
    (st = .armed → Completes (exec (.engineCmdDisarm t r e 0) s) (accepted 5 0)) ∧
    (st = .stopped → Completes (exec (.engineCmdReset t r e 0) s) (accepted 6 0))

/-- The refusals of R106 that depend on the session and on the engine's state. -/
def Obligations.EngineCommandsRefused : Prop :=
  ∀ (t : Nat) (r : Req) (e : Fin 64) (s : State), let u := advance t s
    let st := (u.core e).st
    let away := (u.engine e).takeover ≠ none
    let refused := fun s' : State => Answers s' r (0x06100000 + engineState u e) ∧ s'.dev = u.dev ∧ (away → engineState u e = 6)
    let stranger := fun s' : State => Answers s' r 0x02010000 ∧ s'.dev = u.dev
    NewRequest u r → r.view = none → mooring u = false →
    (isHm u r.sess = true →
      (st ≠ .armed ∨ away → Completes (exec (.engineCmdStart t r e 0) s) refused ∧ Completes (exec (.engineCmdDisarm t r e 0) s) refused) ∧
      ((u.core e).active = false ∨ away → Completes (exec (.engineCmdAbort t r e 0) s) refused) ∧
      (st ≠ .stopped ∨ away → Completes (exec (.engineCmdReset t r e 0) s) refused) ∧
      (away → reachable u e 0 = true → 0 < partSize u.dev.dict.active e → Completes (exec (.engineCmdResume t r e 0) s) refused) ∧
      (away ∨ (st ≠ .idle ∧ st ≠ .stopped) → Completes (exec (.engineCmdArm t r e 0) s) refused)) ∧
    (isHm u r.sess = false →
      Completes (exec (.engineCmdArm t r e 0) s) stranger ∧ Completes (exec (.engineCmdStart t r e 0) s) stranger ∧
      Completes (exec (.engineCmdAbort t r e 0) s) stranger ∧ Completes (exec (.engineCmdResume t r e 0) s) stranger ∧
      Completes (exec (.engineCmdDisarm t r e 0) s) stranger ∧ Completes (exec (.engineCmdReset t r e 0) s) stranger)

/-- ENGINE_CMD_ACTION with one command due. -/
def Obligations.EngineCommandsAct : Prop :=
  ∀ (t : Nat) (e : Fin 64) (k : EngCmd) (s : State), let u := reach t s
    TickDue u e → (u.core e).pend = { EngPend.none with cmds := [k] } → k.tick ≤ u.now →
    Completes (exec (.engineCmdAction t e) s) fun s' =>
      (k.cmd = 1 → (u.core e).st = .idle ∨ (u.core e).st = .stopped → configured u e = true →
        (s'.core e).st = .armed ∧ (s'.core e).l0 = 0 ∧ (s'.core e).l1 = 0 ∧ (s'.core e).l2 = 0 ∧ (s'.core e).l3 = 0 ∧
        (s'.core e).stopCause = 0 ∧ (s'.core e).holdCause = 0 ∧ (s'.core e).play.pass = 0 ∧ (s'.core e).vals.inc = 0x100000000 ∧
        (s'.core e).vals.fund = 0 ∧ (s'.core e).vals.phi = 0 ∧ (s'.core e).vals.scale = 0x400000 ∧ (s'.core e).vals.offset = 0 ∧
        (s'.core e).vals.rampIndex = 0 ∧ (s'.core e).src.latch = false ∧ (s'.core e).play.code = (u.core e).play.code) ∧
      (k.cmd = 2 → (u.core e).st = .armed → EnteredStep s' u e (u.act (engIdx e 0) 4)) ∧
      (k.cmd = 3 → (u.core e).active = true → (s'.core e).st = .stopped ∧ (s'.core e).stopCause = 3 ∧
        (s'.core e).play.code = (u.core e).play.code ∧ lineAt s' (u.now + 1) (16 * e + 12) = true) ∧
      (k.cmd = 4 → (u.core e).st = .stopped → reachable u e k.step = true → EnteredStep s' u e k.step ∧
        ((u.entry e k.step).loopOp ≠ 1 → (s'.core e).l0 = (u.core e).l0 ∧ (s'.core e).l1 = (u.core e).l1 ∧
          (s'.core e).l2 = (u.core e).l2 ∧ (s'.core e).l3 = (u.core e).l3) ∧
        ((u.entry e k.step).loopOp = 1 → (s'.core e).loop (u.entry e k.step).loopSel = (u.entry e k.step).loopValue)) ∧
      (k.cmd = 5 → (u.core e).st = .armed → (s'.core e).st = .idle ∧ (s'.core e).play.code = idleCode u e) ∧
      (k.cmd = 6 → (u.core e).st = .stopped →
        (s'.core e).st = .idle ∧ (s'.core e).play.code = idleCode u e ∧ (s'.core e).src.latch = false) ∧
      (k.cmd = 2 → (u.core e).st = .idle → (s'.core e).st = .idle ∧
        (s'.core e).cnt.ignored = sat32 ((u.core e).cnt.ignored + 1)) ∧
      (s'.core e).pend.cmds = [] ∧ EngineFrame e s' u

/-- TASK_INPUT_EVENT, HOLD_IN, RELEASE, ABORT_INPUT and RATE_STEP. -/
def Obligations.EngineInputsRecordRequests : Prop :=
  ∀ (t : Nat) (e : Fin 64) (s : State), let u := reach t s
    let q := u.tickAt e (u.now + 16)
    let p := (u.core e).pend
    let ign := sat32 ((u.core e).cnt.ignored + 1)
    let frame := fun s' : State => (∀ j, j ≠ e.val → s'.engine j = u.engine j) ∧ (s'.core e).st = (u.core e).st ∧
      (s'.core e).play = (u.core e).play ∧ (s'.core e).vals = (u.core e).vals ∧ s'.link = u.link ∧
      s'.dev = { u.dev with engines := s'.dev.engines, fabric := { u.dev.fabric with inputs := s'.dev.fabric.inputs } }
    (∀ k : Fin 8, LoneEvent u e k → Completes (exec (.taskInputEvent t e k) s) fun s' =>
      ((u.core e).st = .armed → u.act (engIdx e 0) 3 = k.val + 1 → p.start = none → (s'.core e).pend = { p with start := some q }) ∧
      ((u.core e).st = .waiting → (u.core e).src.latch = false → (u.entry e (u.core e).play.step).waitSel = k.val + 1 →
        p.release = none → (s'.core e).pend.release = some q ∧ (s'.core e).pend.jump = p.jump) ∧
      ((u.core e).st = .running → (u.core e).src.latch = false → wakeArmed u e k = false →
        let w := mapWord u.dev.dict.active e (u.entry e (u.core e).play.step).jumpMap
        (mapEn w k = true → (e.val, mapTarget w k) ∉ u.dev.dict.commit.blocked →
          (mapAtEnd w k = false → (s'.core e).pend.jump = some { q := q, target := mapTarget w k } ∧
            (s'.core e).pend.atEnd = p.atEnd) ∧
          (mapAtEnd w k = true → (s'.core e).pend.atEnd = some { q := u.now, target := mapTarget w k } ∧
            (s'.core e).pend.jump = p.jump)) ∧
        (mapEn w k = false → (s'.core e).pend = p ∧ (s'.core e).cnt.ignored = ign)) ∧
      ((u.core e).st = .idle → (s'.core e).pend = p ∧ (s'.core e).cnt.ignored = ign) ∧
      ((u.core e).active = true → (u.core e).src.latch = true → (s'.core e).pend = p ∧ (s'.core e).cnt.ignored = ign) ∧
      (s'.engine e).log = (u.engine e).log ++ [(u.now, k.val)] ∧
      (u.dev.dict.commit.blocked = [] → frame s')) ∧
    (LoneEvent u e 8 → Completes (exec (.holdIn t e) s) fun s' =>
      ((u.core e).st = .running → (u.core e).src.latch = false → p.hold = none → (s'.core e).pend.hold = some q) ∧
      ((u.core e).st ≠ .running ∨ (u.core e).src.latch = true → (s'.core e).pend = p ∧ (s'.core e).cnt.ignored = ign) ∧ frame s') ∧
    (LoneEvent u e 9 → Completes (exec (.release t e) s) fun s' =>
      ((u.core e).st = .holding → (u.core e).holdCause = 1 → (u.core e).src.latch = false → p.unhold = none →
        (s'.core e).pend.unhold = some q) ∧
      ((u.core e).st ≠ .holding → (s'.core e).pend = p ∧ (s'.core e).cnt.ignored = ign) ∧ frame s') ∧
    (LoneEvent u e 10 → Completes (exec (.abortInput t e) s) fun s' =>
      ((u.core e).active = true ∨ (u.core e).st = .armed → p.abort = none → (s'.core e).pend.abort = some q) ∧
      ((u.core e).st = .idle ∨ (u.core e).st = .stopped → (s'.core e).pend = p ∧ (s'.core e).cnt.ignored = ign) ∧ frame s') ∧
    ((registerInput (12 * e + 11) u).2 = true → Completes (exec (.rateStep t e) s) fun s' =>
      ((∀ x ∈ p.rate, x.1 ≠ q) → (s'.core e).pend = { p with rate := p.rate ++ [(q, u.now)] }) ∧
      ((∃ x ∈ p.rate, x.1 = q) → (s'.core e).pend = p ∧ (s'.core e).cnt.ignored = ign) ∧ frame s')

/-- The requests of an engine's inputs at the tick at which they act. -/
def Obligations.EngineRequestsAct : Prop :=
  ∀ (t : Nat) (e : Fin 64) (q : Nat) (s : State), let u := reach t s
    TickDue u e → q ≤ u.now →
    (∀ k, (u.core e).pend = { EngPend.none with jump := some { q := q, target := k } } →
      Completes (exec (.immediateJump t e) s) fun s' =>
        ((u.core e).st = .running ∨ (u.core e).st = .waiting → (u.core e).src.latch = false →
          targetEn (targetWord u.dev.dict.active e k) = true →
          EnteredStep s' u e (targetStep (targetWord u.dev.dict.active e k))) ∧
        ((u.core e).st = .waiting → targetEn (targetWord u.dev.dict.active e k) = false →
          (s'.core e).st = .waiting ∧ (s'.core e).cnt.ignored = sat32 ((u.core e).cnt.ignored + 1)) ∧
        (s'.core e).pend.jump = none ∧ EngineFrame e s' u) ∧
    ((u.core e).pend = { EngPend.none with start := some q } → (u.core e).st = .armed →
      Completes (exec (.startByEvent t e) s) fun s' =>
        EnteredStep s' u e (u.act (engIdx e 0) 4) ∧ EngineFrame e s' u) ∧
    ((u.core e).pend = { EngPend.none with release := some q } → (u.core e).st = .waiting → (u.core e).src.latch = false →
      Completes (exec (.waitSelRelease t e) s) fun s' =>
        EnteredStep s' u e (u.entry e (u.core e).play.step).next ∧
        (s'.core e).cnt.releases = sat32 ((u.core e).cnt.releases + 1) ∧ EngineFrame e s' u) ∧
    ((u.core e).pend = { EngPend.none with hold := some q } → (u.core e).st = .running → (u.core e).src.latch = false →
      (u.core e).phase = .play → (passSum u (u.core e)).2 = 0 →
      Completes (exec (.holdTakesEffect t e) s) fun s' =>
        (s'.core e).st = .holding ∧ (s'.core e).holdCause = 1 ∧ (s'.core e).play.code = (u.core e).play.code ∧
        (s'.core e).play.x = (u.core e).play.x ∧ (s'.core e).play.pass = (u.core e).play.pass ∧ (s'.core e).l0 = (u.core e).l0 ∧
        (s'.core e).l1 = (u.core e).l1 ∧ (s'.core e).l2 = (u.core e).l2 ∧ (s'.core e).l3 = (u.core e).l3 ∧ EngineFrame e s' u) ∧
    ((u.core e).pend = { EngPend.none with unhold := some q } → (u.core e).st = .holding → (u.core e).holdCause = 1 →
      (u.core e).src.latch = false →
      Completes (exec (.releaseDeadTime t e) s) fun s' =>
        (s'.core e).st = .running ∧ (s'.core e).holdCause = 0 ∧ (s'.core e).phase = .dead 1 ∧
        (s'.core e).play.x = (u.core e).play.x ∧ (s'.core e).play.pass = (u.core e).play.pass ∧ EngineFrame e s' u) ∧
    ((u.core e).pend = { EngPend.none with abort := some q } →
      Completes (exec (.abortTakesEffect t e) s) fun s' =>
        ((u.core e).active = true → (s'.core e).st = .stopped ∧ (s'.core e).stopCause = 2 ∧
          (s'.core e).play.code = (u.core e).play.code ∧ lineAt s' (u.now + 1) (16 * e + 12) = true) ∧
        ((u.core e).st = .armed → (s'.core e).st = .idle ∧ (s'.core e).play.code = idleCode u e) ∧ EngineFrame e s' u)

/-- RATE_STEP_APPLICATION (R132). The pairs are the RAMP objects of the engine's block at offset 0x06. -/
def Obligations.RateStepsApply : Prop :=
  ∀ (t : Nat) (e : Fin 64) (q n : Nat) (s : State), let u := reach t s
    let o := engIdx e 6
    TickDue u e → q ≤ u.now → (u.core e).pend = { EngPend.none with rate := [(q, n)] } →
    ((u.core e).st = .running → (u.core e).phase = .dead 1) →
    Completes (exec (.rateStepApplication t e) s) fun s' =>
      ((u.core e).active = true → (u.core e).vals.rampIndex ≠ u.act o 6 →
        (s'.core e).vals.rampIndex = (u.core e).vals.rampIndex + 1 ∧
        (s'.core e).vals.inc = (if bit (u.act o 1) 0 then
          ((u.act o 2 : Int) + (u.core e).vals.rampIndex * toInt 64 (u.act o 3)).toNat else (u.core e).vals.inc) ∧
        (s'.core e).vals.fund = (if bit (u.act o 1) 1 then
          ((u.act o 4 : Int) + (u.core e).vals.rampIndex * toInt 64 (u.act o 5)).toNat else (u.core e).vals.fund)) ∧
      ((u.core e).active = false → (u.core e).st ≠ .fault → (s'.core e).cnt.ignored = sat32 ((u.core e).cnt.ignored + 1) ∧
        (s'.core e).vals.inc = (u.core e).vals.inc ∧ (s'.core e).vals.rampIndex = (u.core e).vals.rampIndex) ∧
      ((u.core e).active = true → (u.core e).vals.rampIndex = u.act o 6 →
        (s'.core e).cnt.ignored = sat32 ((u.core e).cnt.ignored + 1) ∧ (s'.core e).vals.inc = (u.core e).vals.inc) ∧
      (s'.core e).st = (u.core e).st ∧ EngineFrame e s' u

/-- UNDERRUN (R156 to R160). -/
def Obligations.UnderrunActs : Prop :=
  ∀ (t : Nat) (e : Fin 64) (q w : Nat) (s : State), let u := reach t s
    let c := u.core e
    let k := underrunTarget u.dev.dict.active e
    TickDue u e → q ≤ u.now → c.pend = { EngPend.none with underrun := some (q, w) } → c.st = .running →
    Completes (exec (.underrun t e) s) fun s' =>
      (s'.core e).src.ur = { step := c.play.step, tag := c.play.tag, pass := c.play.pass, l0 := c.l0, l1 := c.l1, l2 := c.l2, l3 := c.l3,
                             position := c.play.x, index := w, time := u.time } ∧
      (s'.core e).src.latch = true ∧ (s'.core e).src.underruns = sat32 (c.src.underruns + 1) ∧
      lineAt s' (u.now + 1) (16 * e + 11) = true ∧
      (k = 0xFF → (s'.core e).st = .holding ∧ (s'.core e).holdCause = 3 ∧ (s'.core e).play.code = c.play.code ∧
        (s'.core e).l0 = c.l0 ∧ (s'.core e).l1 = c.l1 ∧ (s'.core e).l2 = c.l2 ∧ (s'.core e).l3 = c.l3) ∧
      (k < 16 → targetEn (targetWord u.dev.dict.active e k) = true →
        EnteredStep s' u e (targetStep (targetWord u.dev.dict.active e k))) ∧
      (∀ n, sourceOf u e = some n → (u.seg n).kind = 5 → (s'.stream n).rp = (u.stream n).wp) ∧
      (∀ j, j ≠ e.val → s'.engine j = u.engine j) ∧ s'.dev.dict = u.dev.dict ∧ s'.dev.outs = u.dev.outs

/-- DECISION_POINT and CODE_FORMATION; `simTicks` runs the ticks before T. -/
def Obligations.DecisionsAndFormation : Prop :=
  (∀ (t : Nat) (e : Fin 64) (s : State), let u := reach t s
    let d := u.now + 24
    let x := simTicks e (d - u.gridE e) u
    d % u.gridE e = 0 → (u.core e).st = .running → (x.core e).st = .running → (x.core e).phase = .play →
    (passSum x (x.core e)).2 ≠ 0 →
    Completes (exec (.decisionPoint t e) s) fun s' =>
      (∃ w, { tick := d, what := w } ∈ (s'.core e).pend.decisions ∧
        ∀ j, (x.core e).pend.atEnd = some j → j.q ≤ u.now → targetEn (targetWord x.dev.dict.active e j.target) = true →
          w = .jump j.target) ∧
      (s'.core e).play = { (u.core e).play with action := (u.entry e (u.core e).play.step).endAction } ∧ (s'.core e).st = .running ∧ EngineOnly e s' u) ∧
  (∀ (t : Nat) (e : Fin 64) (s : State), let u := reach t s
    let d := u.now + 20
    let y := simTicks e d (modPend e (beforeEdge u) u)
    d % u.gridE e = 0 → sampled y e = true →
    Completes (exec (.codeFormation t e) s) fun s' =>
      (∀ w, missingWord u y e = some w → (s'.core e).pend = { (u.core e).pend with underrun := some (d, w) }) ∧
      (missingWord u y e = none → s' = u) ∧ (s'.core e).play = (u.core e).play ∧ EngineOnly e s' u)

/-- LATE_ENTRY_ARRIVAL and LIVE_INDEX_READ. -/
def Obligations.LateEntriesAndIndexReads : Prop :=
  (∀ (t : Nat) (e : Fin 64) (s : State), let u := reach t s
    let en := u.entry e (u.core e).play.step
    (u.core e).play.lateEntry = true → (u.core e).st = .running →
    Completes (exec (.lateEntryArrival t e) s) fun s' =>
      (s'.core e).play.lateEntry = false ∧ (s'.core e).play.entry = en ∧ (s'.core e).play.tag = en.tag ∧
      (s'.core e).play.seg = some en.segment ∧ (en.loopOp = 1 → (s'.core e).loop en.loopSel = en.loopValue) ∧
      ((u.core e).phase = .dead 2 → (s'.core e).phase = .first) ∧ (s'.core e).st = .running ∧
      (isSource (u.seg en.segment).kind = false → EngineOnly e s' u) ∧ EngineFrame e s' u) ∧
  (∀ (t : Nat) (e : Fin 64) (s : State), let u := reach t s
    (u.core e).play.lateEntry = false ∨ (u.core e).st ≠ .running → exec (.lateEntryArrival t e) s = .next u) ∧
  (∀ (t : Nat) (e : Fin 64) (m n : Nat) (s : State), let u := reach t s
    let g := u.seg n
    liveRead u e = some n → liveGrant u e n = true → (u.core e).src.nextRead = some m → m ≤ u.now → u.now ≤ m + 12 → (u.core e).src.latch = false →
    Completes (exec (.liveIndexRead t e) s) fun s' =>
      tget 0 n (s'.core e).src.iw = bankWord u (bits g.addr 6 0) ((bits g.addr 31 16 + g.items) % 65536) ∧
      (s'.core e).src.nextRead = some (m + 32) ∧
      (n ∉ (u.core e).src.rlSet →
        tget 0 n (s'.core e).src.rl = liveDiff (tget 0 n (s'.core e).src.iw) (u.act (engIdx e 7) 7)) ∧
      (∀ j, j ≠ e.val → s'.engine j = u.engine j) ∧ s'.dev.scratch = u.dev.scratch ∧ s'.dev.store = u.dev.store)

/-- OUTPUT_TICK at the engines (OutputTickLatchesCodes speaks of the outputs). -/
def Obligations.OutputTickRunsTheQuay : Prop :=
  ∀ (t : Nat) (q : Fin 8) (late det : Nat) (s : State), let u := reach t s
    u.dev.power.phase = .ready → u.now % u.grid q = 0 →
    Completes (exec (.outputTick t q { late := late, det := det }) s) fun s' =>
      (∀ k, k < 8 → (s'.core (8 * q + k)).lastTick = some u.now) ∧
      (∀ k, k < 8 → (u.core (8 * q + k)).lastTick ≠ some u.now → (u.core (8 * q + k)).pend = EngPend.none →
        ((u.core (8 * q + k)).st = .idle →
          (s'.core (8 * q + k)).st = .idle ∧ (s'.core (8 * q + k)).play.code = idleCode u (8 * q + k)) ∧
        ((u.core (8 * q + k)).st ∈ [EState.armed, .waiting, .holding, .stopped] →
          (s'.core (8 * q + k)).st = (u.core (8 * q + k)).st ∧
          (s'.core (8 * q + k)).play.code = (u.core (8 * q + k)).play.code)) ∧
      (∀ e, e / 8 ≠ q.val → s'.engine e = u.engine e) ∧ s'.dev.dict = u.dev.dict ∧ s'.dev.store.segs = u.dev.store.segs ∧
      s'.dev.store.content = u.dev.store.content ∧ s'.dev.scratch = u.dev.scratch

/-- CARRIER_PERIOD_START and CARRIER_TARGET. -/
def Obligations.CarrierEvents : Prop :=
  ∀ (t : Nat) (p : Fin 256) (tap : Nat) (s : State), let u := advance t s
    let i := 64 * u.now + tap
    let stays := fun s' : State => s'.dev.engines = u.dev.engines ∧ s'.dev.dict = u.dev.dict ∧ s'.dev.store = u.dev.store ∧
      s'.link = u.link ∧ (∀ x, x / 32 ≠ p.val / 32 → s'.line x = u.line x)
    (u.line p).queue = [] → (u.line (partner p)).queue = [] →
    (nextCarrier u p = some (i, .rise) → Completes (exec (.carrierTarget t p tap true) s) fun s' =>
      (s'.line p).w = true ∧ (s'.line p).rose = true ∧ (s'.line p).evAt = i ∧ stays s') ∧
    (nextCarrier u p = some (i, .fall) → Completes (exec (.carrierTarget t p tap false) s) fun s' =>
      (s'.line p).w = false ∧ (s'.line p).fell = true ∧ (s'.line p).evAt = i ∧ stays s') ∧
    (nextCarrier u p = some (i, .start) → awaits u p = false → awaits u (partner p) = false → (u.line p).declare = false →
      Completes (exec (.carrierPeriodStart t p tap) s) fun s' =>
        (s'.line p).w = false ∧ (s'.line p).rose = false ∧ (s'.line p).fell = false ∧ (s'.line p).perStart = i ∧
        (s'.line p).dw = dutyWord u p i ∧ (s'.line p).dwFall = dutyWord u p i ∧ stays s')

/-- The commands of PATTERN, ONESHOT and FOLLOW lines. -/
def Obligations.PatternsAndOneshots : Prop :=
  ∀ (t : Nat) (p : Fin 256) (tap : Nat) (s : State), let u := advance t s
    let w := reach t s
    let l := u.line p
    let i := 64 * u.now + tap
    let stays := fun s' : State => s'.dev.engines = u.dev.engines ∧ s'.dev.dict = u.dev.dict ∧ s'.dev.store = u.dev.store ∧
      s'.dev.ring = u.dev.ring ∧ s'.link = u.link
    ((registerInput (768 + p) w).2 = true → Completes (exec (.fire t p) s) fun s' =>
      let l := w.line p
      (l.set.mode = 3 → (∀ x, l.shot = some x → x.2 ≤ 64 * w.now) →
        (s'.line p).shot = some (64 * (w.now + 8) + l.set.osDelay, 64 * (w.now + 8) + l.set.osDelay + l.set.osWidth)) ∧
      (l.set.mode = 3 → (∃ x, l.shot = some x ∧ 64 * w.now < x.2) →
        s'.line p = { l with ignoredFires := sat32 (l.ignoredFires + 1) }) ∧
      (l.set.mode = 2 → l.set.patStart = 1 → (s'.line p).patDue = l.patDue ++ [64 * (w.now + 8)]) ∧
      (l.set.mode = 0 → s'.line p = { l with ignoredFires := sat32 (l.ignoredFires + 1) }) ∧
      (∀ x, x ≠ p.val → s'.line x = w.line x) ∧ s'.dev.outs = w.dev.outs ∧ s'.dev.engines = w.dev.engines ∧
      s'.dev.dict = w.dev.dict ∧ s'.dev.store = w.dev.store ∧ s'.dev.ring = w.dev.ring ∧ s'.link = w.link) ∧
    (l.set.mode = 2 → 64 * u.now ∈ l.patDue → Completes (exec (.patternStart t p) s) fun s' =>
      (s'.line p).pat =
        some { start := 64 * u.now, bit := 1, seg := l.set.patSeg, taps := l.set.patBit, passes := l.set.patRepeat } ∧
      (s'.line p).w = patternBit u (u.seg l.set.patSeg) 0 ∧ (∀ x ∈ (s'.line p).patDue, 64 * u.now < x) ∧ stays s') ∧
    (∀ r : PatRun, l.pat = some r → r.start + r.bit * r.taps = i → Completes (exec (.patternBit t p tap) s) fun s' =>
      let len := (u.seg r.seg).lengthM1 + 1
      (r.passes = 0 ∨ r.bit < r.passes * len → (s'.line p).pat = some { r with bit := r.bit + 1 } ∧
        (s'.line p).w = patternBit u (u.seg r.seg) (r.bit % len)) ∧
      (r.passes ≠ 0 → r.passes * len ≤ r.bit → (s'.line p).pat = none ∧ (s'.line p).w = false) ∧ stays s') ∧
    (∀ f, l.set.mode = 3 → l.shot = some (i, f) → Completes (exec (.oneshotRise t p tap) s) fun s' =>
      (s'.line p).w = true ∧ (s'.line p).shot = some (i, f) ∧ stays s') ∧
    (∀ b, l.set.mode = 3 → l.shot = some (b, i) → Completes (exec (.oneshotFall t p tap) s) fun s' =>
      (s'.line p).w = false ∧ (s'.line p).shot = none ∧ stays s') ∧
    (∀ v q, l.queue = (i, v) :: q → Completes (exec (.followEdge t p tap) s) fun s' =>
      (s'.line p).queue = q ∧ ((s'.line p).cmd = v ∨ (s'.line p).dropped = sat32 (l.dropped + 1)) ∧
      (s'.line p).w = l.w ∧ stays s')

/-- Comparator assertions, and what persists when blanking ends. -/
def Obligations.ComparatorsTripLines : Prop :=
  (∀ (t : Nat) (j : Fin 256) (tripAt : Nat) (s : State), let u := advance t s
    (u.cmp j).armed = true → (u.cmp j).arming = false → (u.cmp j).forced = false → (u.cmp j).asserted = false →
    blanked u j = false → (u.out (j / 4)).lost = false →
    Completes (exec (.comparatorTransition t j true tripAt) s) fun s' =>
      (s'.cmp j).asserted = true ∧ (s'.cmp j).latched = true ∧ (s'.cmp j).asserts = sat32 ((u.cmp j).asserts + 1) ∧
      (∀ p, p / 32 = j.val / 32 → p < 256 → linked u p = false → bit (u.act (lineIdx p) 2) (j % 32) = true →
        (s'.line p).trip = true ∧ (s'.line p).w = (u.line p).w ∧ (s'.line p).cmd = (u.line p).cmd ∧
        ((u.line p).trip = false → (s'.line p).trips = sat32 ((u.line p).trips + 1) ∧
          lineAt s' (max tripAt u.now + 3) (1280 + 2 * p) = true)) ∧
      (∀ p, p / 32 ≠ j.val / 32 → s'.line p = u.line p) ∧ (∀ x, x ≠ j.val → s'.cmp x = u.cmp x) ∧
      s'.dev.engines = u.dev.engines ∧ s'.dev.dict = u.dev.dict ∧ s'.dev.outs = u.dev.outs ∧ s'.dev.scratch = u.dev.scratch ∧
      s'.link = u.link) ∧
  (∀ (t : Nat) (j : Fin 256) (a : Bool) (tripAt : Nat) (s : State), let u := advance t s
    (u.cmp j).armed = false → exec (.comparatorTransition t j a tripAt) s = .next u) ∧
  (∀ (t : Nat) (c : Fin 64) (n : Nat) (s : State), let u := advance t s
    (u.out c).blankEnd = some n → n ≤ u.now → (u.out c).lost = false →
    Completes (exec (.blankingEnd t c) s) fun s' =>
      (s'.out c).blankEnd = none ∧
      (∀ k, k < 4 → bit (u.act (chIdx c 0x36) 3) k = true → (u.cmp (4 * c + k)).asserted = true →
        (∀ a, (u.cmp (4 * c + k)).seenAt = some a → a < n) →
        (s'.cmp (4 * c + k)).latched = true ∧ (s'.cmp (4 * c + k)).asserts = sat32 ((u.cmp (4 * c + k)).asserts + 1) ∧
        (∀ p, p / 32 = c.val / 8 → linked u p = false → bit (u.act (lineIdx p) 2) ((4 * c + k) % 32) = true →
          (s'.line p).trip = true)) ∧
      (∀ k, k < 4 → bit (u.act (chIdx c 0x36) 3) k = false ∨ (∃ a, (u.cmp (4 * c + k)).seenAt = some a ∧ n ≤ a) →
        s'.cmp (4 * c + k) = u.cmp (4 * c + k)) ∧
      s'.dev.engines = u.dev.engines ∧ s'.dev.dict = u.dev.dict ∧ s'.dev.scratch = u.dev.scratch ∧ s'.link = u.link)

/-- TRIP_CLEAR, the release at a period start, and the trip gate: ball levels 0 low, 1 high, 2 high impedance are named by `ballLevel`. -/
def Obligations.TrippedLinesAndTheirRelease : Prop :=
  ((∀ (t : Nat) (r : Req) (p : Fin 256) (s : State), let u := advance t s
     NewRequest u r → MayWrite u r (lineIdx p) →
     Completes (exec (.tripClear t r p 1) s) fun s' =>
       Answers s' r 0 ∧ (s'.line (if linked u p then p / 2 * 2 else p)).clearArmed = true ∧
       (∀ x, (s'.line x).trip = (u.line x).trip ∧ (s'.line x).cmd = (u.line x).cmd) ∧
       (∀ x, x ≠ (if linked u p then p.val / 2 * 2 else p) → s'.line x = u.line x) ∧
       s'.dev = { u.dev with lines := s'.dev.lines }) ∧
   (∀ (t : Nat) (p : Fin 256) (tap : Nat) (s : State), let u := advance t s
     (u.line p).queue = [] → (u.line (partner p)).queue = [] → nextCarrier u p = some (64 * u.now + tap, .start) →
     awaits u p = false → awaits u (partner p) = false → (u.line p).declare = false → linked u p = false →
     (u.line p).trip = true → (u.line p).clearArmed = true ∨ cycleMode u p = true →
     (∀ k, k < 32 → (u.cmp (32 * (p / 32) + k)).asserted = false) →
     Completes (exec (.carrierPeriodStart t p tap) s) fun s' => (s'.line p).trip = false ∧ (s'.line p).clearArmed = false)) ∧
  (∀ (s : State) (p : Nat), (s.line p).trip = true →
     (safeState s p = 0 → ballLevel s p = 2) ∧ (safeState s p = 1 → ballLevel s p = 0) ∧ (safeState s p = 2 → ballLevel s p = 1) ∧
     (∀ b, ballLevel (modLine p (fun l => { l with cmd := b }) s) p = ballLevel s p))

/-- ENABLE_SEQUENCE_STEP, SOFT_PARK_STEP and RANGE_CHANGE_STEP; no newer mode and range waits (`rangeNext`). -/
def Obligations.OutputSequences : Prop :=
  ∀ (t : Nat) (c : Fin 64) (q : Seq) (d : Nat) (s : State), let u := advance t s
    let o := u.out c
    let stays := fun s' : State => (∀ x, x ≠ c.val → s'.out x = u.out x) ∧ s'.dev = { u.dev with outs := s'.dev.outs } ∧ s'.link = u.link
    seqCount u c = some (q, d) → o.rangeNext = false → o.rangeSwitchAt = none →
    (q.kind = .enable → Completes (exec (.enableSequenceStep t c) s) fun s' =>
      (d = 800 → (s'.out c).amp = true ∧ (s'.out c).dac = zeroCode u c) ∧
      (d = 1560 → (s'.out c).parkSwitch = false ∧ (s'.out c).parkCause = 0) ∧
      (d = 2800 → (s'.out c).enabled = true ∧ (s'.out c).seq = none ∧ (s'.out c).dac = dacOf u c (linkCode u c)) ∧
      (d < 2800 → (s'.out c).seq = some q ∧ (s'.out c).enabled = o.enabled) ∧ stays s') ∧
    (q.kind = .softPark → Completes (exec (.softParkStep t c) s) fun s' =>
      (d = 1200 → (s'.out c).dac = zeroCode u c) ∧ (d = 1240 → (s'.out c).parkSwitch = true) ∧
      (d = 1280 → (s'.out c).amp = false ∧ (s'.out c).parkCause = 2 ∧ (s'.out c).seq = none) ∧
      (d < 1280 → (s'.out c).seq = some q) ∧ stays s') ∧
    (q.kind = .rangeChange → Completes (exec (.rangeChangeStep t c) s) fun s' =>
      (d = 1240 → (s'.out c).parkSwitch = true) ∧
      (d = 2000 → (s'.out c).modeIn = q.mode ∧ (s'.out c).rangeIn = q.range ∧ (s'.out c).rangePending = false) ∧
      (d = 3560 → (s'.out c).parkSwitch = false) ∧
      (d = 4800 → (s'.out c).rangeChanges = sat32 (o.rangeChanges + 1) ∧ (s'.out c).seq = none) ∧
      (d < 4800 → (s'.out c).seq = some q) ∧ stays s')

/-- OUTPUT_TICK at the outputs. -/
def Obligations.OutputTickLatchesCodes : Prop :=
  ∀ (t : Nat) (q : Fin 8) (late det : Nat) (s : State), let u := reach t s
    u.dev.power.phase = .ready → u.now % u.grid q = 0 →
    Completes (exec (.outputTick t q { late := late, det := det }) s) fun s' =>
      (∀ k, k < 8 → (u.out (8 * q + k)).lost = false → (s'.engine (8 * q + k)).takeover = none →
        let d := mapCode (gainK u (8 * q + k)) (offsetC u (8 * q + k)) (s'.core (8 * q + k)).play.code
        ((u.out (8 * q + k)).seq = none → (s'.out (8 * q + k)).dac = d) ∧
        (∀ x, (u.out (8 * q + k)).seq = some x → x.start = u.now → x.latch = true →
          (s'.out (8 * q + k)).dac = d ∧ (s'.out (8 * q + k)).seq = some { x with from_ := d }) ∧
        (∀ x, (u.out (8 * q + k)).seq = some x → x.start ≠ u.now → (s'.out (8 * q + k)).dac = (u.out (8 * q + k)).dac)) ∧
      (∀ k, k < 8 → (u.out (8 * q + k)).lost = false →
        (s'.out (8 * q + k)).det = bits det (4 * k + 3) (4 * k) % 8 ∧ (s'.out (8 * q + k)).limit = bit (bits det (4 * k + 3) (4 * k)) 3) ∧
      (∀ k, k < 8 → (u.out (8 * q + k)).lost = true → (s'.out (8 * q + k)).dac = (u.out (8 * q + k)).dac) ∧
      (∀ c, c / 8 ≠ q.val → (s'.out c).dac = (u.out c).dac) ∧ s'.dev.cals = u.dev.cals

/-- SUPERVISION_FLAG, OUT_RESTART and OUT_RESTART_ACTION. -/
def Obligations.SupervisionParks : Prop :=
  (∀ (t : Nat) (c : Fin 64) (f : Fin 3) (s : State), let u := advance t s
    watched u c f = true → (u.out c).parkCause = 0 →
    Completes (exec (.supervisionFlag t c f) s) fun s' =>
      bit (s'.out c).supFlags f = true ∧ lineAt s' (u.now + 4) (2032 + c / 8) = true ∧
      (f = 0 → (s'.out c).compliance = sat32 ((u.out c).compliance + 1)) ∧
      (f = 1 → (s'.out c).openCnt = sat32 ((u.out c).openCnt + 1)) ∧
      (f = 2 → (s'.out c).overcurrent = sat32 ((u.out c).overcurrent + 1)) ∧
      (s'.out c).parkCause = 0 ∧ (s'.out c).enabled = true ∧
      ((u.out c).parkDue = none → bit (u.act (chIdx c 0) 4) f = true → (s'.out c).parkDue = some (u.now + 1, 3, f.val)) ∧
      (bit (u.act (chIdx c 0) 4) f = false → (s'.out c).parkDue = (u.out c).parkDue) ∧
      (∀ x, x ≠ c.val → s'.out x = u.out x) ∧ s'.dev.engines = u.dev.engines ∧ s'.dev.dict = u.dev.dict ∧ s'.dev.lines = u.dev.lines) ∧
  (∀ (c f : Nat) (s : State), s.dev.clock.numbering = .plain → (s.out c).parkDue = some (s.now + 1, 3, f) → (s.out c).parkCause = 0 →
    (s.out c).lost = false →
    let v := advance (s.now + 1) s
    v.now = s.now + 1 ∧ (v.out c).parkCause = 3 ∧ (v.out c).parkEdge = s.now + 1 ∧ (v.out c).parkFlag = f ∧ (v.out c).parkSwitch = true ∧
    (v.out c).amp = false ∧ (v.out c).enabled = false ∧ (v.out c).parkDue = none ∧ v.dev.engines = s.dev.engines ∧
    v.dev.lines = s.dev.lines) ∧
  (∀ (t : Nat) (r : Req) (c : Fin 64) (det : Nat) (s : State), let u := advance t s
    NewRequest u r → MayWrite u r (chIdx c 0) →
    Completes (exec (.outRestart t r c 1 det) s) fun s' =>
      ((u.out c).parkCause = 3 → (u.out c).lost = false → u.act (chIdx c 0) 1 = 1 → bit (det % 8) (u.out c).parkFlag = false →
        Answers s' r 0 ∧ ∃ n, (s'.out c).restartAt = some n ∧ u.now + 16 ≤ n ∧ n % 400 = 0 ∧ n % u.gridE c = 0) ∧
      ((u.out c).parkCause ≠ 3 → Answers s' r (0x06200000 + c) ∧ (s'.out c).restartAt = (u.out c).restartAt) ∧
      ((u.out c).lost = false → (s'.out c).det = det % 8) ∧ (∀ x, x ≠ c.val → s'.out x = u.out x) ∧ s'.dev = { u.dev with outs := s'.dev.outs }) ∧
  (∀ (t : Nat) (c : Fin 64) (det : Nat) (s : State), let u := advance t s
    (u.out c).restartAt = some u.now → (u.out c).parkCause = 3 → (u.out c).lost = false → u.act (chIdx c 0) 1 = 1 →
    bit (det % 8) (u.out c).parkFlag = false →
    Completes (exec (.outRestartAction t c det) s) fun s' =>
      (∃ q, (s'.out c).seq = some q ∧ q.kind = .enable ∧ q.start = u.now) ∧ (s'.out c).restartAt = none ∧
      (∀ x, x ≠ c.val → s'.out x = u.out x) ∧ s'.dev = { u.dev with outs := s'.dev.outs })

/-- R222, sentence by sentence. -/
def Obligations.SupClearClearsFlags : Prop :=
  (∀ (t : Nat) (r : Req) (c : Fin 64) (v : Nat) (s : State), let u := advance t s
    NewRequest u r → MayWrite u r (chIdx c 0) → v < 8 →
    Completes (exec (.supClear t r c v) s) fun s' =>
      Answers s' r 0 ∧ (∀ k, bit (s'.out c).supFlags k = (bit (u.out c).supFlags k && !bit v k)) ∧
      s'.out c = { u.out c with supFlags := (s'.out c).supFlags } ∧ (∀ x, x ≠ c.val → s'.out x = u.out x) ∧
      s'.dev = { u.dev with outs := s'.dev.outs }) ∧
  (∀ (t : Nat) (r : Req) (c : Fin 64) (v : Nat) (s : State), let u := advance t s
    NewRequest u r → isHm u r.sess = false →
    Completes (exec (.supClear t r c v) s) fun s' => Answers s' r 0x02010000 ∧ s'.dev = u.dev) ∧
  (∀ (t : Nat) (c : Fin 64) (f : Fin 3) (s : State), watched (advance t s) c f = true →
    Completes (exec (.supervisionFlag t c f) s) fun s' => bit (s'.out c).supFlags f = true)

/-- MONITOR_SLOT and MONITOR_RESULT. -/
def Obligations.MonitorConversions : Prop :=
  (∀ (t : Nat) (c : Fin 64) (sample : Int) (s : State), let u := reach t s
    let n := u.act (chIdx c 0x18) 1 / 2 ^ (4 * (u.now / 200 % 16)) % 16
    u.now % 200 = 0 → (u.sense c).conv = none → (u.sense c).arms = [] → (u.sense c).checks = [] →
    Completes (exec (.monitorSlot t c sample) s) fun s' =>
      (n ≠ 15 → (s'.sense c).conv = some { at_ := u.now, kind := .sequence, source := n, value := max (-131072) (min sample 131071) }) ∧
      (n = 15 → (s'.sense c).conv = none) ∧ (s'.sense c).results = (u.sense c).results ∧
      (∀ x, x ≠ c.val → s'.sense x = u.sense x) ∧ s'.dev = { u.dev with senses := s'.dev.senses } ∧ s'.link = u.link) ∧
  (∀ (t : Nat) (c : Fin 64) (v : Conv) (s : State), let u := advance t s
    (u.sense c).conv = some v → v.at_ + 200 = u.now →
    Completes (exec (.monitorResult t c) s) fun s' =>
      (s'.sense c).conv = none ∧ tget 0 v.source (s'.sense c).results = v.value ∧
      (v.kind = .sequence → v.source ≠ 7 → s'.dev = { u.dev with senses := s'.dev.senses } ∧ s'.link = u.link) ∧
      (∀ k, k < 4 → v.kind = .check k → cmpEnabled u (4 * c + k) = true →
        (∀ a, (u.cmp (4 * c + k)).thChanged = some a → a < v.at_) → 16 * (u.act (chIdx c 0x19) 2) < (v.value - cmpTh u (4 * c + k)).natAbs →
        (s'.cmp (4 * c + k)).thFail = true ∧ (s'.sense c).checkFails = sat32 ((u.sense c).checkFails + 1) ∧
        lineAt s' (u.now + 3) (2024 + c / 8) = true) ∧
      s'.dev.dict = u.dev.dict ∧ s'.dev.engines = u.dev.engines)

/-- ARM_EDGE, TH_CHECK_PERIODIC and TH_CHECK_REQ. -/
def Obligations.ArmingAndChecks : Prop :=
  (∀ (t : Nat) (c : Fin 64) (i : Fin 2) (s : State), let u := advance t s
    let m := if i.val = 0 then (u.sense c).armCodeA else (u.sense c).armCodeB
    (i.val, u.now) ∈ (u.sense c).edges →
    Completes (exec (.armEdge t c i) s) fun s' =>
      (i.val, u.now) ∉ (s'.sense c).edges ∧
      (∀ k, k < 2 → (u.cmp (4 * c + 2 * i + k)).arming = true → (u.cmp (4 * c + 2 * i + k)).armFrom + 604 ≤ u.now →
        (s'.cmp (4 * c + 2 * i + k)).armed = true ∧ (s'.cmp (4 * c + 2 * i + k)).arming = false ∧
        (s'.cmp (4 * c + 2 * i + k)).inBand = inBand u (4 * c + 2 * i + k) m) ∧
      (∀ x, x / 4 ≠ c.val → s'.cmp x = u.cmp x) ∧ s'.dev.dict = u.dev.dict ∧ s'.dev.engines = u.dev.engines ∧
      s'.dev.outs = u.dev.outs ∧ s'.link = u.link) ∧
  (∀ (t : Nat) (s : State), let u := advance t s
    Completes (exec (.thCheckPeriodic t) s) fun s' =>
      (∀ c k, c < 64 → k < 4 → u.act (chIdx c 0x19) 1 ≠ 0 → u.now % (u.act (chIdx c 0x19) 1 * 400000) = 0 →
        k ∈ (s'.sense c).checks) ∧
      (∀ c, u.act (chIdx c 0x19) 1 = 0 → s'.sense c = u.sense c) ∧ s'.dev = { u.dev with senses := s'.dev.senses } ∧
      s'.link = u.link) ∧
  (∀ (t : Nat) (r : Req) (c : Fin 64) (s : State), let u := advance t s
    NewRequest u r → MayWrite u r (chIdx c 0x19) →
    Completes (exec (.thCheckReq t r c 1) s) fun s' =>
      Answers s' r 0 ∧ (∀ k, k < 4 → k ∈ (s'.sense c).checks) ∧
      (∀ x, x ≠ c.val → s'.sense x = u.sense x) ∧ s'.dev = { u.dev with senses := s'.dev.senses })

/-- The three bits of CMP_CLEAR. -/
def Obligations.CmpClear : Prop :=
  ∀ (t : Nat) (r : Req) (j : Fin 256) (s : State), let u := advance t s
    NewRequest u r → MayWrite u r (cmpIdx j) →
    (Completes (exec (.cmpClearLatch t r j) s) fun s' =>
      Answers s' r 0 ∧
      (bit (u.act (cmpIdx j) 5) 0 = false → cmpSeen u j = false → s'.cmp j = { u.cmp j with latched := false }) ∧
      (bit (u.act (cmpIdx j) 5) 0 = false → cmpSeen u j = true →
        s'.cmp j = { u.cmp j with clearFails := sat32 ((u.cmp j).clearFails + 1) }) ∧
      (bit (u.act (cmpIdx j) 5) 0 = true → s'.cmp j = u.cmp j) ∧
      (∀ x, x ≠ j.val → s'.cmp x = u.cmp x) ∧ s'.dev = { u.dev with cmps := s'.dev.cmps }) ∧
    (Completes (exec (.cmpClearInBand t r j) s) fun s' =>
      Answers s' r 0 ∧ s'.cmp j = { u.cmp j with inBand := false } ∧ (∀ x, x ≠ j.val → s'.cmp x = u.cmp x) ∧
      s'.dev = { u.dev with cmps := s'.dev.cmps }) ∧
    (Completes (exec (.cmpClearForce t r j) s) fun s' =>
      Answers s' r 0 ∧ (s'.cmp j).forced = false ∧ (s'.cmp j).thFail = false ∧
      (cmpEnabled u j = true → j.val % 4 ∈ (s'.sense (j / 4)).checks) ∧ (∀ x, x ≠ j.val → s'.cmp x = u.cmp x) ∧
      s'.dev.dict = u.dev.dict ∧ s'.dev.engines = u.dev.engines)

/-- The SYNC, REFCLK and PTP commands. The PTP trim and the time of a holdover are free values (`Config.servoTrim`, `Config.holdoverTime`); the
statement holds for every one (log entry 20). The watch of SYNC at a start is the model's reading (log entry 60). -/
def Obligations.ClockReferences : Prop :=
  ((∀ (t : Nat) (s : State), let u := advance t s
     let d := syncDifference u.now
     (∀ l e p, u.dev.clock.numbering ≠ .watch l e p) →
     u.dev.clock.syncSource = 1 → u.dev.clock.holdover = false → u.dev.clock.relocking = false →
     Completes (exec (.syncEdge t) s) fun s' =>
       s'.dev.clock.syncOffset = d ∧ s'.dev.clock.lastSync = some u.now ∧
       (d.natAbs ≤ 1 → s'.dev.clock.syncMissed = false ∧ s'.dev.clock.syncSlips = u.dev.clock.syncSlips) ∧
       (1 < d.natAbs → s'.dev.clock.syncSlips = sat32 (u.dev.clock.syncSlips + 1)) ∧
       (u.dev.clock.realign = true → s'.dev.clock.realign = false ∧ s'.dev.clock.numbering = .realign (u.now + 64)) ∧
       (u.dev.clock.realign = false → s'.dev.clock.numbering = u.dev.clock.numbering) ∧
       s'.now = u.now ∧ s'.dev.engines = u.dev.engines ∧ s'.dev.dict = u.dev.dict) ∧
   (∀ (t lock : Nat) (edges : List Nat) (epoch : Option Nat) (s : State), let u := advance t s
     u.dev.clock.numbering = .watch lock edges epoch →
     Completes (exec (.syncEdge t) s) fun s' =>
       (u.now ≤ lock + 2000000 → u.now - 400000 ∈ edges → u.now - 800000 ∈ edges → 800000 ≤ u.now → u.dev.ring.masterSync ≠ some false →
         s'.dev.clock.syncSource = 1 ∧ s'.dev.clock.numbering = .watch lock (u.now :: edges) none) ∧
       (lock + 2000000 < u.now → epoch = none → u.dev.ring.epochShift = 0 →
         s'.dev.clock.numbering = .watch lock (u.now :: edges) (some (u.now + 64))) ∧
       s'.now = u.now ∧ s'.dev = { u.dev with clock := s'.dev.clock } ∧ s'.link = u.link) ∧
   (∀ (t : Nat) (s : State), let u := advance t s
     u.dev.clock.syncSource = 1 → u.dev.clock.holdover = false → u.dev.clock.relocking = false → (u.now + 62) % 400000 = 0 →
     ((∀ e, u.dev.clock.lastSync = some e → e + 3 < u.now) →
       exec (.syncMiss t) s = .next (modClock (fun c => { c with syncMissed := true, syncMisses := sat32 (c.syncMisses + 1) }) u)) ∧
     (∀ e, u.dev.clock.lastSync = some e → u.now ≤ e + 3 → exec (.syncMiss t) s = .next u)) ∧
   (∀ (t : Nat) (r : Req) (s : State), let u := advance t s
     NewRequest u r → MayWrite u r 0x2001 → u.dev.clock.syncSource = 1 → u.dev.clock.holdover = false → inRing u = false →
     (∀ e, e < 64 → engineRests u e = true) →
     Completes (exec (.syncRealign t (some r) 1 none) s) fun s' =>
       Answers s' r 0 ∧
       s'.dev = { u.dev with clock := { u.dev.clock with realign := true }, ring := { u.dev.ring with blocker := none } }) ∧
   (∀ (t v : Nat) (b : Option (Nat × Nat)) (s : State), let u := advance t s
     (inRing u = true → u.dev.ring.master ≠ u.dev.ring.devpos → u.dev.clock.numbering = .plain →
       exec (.syncRealign t none v b) s = .next (modClock (fun c => { c with realign := true }) u)) ∧
     (inRing u = false ∨ u.dev.ring.master = u.dev.ring.devpos → exec (.syncRealign t none v b) s = .next u)) ∧
   (∀ (n : Nat) (s : State), s.dev.clock.numbering = .realign n → s.now ≤ n →
     (advance n s).now % 400000 = 0 ∧ n ≤ (advance n s).now ∧ (advance n s).now < n + 400000 ∧
     (advance n s).dev.clock.numbering = .plain) ∧
   (∀ (lock n : Nat) (edges : List Nat) (s : State), s.dev.clock.numbering = .watch lock edges (some n) → s.now ≤ n →
     (advance n s).now = 0 ∧ (advance n s).dev.clock.epochSet = true) ∧
   (∀ (t : Nat) (s : State), let u := advance t s
     u.dev.clock.refPresent = true →
     Completes (exec (.refclkLoss t) s) fun s' =>
       s'.dev.clock = { u.dev.clock with refPresent := false, locked := false, holdover := true, relocking := false,
                                         refLosses := sat32 (u.dev.clock.refLosses + 1), holdFrom := u.now } ∧
       s'.dev.engines = u.dev.engines ∧ s'.dev.dict = u.dev.dict) ∧
   (∀ (t ns : Nat) (s : State), let u := advance t s
     u.dev.clock.holdover = true → (ns < 1000000 → exec (.refclkReturn t ns) s = .next u) ∧ (1000000 ≤ ns →
     Completes (exec (.refclkReturn t ns) s) fun s' =>
       s'.dev.clock.holdover = false ∧ s'.dev.clock.refPresent = true ∧ s'.dev.clock.relocking = true ∧
       s'.dev.clock.holdoverNs = holdoverNs u ∧ holdoverNs s' = holdoverNs u ∧ s'.dev = { u.dev with clock := s'.dev.clock } ∧
       s'.link = u.link)) ∧
   (∀ (t : Nat) (s : State), let u := advance t s
     u.dev.clock.relocking = true →
     Completes (exec (.refclkRelocked t) s) fun s' =>
       s'.dev.clock.relocking = false ∧ s'.dev.clock.locked = true ∧ s'.dev = { u.dev with clock := s'.dev.clock } ∧ s'.link = u.link)) ∧
  (∀ (t : Nat) (port : Fin 2) (s : State), let u := advance t s
     linkServes u = true → (u.port port).up = true → u.rwv 0x1110 1 = 1 →
     (∀ (two : Bool) (t1 t2 t3 t4 : Int), u.dev.clock.lclkPort = port.val → let ns := ((t2 - t1) - (t4 - t3)) / 2
       Completes (exec (.ptpMessage t port (.exchange (u.rwv 0x1110 2) two t1 t2 t3 t4)) s) fun s' =>
       s'.link.ptpOffset = ns ∧ s'.now = u.now ∧ s'.dev.engines = u.dev.engines ∧ s'.dev.dict = u.dev.dict ∧
       (u.rwv 0x1110 5 < ns.natAbs → s'.dev.clock.timeAcc = ((u.dev.clock.timeAcc : Int) - ns * 2 ^ 32).toNat ∧
         lineAt s' (u.now + 1) 2040 = true) ∧
       (ns.natAbs ≤ u.rwv 0x1110 5 → s'.dev.clock.timeAcc = u.dev.clock.timeAcc ∧
         10737418240 - 5368709 ≤ s'.dev.clock.timeRate ∧ s'.dev.clock.timeRate ≤ 10737418240 + 5368709)) ∧
     (Completes (exec (.ptpMessage t port (.announce (u.rwv 0x1110 2))) s) fun s' =>
       (port.val = 0 → s'.link.announce0 = true) ∧ (port.val = 1 → s'.link.announce1 = true) ∧ s'.dev = u.dev) ∧
     (∀ d, d ≠ u.rwv 0x1110 2 → exec (.ptpMessage t port (.announce d)) s = .next u ∧
       ∀ (two : Bool) (t1 t2 t3 t4 : Int), exec (.ptpMessage t port (.exchange d two t1 t2 t3 t4)) s = .next u))

/-- The cell commands of the ring. -/
def Obligations.HawserCells : Prop :=
  (∀ (t : Nat) (s : State), let u := advance t s
    u.now % 16 = 0 → ringRuns u = true → u.dev.ring.window ≠ u.now / 16 →
    Completes (exec (.hawserCellSend t) s) fun s' =>
      s'.dev.ring.window = u.now / 16 ∧ s'.dev.ring.sentEast = cellBytes (u.now / 16) (u.dev.ring.tx ++ u.dev.ring.fwdEast) ∧
      s'.dev.ring.sentWest = cellBytes (u.now / 16) (u.dev.ring.tx ++ u.dev.ring.fwdWest) ∧ s'.dev.ring.tx = [] ∧
      s'.dev.ring.fwdEast = [] ∧ s'.dev.ring.fwdWest = [] ∧ s'.dev = { u.dev with ring := s'.dev.ring } ∧ s'.link = u.link) ∧
  (∀ (w : Nat) (l : List HwRecord), cellOk (cellBytes w l) = true ∧ cellSeq (cellBytes w l) = w % 256 ∧ (cellBytes w l).length = 50) ∧
  (∀ (t : Nat) (x : Fin 64) (s : State), let u := reach t s
    (registerInput (1184 + x) u).2 = true → ringRuns u = true → u.dev.ring.window = u.now / 16 →
    Completes (exec (.hawserOutboundEvent t x) s) fun s' =>
      s'.dev.ring.tx.length ≤ 2 ∧
      (u.dev.ring.tx.length < 2 →
        ({ xline := x, offset := u.now % 16, src := u.dev.ring.devpos } : HwRecord) ∈ s'.dev.ring.tx ∧
        s'.dev.ring.txDrops = u.dev.ring.txDrops) ∧
      (u.dev.ring.tx.length = 2 → s'.dev.ring.txDrops = sat32 (u.dev.ring.txDrops + 1)) ∧
      s'.dev.engines = u.dev.engines ∧ s'.dev.dict = u.dev.dict) ∧
  (∀ (t : Nat) (west : Bool) (start : Byte) (body : List Byte) (crc : Nat) (x : HwRecord) (s : State), let u := advance t s
    let cell := cellOf start body crc
    let e := eventEdge u (cellSeq cell) (hopsOf u west x.src) x.offset
    let hops := if u.act 0x2020 6 = 1 then u.dev.ring.size - 1 else hopsOf u west x.src
    cellOk cell = true → cellRecords cell = [x] →
    ringRuns u = true → (linkOf u west).lane0 = true → u.dev.ring.window = u.now / 16 → x.src ≠ u.dev.ring.devpos →
    Completes (exec (.hawserCell t west 0 start body crc) s) fun s' =>
      (pathNamed u west x.src = true → ∃ due, (due, e, x.xline, x.src) ∈ s'.dev.ring.rx) ∧
      (∀ y ∈ s'.dev.ring.rx, y ∈ u.dev.ring.rx ∨ (pathNamed u west x.src = true ∧ y = (e + 40 * hops, e, x.xline, x.src))) ∧
      (west = true → x ∈ s'.dev.ring.fwdEast ∧ s'.dev.ring.fwdWest = u.dev.ring.fwdWest) ∧
      (west = false → x ∈ s'.dev.ring.fwdWest ∧ s'.dev.ring.fwdEast = u.dev.ring.fwdEast) ∧
      (linkOf s' west).run0 = 0 ∧ s'.dev = { u.dev with ring := s'.dev.ring } ∧ s'.link = u.link) ∧
  (∀ (t : Nat) (west : Bool) (start : Byte) (body : List Byte) (crc : Nat) (s : State), let u := advance t s
    let cell := cellOf start body crc
    cellOk cell = false → ringRuns u = true → (linkOf u west).lane0 = true →
    Completes (exec (.hawserCell t west 0 start body crc) s) fun s' =>
      (linkOf s' west).err0 = sat32 ((linkOf u west).err0 + 1) ∧
      ((linkOf s' west).lane0 = false ↔ 4 ≤ (linkOf u west).run0 + 1) ∧ s'.dev.ring.rx = u.dev.ring.rx) ∧
  (∀ (t : Nat) (x : Fin 64) (due e src : Nat) (s : State), let u := advance t s
    (due, e, x.val, src) ∈ u.dev.ring.rx → due = u.now →
    Completes (exec (.hawserInboundEvent t x) s) fun s' =>
      lineAt s' u.now (1952 + x) = true ∧ s'.dev = { u.dev with fabric := s'.dev.fabric } ∧ s'.link = u.link) ∧
  (∀ (t : Nat) (west : Bool) (lane : Fin 2) (s : State), let u := advance t s
    (if lane.val = 0 then (linkOf u west).lane0 else (linkOf u west).lane1) = true →
    Completes (exec (.hawserLaneLost t west (.own lane)) s) fun s' =>
      (if lane.val = 0 then (linkOf s' west).lane0 else (linkOf s' west).lane1) = false ∧
      (linkOf s' west).laneLosses = sat32 ((linkOf u west).laneLosses + 1) ∧
      linkOf s' (!west) = linkOf u (!west) ∧ lineAt s' u.now 2042 = true ∧
      ((linkOf s' west).up = false → ownLink u west ∈ s'.dev.ring.lostLinks ∧ (u.dev.ring.st = 3 → s'.dev.ring.st = 4)) ∧
      s'.dev.dict = u.dev.dict) ∧
  (∀ (t p : Nat) (west : Bool) (s : State), let u := advance t s
    ringRuns u = true → p < u.dev.ring.size →
    Completes (exec (.hawserLaneLost t west (.away p)) s) fun s' =>
      sideLink u p west ∈ s'.dev.ring.lostLinks ∧ (u.dev.ring.st = 3 → s'.dev.ring.st = 4) ∧ linkOf s' = linkOf u ∧
      s'.dev = { u.dev with ring := s'.dev.ring } ∧ s'.link = u.link)

/-- The commands that form and keep the ring. -/
def Obligations.RingFormation : Prop :=
  (∀ (t lock : Nat) (edges : List Nat) (epoch : Option Nat) (f : RingFacts) (s : State), let u := advance t s
    u.dev.ring.st = 1 → u.dev.clock.numbering = .watch lock edges epoch →
    Completes (exec (.ringDiscovery t (.found f)) s) fun s' =>
      (ringError u.dev.ring.devpos f.positions = 0 →
        s'.dev.ring.st = 2 ∧ s'.dev.ring.size = f.positions.length ∧ s'.dev.ring.master = f.positions.foldl min 7 ∧
        s'.dev.ring.members = 0 ∧ s'.dev.ring.east.up = true ∧ s'.dev.ring.west.up = true ∧
        s'.dev.ring.east.delayPs = f.eastTrip * 625 / 32 ∧ s'.dev.ring.west.delayPs = f.westTrip * 625 / 32 ∧
        (f.positions.foldl min 7 ≠ u.dev.ring.devpos →
          s'.dev.ring.masterSync = some f.masterSync ∧ s'.dev.clock.syncSource = b2n f.masterSync) ∧ s'.now = u.now ∧
        s'.dev = { u.dev with ring := s'.dev.ring, clock := s'.dev.clock }) ∧
      (∀ e, e ≠ 0 → ringError u.dev.ring.devpos f.positions = e →
        s'.dev.ring.st = 5 ∧ s'.dev.ring.size = 1 ∧ s'.dev.ring.master = 0xFF ∧ s'.dev.ring.error = e)) ∧
  (∀ (t : Nat) (s : State), let u := advance t s
    u.dev.ring.st = 1 →
    (Completes (exec (.ringDiscovery t .alone) s) fun s' =>
      s'.dev.ring.st = 0 ∧ s'.dev.ring.size = 1 ∧ s'.dev.ring.master = 0xFF ∧ s'.dev = { u.dev with ring := s'.dev.ring }) ∧
    (Completes (exec (.ringDiscovery t .unformed) s) fun s' =>
      (joinLate u = true → s'.dev.ring.error = 4) ∧ (joinLate u = false → s' = u) ∧ s'.dev = { u.dev with ring := s'.dev.ring })) ∧
  (∀ (t n master : Nat) (f : JoinFacts) (s : State), let u := advance t s
    ringRuns u = false → u.dev.clock.epochSet = true → 0 < f.size → (∀ e, e < 64 → engineRests u e = true) →
    Completes (exec (.ringJoin t n master f) s) fun s' =>
      s'.now = n ∧ s'.dev.ring.st = 2 ∧ s'.dev.ring.size = f.size ∧ s'.dev.ring.master = master ∧
      s'.dev.ring.members = f.members % 256 ∧ s'.dev.ring.east.up = f.eastTrip.isSome ∧ s'.dev.ring.west.up = f.westTrip.isSome ∧
      s'.dev.clock.syncSource = b2n f.masterSync ∧ s'.dev.clock.timeAcc = u.dev.clock.timeAcc) ∧
  (∀ (t : Nat) (ps : Int) (members : Nat) (s : State), let u := advance t s
    u.now % 400000 = 0 → ringRuns u = true →
    Completes (exec (.alignTracking t { offsetPs := ps, members := members }) s) fun s' =>
      s'.dev.ring.alignPs = ps ∧
      (u.dev.ring.st ≠ 2 → 5000 < 64 * ps.natAbs → s'.dev.ring.alignSteps = sat32 (u.dev.ring.alignSteps + 1) ∧
        s'.dev.ring.loopTaps = u.dev.ring.loopTaps - ps.sign) ∧
      (u.dev.ring.st = 2 ∨ 64 * ps.natAbs ≤ 5000 → s'.dev.ring.alignSteps = u.dev.ring.alignSteps ∧
        s'.dev.ring.loopTaps = u.dev.ring.loopTaps) ∧
      (u.dev.ring.st = 2 → ps.natAbs ≤ 150 → u.dev.ring.lostLinks = [] →
        s'.dev.ring.st = 3 ∧ s'.dev.ring.members = setBit (members % 256) u.dev.ring.devpos) ∧
      (u.dev.ring.st = 2 → 150 < ps.natAbs →
        s'.dev.ring.st = 2 ∧ s'.dev.ring.members = clearBit (members % 256) u.dev.ring.devpos) ∧
      s'.dev = { u.dev with ring := s'.dev.ring } ∧ s'.link = u.link) ∧
  (∀ (t reachable : Nat) (s : State), let u := advance t s
    let m := setBit (reachable % 256) u.dev.ring.devpos
    u.now % 400000 = 0 → ringAligned u = true →
    (bit m u.dev.ring.master = false →
      Completes (exec (.newTimingMaster t reachable) s) fun s' =>
        s'.dev.ring.master = lowestPos m ∧ s'.dev.ring.members = m ∧ s'.dev = { u.dev with ring := s'.dev.ring } ∧ s'.link = u.link) ∧
    (bit m u.dev.ring.master = true → exec (.newTimingMaster t reachable) s = .next u)) ∧
  (∀ (t link other members : Nat) (s : State), let u := advance t s
    ringAligned u = true → link ∈ u.dev.ring.lostLinks →
    Completes (exec (.hawserLinkRejoin t link other members) s) fun s' =>
      link ∉ s'.dev.ring.lostLinks ∧ (∀ x ∈ u.dev.ring.lostLinks, x = link ∨ x ∈ s'.dev.ring.lostLinks) ∧
      (∀ w, ownLink u w = link → (linkOf s' w).lane0 = true ∧ (linkOf s' w).lane1 = true) ∧
      (∀ w, ownLink u w ≠ link → linkOf s' w = linkOf u w) ∧
      s'.dev.ring.master = min u.dev.ring.master other ∧ s'.dev.ring.members = setBit (members % 256) u.dev.ring.devpos ∧
      s'.dev = { u.dev with ring := s'.dev.ring } ∧ s'.link = u.link)

/-- The ring-commit commands. -/
def Obligations.RingCommits : Prop :=
  (∀ (t : Nat) (r : Req) (v : Nat) (s : State), let u := advance t s
    NewRequest u r → MayWrite u r 0x2100 → v < 4 → u.dev.dict.commit.st = 0 → u.dev.ring.commit.readySent = false → u.rwv 0x2021 1 ≠ 0 →
    Completes (exec (.ringCommitRequest t r v) s) fun s' =>
      Answers s' r 0 ∧ s'.dev.ring.commit.st = 1 ∧ s'.dev.ring.commit.coordinator = true ∧ s'.dev.ring.commit.mask = u.rwv 0x2021 1 ∧
      s'.dev.ring.commit.sent = some (.prepare s'.dev.ring.commit.id v (u.rwv 0x2102 0)) ∧
      s'.dev.ring.commit.preparedAt = u.now ∧ s'.dev.ring.commit.reports = [] ∧ s'.dev.dict.commit.st = 1 ∧
      s'.dev.dict.commit.reqWhen = v ∧ s'.dev.dict.active = u.dev.dict.active ∧ s'.dev.dict.staged = u.dev.dict.staged) ∧
  (∀ (t id w at_ : Nat) (s : State), let u := advance t s
    ringAligned u = true → u.dev.clock.holdover = false → u.dev.dict.commit.st = 0 → u.dev.ring.commit.st = 0 → w < 4 →
    u.dev.ring.commit.id ≠ id ∨ u.dev.ring.commit.sent = none →
    Completes (exec (.prepare t id w at_) s) fun s' =>
      s'.dev.ring.commit.st = 1 ∧ s'.dev.ring.commit.id = id ∧ s'.dev.ring.commit.coordinator = false ∧ s'.dev.dict.commit.st = 1 ∧
      s'.dev.dict.commit.reqWhen = w ∧ s'.dev.dict.active = u.dev.dict.active ∧ s'.dev.dict.staged = u.dev.dict.staged ∧
      s'.link = u.link) ∧
  (∀ (t id w at_ : Nat) (s : State), let u := advance t s
    let p := u.dev.ring.devpos
    ringRuns u = true → u.dev.ring.commit.id ≠ id →
    Completes (exec (.prepare t id w at_) s) fun s' =>
      (ringAligned u = false ∨ u.dev.clock.holdover = true → s'.dev.ring.commit.sent = some (.fail id p (0x04930000 + p))) ∧
      (ringAligned u = true → u.dev.clock.holdover = false → u.dev.dict.commit.st ≠ 0 ∨ u.dev.ring.commit.st ≠ 0 →
        s'.dev.ring.commit = { u.dev.ring.commit with sent := some (.fail id p (0x04940000 + p)) } ∧ s'.dev.dict = u.dev.dict)) ∧
  (∀ (t : Nat) (rep : ReadyReport) (s : State), let u := advance t s
    let c := u.dev.ring.commit
    c.coordinator = true → c.st = 1 → c.ownOk = false → rep.pos ∈ ringPresent u → (∀ x ∈ c.reports, x.pos ≠ rep.pos) →
    exec (.ready t c.id rep) s = .next (modRingCommit (fun c => { c with reports := c.reports ++ [rep] }) u)) ∧
  (∀ (t pos code : Nat) (s : State), let u := advance t s
    u.dev.ring.commit.coordinator = true → u.dev.ring.commit.st = 1 →
    Completes (exec (.failReply t u.dev.ring.commit.id pos code) s) fun s' =>
      s'.dev.ring.commit.st = 0 ∧ s'.dev.ring.commit.result = code ∧ s'.dev.ring.commit.failPos = pos ∧
      s'.dev.ring.commit.sent = some (.discard u.dev.ring.commit.id code) ∧
      (u.dev.dict.commit.st = 2 → s'.dev.dict.commit.st = 0 ∧ s'.dev.dict.commit.result = code) ∧
      s'.dev.dict.active = u.dev.dict.active ∧ s'.dev.dict.staged = u.dev.dict.staged ∧ s'.dev.dict.changed = u.dev.dict.changed) ∧
  (∀ (t pos code : Nat) (s : State), let u := advance t s
    let c := u.dev.ring.commit
    c.coordinator = true → c.st = 0 → c.result ≠ 0 → code < c.result → u.dev.dict.commit.st = 0 →
    Completes (exec (.failReply t c.id pos code) s) fun s' =>
      s'.dev.ring.commit.result = code ∧ s'.dev.ring.commit.failPos = pos ∧ s'.dev.dict.commit.result = code ∧
      s'.dev.dict.active = u.dev.dict.active ∧ s'.dev.dict.staged = u.dev.dict.staged) ∧
  (∀ (t tick : Nat) (s : State), let u := advance t s
    u.dev.ring.commit.readySent = true → u.dev.ring.commit.st = 3 →
    Completes (exec (.apply t u.dev.ring.commit.id tick) s) fun s' =>
      s'.dev.dict.commit.tickN = tick ∧ s'.dev.ring.commit.st = 2 ∧ s'.dev.dict.active = u.dev.dict.active ∧ s'.link = u.link ∧
      s'.dev.engines = u.dev.engines) ∧
  (∀ (t code : Nat) (s : State), let u := advance t s
    u.dev.ring.commit.coordinator = false → u.dev.ring.commit.st = 1 ∨ u.dev.ring.commit.st = 3 →
    Completes (exec (.discard t u.dev.ring.commit.id code) s) fun s' =>
      s'.dev.ring.commit.st = 0 ∧ s'.dev.ring.commit.readySent = false ∧ s'.dev.dict.commit.st = 0 ∧ s'.dev.dict.commit.result = code ∧
      s'.dev.dict.active = u.dev.dict.active ∧ s'.dev.dict.staged = u.dev.dict.staged ∧ s'.dev.dict.changed = u.dev.dict.changed) ∧
  (∀ (t code : Nat) (s : State), let u := advance t s
    u.dev.ring.commit.coordinator = false → u.dev.ring.commit.st = 0 → u.dev.dict.commit.st = 0 →
    exec (.discard t u.dev.ring.commit.id code) s = .next (modCommit (fun c => { c with result := code }) u)) ∧
  (∀ (t k : Nat) (s : State), let u := advance t s
    let c := u.dev.ring.commit
    c.coordinator = true → c.st = 1 → c.preparedAt + 20000000 ≤ u.now → k ∈ ringPresent u → (∀ x ∈ c.reports, x.pos ≠ k) →
    (∀ j ∈ ringPresent u, (∀ x ∈ c.reports, x.pos ≠ j) → k ≤ j) →
    Completes (exec (.ringCommitTimeout t) s) fun s' =>
      s'.dev.ring.commit.st = 0 ∧ s'.dev.ring.commit.result = 0x04900000 + k ∧ s'.dev.ring.commit.failPos = k ∧
      s'.dev.ring.commit.sent = some (.discard c.id (0x04900000 + k)) ∧
      s'.dev.dict.active = u.dev.dict.active)

/-- REGISTER_WRITE to RS objects, and a READ of one (the row carries operations 1 and 2 of a REQUEST, log entry 7). -/
def Obligations.RegisterWritesStage : Prop :=
  (∀ (t : Nat) (r : Req) (index sub : Nat) (o : Obj) (d : List Byte) (s : State), let u := advance t s
    NewRequest u r → isHm u r.sess = true → r.view = none → mooring u = false →
    object index sub = some o → o.acc = .rs → o.ty ≠ .domain → d.length = tySize o.ty → (o.ty = .bool → leVal d ≤ 1) →
    (u.dev.dict.commit.st = 0 → u.dev.ring.commit.readySent = false → u.dev.dict.changed.length < 32768 →
      Completes (exec (.registerWrite t r index sub 0 (.write d)) s) fun s' =>
        Answers s' r 0 ∧ s'.stg index sub = leVal d ∧ key index sub ∈ s'.dev.dict.changed ∧
        (∀ i k, key i k ≠ key index sub → s'.stg i k = u.stg i k) ∧ (∀ i k, s'.act i k = u.act i k) ∧
        (∀ x ∈ u.dev.dict.changed, x ∈ s'.dev.dict.changed) ∧ s'.dev.dict.stepsStaged = u.dev.dict.stepsStaged ∧
        s'.dev.dict.stepsActive = u.dev.dict.stepsActive ∧ s'.dev.dict.commit = u.dev.dict.commit ∧
        s'.dev = { u.dev with dict := s'.dev.dict }) ∧
    (u.dev.dict.commit.st = 1 ∨ u.dev.dict.commit.st = 2 → u.dev.dict.changed.length < 32768 →
      Completes (exec (.registerWrite t r index sub 0 (.write d)) s) fun s' => Answers s' r 0x06030000 ∧ s'.dev = u.dev)) ∧
  (∀ (t : Nat) (r : Req) (offset : Nat) (d : List Byte) (s : State), let u := advance t s
    NewRequest u r → isHm u r.sess = true → r.view = none → mooring u = false → memWf 0 u.dev.dict.stepsStaged = true →
    u.dev.dict.commit.st = 0 → u.dev.ring.commit.readySent = false → offset % 64 = 0 → d.length % 64 = 0 → d.length ≤ 256 →
    offset + d.length ≤ 33554432 →
    Completes (exec (.registerWrite t r 0xA021 1 offset (.write d)) s) fun s' =>
      Answers s' r 0 ∧ (∀ (k : Nat) (h : k < d.length), mget 0 (offset + k) s'.dev.dict.stepsStaged = d[k]) ∧
      (∀ a, a < offset ∨ offset + d.length ≤ a → mget 0 a s'.dev.dict.stepsStaged = mget 0 a u.dev.dict.stepsStaged) ∧
      s'.dev.dict.stepsActive = u.dev.dict.stepsActive ∧ s'.dev.dict.active = u.dev.dict.active ∧
      s'.dev.dict.staged = u.dev.dict.staged ∧ s'.dev = { u.dev with dict := s'.dev.dict }) ∧
  (∀ (t : Nat) (r : Req) (index sub count : Nat) (o : Obj) (s : State), let u := advance t s
    NewRequest u r → r.view = none → mooring u = false → index < 0x6000 →
    object index sub = some o → o.acc = .rs → o.ty ≠ .domain → o.ty ≠ .str →
    Completes (exec (.registerWrite t r index sub 0 (.read count)) s) fun s' =>
      (∃ a, (s'.session r.sess).last = some a ∧ a.seq = r.seq ∧ a.code = 0 ∧ a.epoch = u.dev.dict.commit.epoch ∧
        a.data = leBytes (tySize o.ty) (if r.staged then u.stg index sub else u.act index sub)) ∧ s'.dev = u.dev)

/-- COMMIT_REQ, COMMIT_CHECK_DONE and PILOT_REFILL_DONE of a commit of this module alone. -/
def Obligations.CommitChecks : Prop :=
  (∀ (t : Nat) (r : Req) (v : Nat) (s : State), let u := advance t s
    NewRequest u r → MayWrite u r 0x2100 → v < 4 →
    (u.dev.dict.commit.st = 0 → u.dev.ring.commit.readySent = false → u.rwv 0x2021 1 = 0 →
      Completes (exec (.commitReq t r v) s) fun s' =>
        Answers s' r 0 ∧ s'.dev.dict = { u.dev.dict with commit := { u.dev.dict.commit with
          st := 1, result := 0xFFFFFFFF, reqAt := u.now, reqWhen := v, reqArg := u.rwv 0x2102 0 } } ∧
        s'.dev.engines = u.dev.engines ∧ s'.dev.store = u.dev.store) ∧
    (u.dev.dict.commit.st = 1 ∨ u.dev.dict.commit.st = 2 →
      Completes (exec (.commitReq t r v) s) fun s' => Answers s' r 0x06030000 ∧ s'.dev = u.dev)) ∧
  (∀ (t : Nat) (s : State), let u := advance t s
    let check := runCheck u (tickFails u (refillTargets u).length)
    u.dev.dict.commit.st = 1 → u.dev.ring.commit.coordinator = false → u.dev.ring.commit.st = 0 →
    Completes (exec (.commitCheckDone t) s) fun s' =>
      (∀ f, check.fail = some f → s'.dev.dict.commit.st = 0 ∧ s'.dev.dict.commit.result = f.code ∧
        s'.dev.dict.commit.failObj = f.obj ∧ s'.dev.dict.commit.stepCheck = f.step ∧
        (harbourmaster u ≠ 0 → s'.dev.dict.staged = u.dev.dict.staged ∧ s'.dev.dict.changed = u.dev.dict.changed ∧
          s'.dev.dict.stepsStaged = u.dev.dict.stepsStaged ∧ s'.dev.dict.stepChanged = u.dev.dict.stepChanged)) ∧
      (check.fail = none → s'.dev.dict.commit.st = 2 ∧ s'.dev.dict.commit.result = 0 ∧ s'.dev.dict.commit.okAt = u.now ∧
        s'.dev.dict.commit.tickN = commitTickOf u (refillTargets u).length ∧
        (∀ x ∈ refillTargets u, x ∈ s'.dev.dict.commit.refills ∧ x ∈ s'.dev.dict.commit.blocked)) ∧
      s'.dev.dict.active = u.dev.dict.active ∧ s'.dev.dict.stepsActive = u.dev.dict.stepsActive ∧ s'.dev.engines = u.dev.engines) ∧
  (∀ (t : Nat) (e : Fin 64) (k : Fin 16) (s : State), let u := advance t s
    u.dev.ring.commit.st = 0 →
    Completes (exec (.pilotRefillDone t e k) s) fun s' =>
      (e.val, k.val) ∉ s'.dev.dict.commit.refills ∧
      (u.dev.dict.commit.st ≠ 2 → (e.val, k.val) ∉ s'.dev.dict.commit.blocked) ∧
      (u.dev.dict.commit.st = 2 → s'.dev.dict.commit.blocked = u.dev.dict.commit.blocked) ∧
      s'.dev.dict.active = u.dev.dict.active ∧ s'.dev.engines = u.dev.engines ∧ s'.link = u.link)

/-- COMMIT_TICK (R333). -/
def Obligations.CommitTickSwitchesCopies : Prop :=
  ∀ (t : Nat) (s : State), let u := advance t s
    let d := u.dev.dict
    u.dev.ring.commit.readySent = false →
    (commitDue u = true → Completes (exec (.commitTick t) s) fun s' =>
      s'.dev.dict.active = d.staged ∧ s'.dev.dict.staged = d.staged ∧ s'.dev.dict.stepsActive = d.stepsStaged ∧
      s'.dev.dict.stepsStaged = d.stepsStaged ∧ s'.dev.dict.changed = [] ∧ s'.dev.dict.stepChanged = [] ∧
      s'.dev.dict.commit.epoch = d.commit.epoch + 1 ∧ s'.dev.dict.commit.st = 0 ∧ s'.dev.dict.commit.tickN = u.now ∧
      lineAt s' (u.now + 1) 2019 = true ∧
      (∀ e, e < 64 → (u.core e).st = .armed → (u.core e).pend.cmds = [] → u.stg (engIdx e 0) 3 = 9 →
        (s'.core e).pend.start = some u.now) ∧
      s'.dev.store.segs = u.dev.store.segs ∧ s'.dev.store.content = u.dev.store.content ∧ s'.link.keys = u.link.keys) ∧
    (commitDue u = false → exec (.commitTick t) s = .next u)

/-- R326: the answer, the staged copies and marks, the cancelled change with its refills and blocked targets, and the refusals. -/
def Obligations.StageDiscardRestores : Prop :=
  ∀ (t : Nat) (r : Req) (s : State), let u := advance t s
    let d := u.dev.dict
    NewRequest u r → MayWrite u r 0x2103 → u.dev.ring.commit.st = 0 → u.dev.ring.commit.readySent = false →
    (d.commit.st = 0 ∨ (d.commit.st = 2 ∧ u.now + 400 ≤ awaitedTick u) → Completes (exec (.stageDiscard t r 1) s) fun s' =>
      Answers s' r 0 ∧ s'.dev.dict.staged = d.active ∧ s'.dev.dict.stepsStaged = d.stepsActive ∧ s'.dev.dict.changed = [] ∧
      s'.dev.dict.stepChanged = [] ∧ s'.dev.dict.commit.st = 0 ∧ s'.dev.dict.active = d.active ∧
      s'.dev.dict.stepsActive = d.stepsActive ∧ (d.commit.st = 2 → s'.dev.dict.commit.refills = d.commit.blocked ∧ s'.dev.dict.commit.tickN = d.commit.appliedN) ∧
      s'.dev.dict.commit.blocked = d.commit.blocked ∧
      s'.dev = { u.dev with dict := s'.dev.dict }) ∧
    (d.commit.st = 2 → awaitedTick u < u.now + 400 → Completes (exec (.stageDiscard t r 1) s) fun s' =>
      Answers s' r 0x06400000 ∧ s'.dev = u.dev) ∧
    (d.commit.st = 1 → Completes (exec (.stageDiscard t r 1) s) fun s' => Answers s' r 0x06030000 ∧ s'.dev = u.dev)

/-- VIEW_OPEN, VIEW_CLOSE and VIEW_TIMEOUT. -/
def Obligations.Views : Prop :=
  (∀ (t : Nat) (r : Req) (k : Fin 4) (s : State), let u := reach t s
    NewRequest u r → MayUse u r 0x2110 →
    (Completes (exec (.viewOpen t r k) s) fun s' =>
      Answers s' r 0 ∧ (∃ vals, (s'.session r.sess).view k =
        { st := 2, v := u.now, epoch := u.dev.dict.commit.epoch, lastRead := u.now,
          snap := some { dev := u.dev, ticked := u.ticked, vals := vals } }) ∧ s'.dev = u.dev) ∧
    (Completes (exec (.viewOpen t r (k.val + 4)) s) fun s' =>
      Answers s' r 0 ∧ ((s'.session r.sess).view k).st = 1 ∧ s'.dev = u.dev)) ∧
  (∀ (t : Nat) (r : Req) (k : Fin 4) (s : State), let u := advance t s
    NewRequest u r → MayUse u r 0x2110 →
    Completes (exec (.viewClose t r k) s) fun s' =>
      Answers s' r 0 ∧ (s'.session r.sess).view k = View.closed ∧ s'.dev = u.dev) ∧
  (∀ (t sess : Nat) (k : Fin 4) (s : State), let u := advance t s
    let v := (u.session sess).view k
    let ms := (u.session sess).val 0x2110 3
    v.st = 2 →
    Completes (exec (.viewTimeout t sess k) s) fun s' =>
      (ms ≠ 0 → max v.v v.lastRead + 400000 * ms ≤ u.now → (s'.session sess).view k = View.closed) ∧
      (ms = 0 → s' = u) ∧ s'.dev = u.dev ∧ (∀ x, x ≠ sess → s'.session x = u.session x))

/-- The store operations. -/
def Obligations.SegmentCommands : Prop :=
  (∀ (t : Nat) (r : Req) (d : List Byte) (s : State), let u := advance t s
    let x := defRecord d
    NewRequest u r → MayWrite u r 0xA010 → lowest (defineCodes 0 d u) = 0 →
    Completes (exec (.segDefine t r 0 d) s) fun s' =>
      Answers s' r 0 ∧ (s'.seg x.n).kind = x.kind ∧ (s'.seg x.n).crc = x.crc ∧ (s'.seg x.n).crcFault = (u.seg x.n).crcFault ∧
      (storedKind x.kind = true → (s'.seg x.n).st = 1 ∧ (s'.seg x.n).lengthM1 = x.lengthM1 ∧ (s'.seg x.n).items = x.items) ∧
      (storedKind x.kind = false → (s'.seg x.n).st = 2) ∧ s'.stream x.n = Stream.reset ∧
      (∀ n, n ≠ x.n → s'.seg n = u.seg n ∧ s'.stream n = u.stream n) ∧ s'.dev.store.content = u.dev.store.content ∧
      s'.dev.dict = u.dev.dict ∧ s'.dev.engines = u.dev.engines) ∧
  (∀ (t : Nat) (r : Req) (n : Nat) (s : State), let u := advance t s
    NewRequest u r → MayWrite u r 0xA010 → n < 65536 → u.dev.dict.commit.st ≠ 1 → u.dev.ring.commit.readySent = false →
    Completes (exec (.segDelete t r n) s) fun s' =>
      (lockCount u n = 0 → Answers s' r 0 ∧ s'.seg n = Seg.empty ∧ (∀ m, m ≠ n → s'.seg m = u.seg m)) ∧
      (lockCount u n ≠ 0 → Answers s' r (0x05010000 + n) ∧ s'.dev = u.dev) ∧ s'.dev.store.content = u.dev.store.content ∧
      s'.dev.dict = u.dev.dict) ∧
  (∀ (t : Nat) (r : Req) (n : Nat) (s : State), let u := advance t s
    NewRequest u r → MayWrite u r 0xA010 → n < 65536 → u.dev.dict.commit.st ≠ 1 → u.dev.ring.commit.readySent = false →
    (u.seg n).st ≠ 0 → u.dev.store.verify.length < 17 →
    Completes (exec (.segVerify t r n) s) fun s' =>
      Answers s' r 0 ∧ n ∈ s'.dev.store.verify ∧ s'.dev.store.segs = u.dev.store.segs ∧
      (n ∉ u.dev.store.verify → s'.dev.store.verify = u.dev.store.verify ++ [n])) ∧
  (∀ (t n : Nat) (q : List Nat) (bad : Option Nat) (s : State), let u := advance t s
    u.dev.store.verify = n :: q → (u.seg n).st = 1 →
    Completes (exec (.segmentVerified t bad) s) fun s' =>
      (judge u (u.seg n) bad = none → (s'.seg n).st = 2 ∧ (s'.seg n).error = 0) ∧
      (∀ k o, judge u (u.seg n) bad = some (k, o) → (s'.seg n).st = 3 ∧ (s'.seg n).error = k) ∧
      s'.dev.store.verify = q ∧ s'.dev.store.verifyLast = n ∧ (∀ m, m ≠ n → s'.seg m = u.seg m) ∧
      s'.dev.store.content = u.dev.store.content ∧ s'.dev.dict = u.dev.dict)

/-- What a session that is not the harbourmaster can do by the commands of a harbourmaster: nothing. (SYNC_REALIGN brings what another module
reports with it, here what the module already knows.) -/
def Obligations.ObserversWriteNothing : Prop :=
  ∀ (t : Nat) (r : Req) (e : Fin 64) (p j : Fin 256) (m : Fin 6) (k : Fin 4) (v : Nat) (d : List Byte) (s : State), let u := advance t s
    NewRequest u r → isHm u r.sess = false → d.length ≤ 256 →
    ∀ c ∈ [Instr.tripClear t r p v, .engineCmdArm t r e v, .engineCmdStart t r e v, .engineCmdAbort t r e v, .engineCmdResume t r e v,
           .engineCmdDisarm t r e v, .engineCmdReset t r e v, .supClear t r e v, .thCheckReq t r e v, .cmpClearLatch t r j,
           .cmpClearInBand t r j, .cmpClearForce t r j, .swEvent t r v, .syncRealign t (some r) v u.dev.ring.blocker, .commitReq t r v, .stageDiscard t r v,
           .ringCommitRequest t r v, .segDefine t r 0 d, .segDelete t r v, .segVerify t r v, .keySlotWrite t r k 0 d, .keyRightsWrite t r v,
           .dchRelease t r m v, .dramTrainReq t r v, .berthDoorbell t r v, .marchPreserving t r v, .marchDestructive t r v, .calReq t r v,
           .faultLogClear t r v, .restartNormal t r, .restartMooring t r],
      Completes (exec c s) fun s' => Answers s' r 0x02010000 ∧ s'.dev = u.dev ∧ s'.link.keys = u.link.keys

/-- OPEN, CONFIRM, KEEPALIVE, CLOSE and SESSION_TIMEOUT. -/
def Obligations.Sessions : Prop :=
  (∀ (t : Nat) (port : Fin 2) (slot role nonce : Nat) (s : State), let u := advance t s
    linkServes u = true → (u.port port).up = true → slot < 256 →
    (u.keySlot slot ≠ [] → sessionsOpen u < 8 → Completes (exec (.open_ t port true slot { role := role, hostNonce := nonce }) s) fun s' =>
      let k := freeNumber u
      1 ≤ k ∧ k ≤ 8 ∧ (u.session k).isOpen = false ∧
      ((∀ j, 1 ≤ j → j ≤ 8 → (u.session j).challenged = false) → ∀ j, 1 ≤ j → j < k → (u.session j).isOpen = true) ∧
      (s'.session k).challenged = true ∧ (s'.session k).isOpen = false ∧ (s'.session k).role = role ∧ (s'.session k).slot = slot ∧
      (s'.session k).slotKey = u.keySlot slot ∧ (s'.session k).hostNonce = nonce ∧ (s'.session k).nonce = u.link.nonces ∧ s'.link.nonces = u.link.nonces + 1 ∧
      (∀ x, x ≠ k → s'.session x = u.session x) ∧ s'.dev = u.dev) ∧
    (u.keySlot slot = [] →
      exec (.open_ t port true slot { role := role, hostNonce := nonce }) s = .next (modLink (fun l => { l with lastRefusal := 0x01030000 + slot }) u)) ∧
    (u.keySlot slot ≠ [] → sessionsOpen u = 8 →
      exec (.open_ t port true slot { role := role, hostNonce := nonce }) s = .next (modLink (fun l => { l with lastRefusal := 0x01060000 }) u)) ∧
    exec (.open_ t port false slot { role := role, hostNonce := nonce }) s = .next (modPort port (fun p => { p with macFails := sat32 (p.macFails + 1) }) u)) ∧
  (∀ (t : Nat) (port : Fin 2) (k : Nat) (s : State), let u := advance t s
    let x := u.session k
    linkServes u = true → (u.port port).up = true → x.challenged = true → x.slot < 256 → 1 ≤ k → k ≤ 8 → x.notices = [] →
    (x.role ≠ 1 ∨ (bit (keyRights u) x.slot = true ∧ harbourmaster u = 0) →
      Completes (exec (.confirm t port k true) s) fun s' =>
        (s'.session k).isOpen = true ∧ (s'.session k).challenged = false ∧ (s'.session k).role = x.role ∧
        (∃ a, (s'.session k).last = some a ∧ a.seq = 0 ∧ a.code = 0 ∧ a.retransmit = false) ∧ (s'.session k).lastFrame = u.now ∧ (s'.session k).activePort = port ∧
        (x.role = 1 → harbourmaster s' = k) ∧ (∀ y, y ≠ k → s'.session y = u.session y) ∧ s'.dev = u.dev) ∧
    (x.role = 1 → bit (keyRights u) x.slot = false → Completes (exec (.confirm t port k true) s) fun s' =>
      s'.session k = Session.free ∧ s'.link.lastRefusal = 0x01030000 + x.slot ∧ (∀ y, y ≠ k → s'.session y = u.session y) ∧
      s'.dev = u.dev) ∧
    (x.role = 1 → bit (keyRights u) x.slot = true → harbourmaster u ≠ 0 → Completes (exec (.confirm t port k true) s) fun s' =>
      s'.session k = Session.free ∧ s'.link.lastRefusal = 0x01050000 ∧ (∀ y, y ≠ k → s'.session y = u.session y) ∧
      s'.dev = u.dev)) ∧
  (∀ (t : Nat) (port : Fin 2) (k : Nat) (s : State), let u := advance t s
    (Arrives u k port true → Completes (exec (.keepalive t port k true) s) fun s' =>
      (s'.session k).isOpen = true ∧ (s'.session k).lastFrame = u.now ∧ (s'.session k).activePort = port ∧
      (port.val = 0 → (s'.session k).bound0 = true) ∧ (port.val = 1 → (s'.session k).bound1 = true) ∧
      (∀ x, x ≠ k → s'.session x = u.session x) ∧ SessionsOnly s' u) ∧
    (linkServes u = true → (u.port port).up = true → (u.session k).isOpen = true →
      exec (.keepalive t port k false) s = .next (modPort port (fun p => { p with macFails := sat32 (p.macFails + 1) }) u))) ∧
  (∀ (t : Nat) (port : Fin 2) (k : Nat) (s : State), let u := advance t s
    let gone := fun s' : State => s'.session k = Session.free ∧ (∀ x, x ≠ k → s'.session x = u.session x) ∧
      s'.dev.engines = u.dev.engines ∧ s'.dev.dict.active = u.dev.dict.active ∧
      (isHm u k = true → u.dev.dict.commit.st = 0 → s'.dev.dict.staged = u.dev.dict.active ∧ s'.dev.dict.changed = [] ∧
        s'.dev.dict.stepsStaged = u.dev.dict.stepsActive) ∧
      (isHm u k = false ∨ u.dev.dict.commit.st ≠ 0 → s'.dev = u.dev)
    (Arrives u k port true → Completes (exec (.close t port k true) s) gone) ∧
    ((u.session k).isOpen = true → (u.session k).lastFrame + 400000 * (u.session k).val 0x1200 3 ≤ u.now →
      Completes (exec (.sessionTimeout t k) s) gone) ∧
    (u.now < (u.session k).lastFrame + 400000 * (u.session k).val 0x1200 3 → exec (.sessionTimeout t k) s = .next u))

/-- R357. -/
def Obligations.AckAcknowledges : Prop :=
  ∀ (t : Nat) (port : Fin 2) (k acked : Nat) (s : State), let u := advance t s
    Arrives u k port true →
    Completes (exec (.ack t port k true acked) s) fun s' =>
      (∀ n ∈ (s'.session k).notices, ∀ q, n.sent = some q → q.1 ≤ acked → (u.session k).nextSeq ≤ q.1) ∧
      (∀ n ∈ (u.session k).notices, ∀ q, n.sent = some q → acked < q.1 →
        ∃ m ∈ (s'.session k).notices, m.code = n.code ∧ m.params = n.params ∧ ∃ p, m.sent = some p ∧ p.1 = q.1) ∧
      (s'.session k).isOpen = true ∧ (∀ x, x ≠ k → s'.session x = u.session x) ∧ s'.dev.dict = u.dev.dict ∧
      s'.dev.engines = u.dev.engines ∧ ((u.session k).lostRun = none → SessionsOnly s' u)

/-- NOTICE_RETRANSMIT, PORT_LOSS, PORT_RETURN, ADDRESS_RESOLUTION and ECHO_REQUEST. -/
def Obligations.NoticesAndPorts : Prop :=
  (∀ (t k seq : Nat) (s : State), let u := advance t s
    let x := u.session k
    x.isOpen = true → boundUp u x = true → (∃ n ∈ x.notices, ∃ q, n.sent = some q ∧ q.1 = seq) →
    (∀ n ∈ x.notices, ∀ q, n.sent = some q → q.1 = seq → q.2.1 + 400000 ≤ u.now) →
    ((∀ n ∈ x.notices, ∀ q, n.sent = some q → q.1 = seq → q.2.2 < 3) →
      Completes (exec (.noticeRetransmit t k seq) s) fun s' =>
        (∀ n ∈ x.notices, ∀ q, n.sent = some q → q.1 = seq →
          { n with sent := some (seq, u.now, q.2.2 + 1) } ∈ (s'.session k).notices) ∧
        (s'.session k).notices.length = x.notices.length ∧ (∀ y, y ≠ k → s'.session y = u.session y) ∧ SessionsOnly s' u) ∧
    ((∀ n ∈ x.notices, ∀ q, n.sent = some q → q.1 = seq → 3 ≤ q.2.2) → lostNext u k (seq + 1) = false → seq < x.nextSeq →
      x.lostRun = none → x.notices.length ≤ 256 →
      Completes (exec (.noticeRetransmit t k seq) s) fun s' =>
        (s'.session k).lost = sat32 (x.lost + 1) ∧ (∀ n ∈ (s'.session k).notices, ∀ q, n.sent = some q → q.1 ≠ seq) ∧
        (bit (noticeMask x) 1 = true → ∃ n ∈ (s'.session k).notices, n.code = 0x0012 ∧ n.params = [seq, 1]) ∧
        (∀ y, y ≠ k → s'.session y = u.session y) ∧ SessionsOnly s' u)) ∧
  (∀ (t : Nat) (p : Fin 2) (s : State), let u := advance t s
    (u.port p).up = true → Completes (exec (.portLoss t p) s) fun s' =>
      (s'.port p).up = false ∧ (s'.port p).downs = sat32 ((u.port p).downs + 1) ∧ s'.port (1 - p.val) = u.port (1 - p.val) ∧
      (u.dev.clock.lclkPort = p.val →
        s'.dev.clock.lclkPort = if (u.port (1 - p.val)).up then 1 - p.val else 0xFF) ∧
      (u.dev.clock.lclkPort ≠ p.val → s'.dev.clock = u.dev.clock) ∧
      (∀ k, 1 ≤ k → k ≤ 8 → (u.session k).isOpen = true → (u.session k).activePort = p.val → (u.port (1 - p.val)).up = true →
        (if p.val = 0 then (u.session k).bound1 else (u.session k).bound0) = true →
        (s'.session k).activePort = 1 - p.val ∧ lineAt s' u.now 2041 = true) ∧
      (∀ k, (s'.session k).isOpen = (u.session k).isOpen) ∧ s'.dev.engines = u.dev.engines ∧ s'.dev.dict = u.dev.dict) ∧
  (∀ (t : Nat) (p : Fin 2) (fast fec : Bool) (s : State), let u := advance t s
    (u.port p).up = false →
    ((u.port p).cfg.speedSel = (if fast then 2 else 1) → exec (.portReturn t p fast fec) s = .next u) ∧
    ((u.port p).cfg.speedSel ≠ (if fast then 2 else 1) → Completes (exec (.portReturn t p fast fec) s) fun s' =>
      (s'.port p).up = true ∧ (s'.port p).speed25 = fast ∧ (s'.port p).rsFec = (fec && fast) ∧ s'.port (1 - p.val) = u.port (1 - p.val) ∧
      (u.dev.clock.lclkPort = 0xFF → s'.dev.clock.lclkPort = p.val) ∧
      (u.dev.clock.lclkPort ≠ 0xFF → s'.dev.clock = u.dev.clock) ∧
      (∀ k, (s'.session k).isOpen = (u.session k).isOpen) ∧ s'.dev.engines = u.dev.engines ∧ s'.dev.dict = u.dev.dict)) ∧
  (∀ (t : Nat) (f : NetFrame) (s : State), let u := advance t s
    linkServes u = true → (u.port f.port).up = true →
    (f.tags ≤ 1 → f.fragment = false →
      exec (.addressResolution t f) s = .next (modPort f.port (fun x => { x with replies := x.replies + 1, lastReply := some f.src }) u) ∧
      exec (.echoRequest t f) s = .next (modPort f.port (fun x => { x with replies := x.replies + 1, lastReply := some f.src }) u)) ∧
    (1 < f.tags ∨ f.fragment = true → exec (.addressResolution t f) s = .next u ∧ exec (.echoRequest t f) s = .next u))

/-- KEY_SLOT_WRITE and KEY_RIGHTS_WRITE. -/
def Obligations.KeySlotsAndRights : Prop :=
  (∀ (t : Nat) (r : Req) (k : Fin 4) (offset : Nat) (d : List Byte) (s : State), let u := advance t s
    let remains := ∃ j, j < 4 ∧ bit (keyRights u) j = true ∧ (if j = k.val then d ≠ [] else u.keySlot j ≠ [])
    NewRequest u r → MayWrite u r 0x1400 → d.length ≤ 256 →
    (offset = 0 → (d.length = 32 ∨ d.length = 0) → remains → u.dev.power.brace = false →
      Completes (exec (.keySlotWrite t r k offset d) s) fun s' =>
        Answers s' r 0 ∧ s'.keySlot k = d ∧ (∀ j, j ≠ k.val → s'.keySlot j = u.keySlot j) ∧ s'.dev = u.dev) ∧
    (offset = 0 → (d.length = 32 ∨ d.length = 0) → ¬ remains →
      Completes (exec (.keySlotWrite t r k offset d) s) fun s' =>
        Answers s' r 0x05300000 ∧ s'.link.keys = u.link.keys ∧ s'.dev = u.dev) ∧
    (offset ≠ 0 ∨ (d.length ≠ 32 ∧ d.length ≠ 0) →
      Completes (exec (.keySlotWrite t r k offset d) s) fun s' =>
        Answers s' r 0x03850000 ∧ s'.link.keys = u.link.keys ∧ s'.dev = u.dev)) ∧
  (∀ (t : Nat) (r : Req) (v : Nat) (s : State), let u := advance t s
    let remains := ∃ j, j < 4 ∧ bit v j = true ∧ u.keySlot j ≠ []
    NewRequest u r → MayWrite u r 0x1400 →
    (v < 16 → remains → Completes (exec (.keyRightsWrite t r v) s) fun s' =>
      Answers s' r 0 ∧ keyRights s' = v ∧ s'.link.keys = u.link.keys ∧ s'.dev = { u.dev with dict := s'.dev.dict } ∧
      s'.dev.dict = { u.dev.dict with rw := s'.dev.dict.rw }) ∧
    (v < 16 → ¬ remains → Completes (exec (.keyRightsWrite t r v) s) fun s' => Answers s' r 0x05300000 ∧ s'.dev = u.dev) ∧
    (16 ≤ v → Completes (exec (.keyRightsWrite t r v) s) fun s' => Answers s' r 0x03830000 ∧ s'.dev = u.dev))

/-- CARGO_OPEN_WRITE and CARGO_OPEN_READ. -/
def Obligations.CargoOpens : Prop :=
  (∀ (t : Nat) (r : Req) (index sub offset total seg : Nat) (s : State), let u := advance t s
    NewRequest u r → sub < 256 →
    (lowest (objectCodes r index sub u ++ openCodes r index sub seg u ++ openWriteCodes r index sub offset total u) = 0 →
      Completes (exec (.cargoOpenWrite t r index sub offset total seg) s) fun s' =>
        Answers s' r 0 ∧
        (∃ a ∈ (s'.session r.sess).transfers, a.num = (u.session r.sess).nextTransfer ∧ a.write = true ∧ a.key = key index sub ∧
          a.offset = offset ∧ a.total = total ∧ a.acked = 0 ∧ a.segSize = (if (u.port r.port).cfg.mtu = 1500 then 1024 else seg) ∧
          a.window = (if index = 0xA012 ∧ writesFull u = true then a.segSize else 262144) ∧
          ∃ x, (s'.session r.sess).last = some x ∧
            x.data = leBytes 2 a.num ++ [0, 0] ++ leBytes 4 a.window ++ leBytes 4 a.segSize) ∧
        (∀ a ∈ (u.session r.sess).transfers, a ∈ (s'.session r.sess).transfers) ∧
        (s'.session r.sess).nextTransfer = (u.session r.sess).nextTransfer + 1 ∧
        (∀ x, x ≠ r.sess → s'.session x = u.session x) ∧ SessionsOnly s' u) ∧
    (lowest (objectCodes r index sub u) = 0 → segSizeOk seg = true → isDomain index sub = true →
      4 ≤ (u.session r.sess).transfers.length ∨ 16 ≤ openTransfers u →
      Completes (exec (.cargoOpenWrite t r index sub offset total seg) s) fun s' =>
        Answers s' r 0x01110000 ∧ (s'.session r.sess).transfers = (u.session r.sess).transfers ∧ SessionsOnly s' u)) ∧
  (∀ (t : Nat) (r : Req) (offset total : Nat) (s : State), let u := advance t s
    NewRequest u r → r.view = none → r.staged = false → mooring u = false → (u.session r.sess).transfers.length < 4 →
    openTransfers u < 16 → offset + total ≤ 33554432 → (∀ b ∈ contentBanks offset total, bankOwner u b = 0x41) →
    Completes (exec (.cargoOpenRead t r 0xA050 1 offset total 1024) s) fun s' =>
      Answers s' r 0 ∧
      (∃ a ∈ (s'.session r.sess).transfers, a.num = (u.session r.sess).nextTransfer ∧ a.write = false ∧ a.total = total ∧
        a.acked = 0 ∧ a.segSize = 1024 ∧ a.sentTo = min total 16384 ∧ a.sends0 + a.sends1 = (min total 16384 + 1023) / 1024 ∧
        ∀ i, i < total → mget 0 i a.bytes = mget 0 (offset + i) u.dev.scratch.content) ∧
      (∀ x, x ≠ r.sess → s'.session x = u.session x) ∧ SessionsOnly s' u)

/-- CARGO_DATA, CARGO_ACK, CARGO_RESEND, CARGO_IDLE_TIMEOUT and CARGO_CLOSE. -/
def Obligations.CargoTransfers : Prop :=
  (∀ (t : Nat) (port : Fin 2) (k num p : Nat) (d : List Byte) (a : Transfer) (s : State), let u := advance t s
    Arrives u k port true → (u.session k).transfer num = some a → a.write = true → segmentFits a p d.length = true → a.acked ≤ p →
    p ∉ a.got → memWf 0 a.bytes = true →
    (heldToClose a = true → Completes (exec (.cargoData t port k true num p (crc32c d) d) s) fun s' =>
      (∃ b, (s'.session k).transfer num = some b ∧ a.acked ≤ b.acked ∧ (s'.session k).cargoAck = some (num, b.acked, b.window, 0) ∧
        (∀ (i : Nat) (h : i < d.length), mget 0 (p + i) b.bytes = d[i])) ∧
      s'.link.cargoBytes = (u.link.cargoBytes + d.length) % 2 ^ 64 ∧ s'.dev = u.dev) ∧
    (a.key = key 0xA050 1 → memWf 0 u.dev.scratch.content = true →
      (∀ b ∈ contentBanks (a.offset + p) d.length, bankOwner u b = 0x41) →
      Completes (exec (.cargoData t port k true num p (crc32c d) d) s) fun s' =>
        (∀ (i : Nat) (h : i < d.length), mget 0 (a.offset + p + i) s'.dev.scratch.content = d[i]) ∧
        (∀ x, x < a.offset + p ∨ a.offset + p + d.length ≤ x → mget 0 x s'.dev.scratch.content = mget 0 x u.dev.scratch.content) ∧
        s'.dev.dict = u.dev.dict ∧ s'.dev.engines = u.dev.engines) ∧
    (∀ crc, crc ≠ crc32c d → Completes (exec (.cargoData t port k true num p crc d) s) fun s' =>
      s'.link.cargoCrcFails = sat32 (u.link.cargoCrcFails + 1) ∧ (s'.session k).transfers = (u.session k).transfers ∧
      s'.dev = u.dev)) ∧
  (∀ (t : Nat) (port : Fin 2) (k num acked window : Nat) (a : Transfer) (s : State), let u := advance t s
    Arrives u k port true → (u.session k).transfer num = some a → a.write = false →
    (Completes (exec (.cargoAck t port k true num acked window 0) s) fun s' =>
      (∃ b, (s'.session k).transfer num = some b ∧ b.acked = max a.acked (min acked a.total) ∧ b.window = window ∧
        b.bytes = a.bytes) ∧ SessionsOnly s' u) ∧
    (∀ abort, abort ≠ 0 → Completes (exec (.cargoAck t port k true num acked window abort) s) fun s' =>
      (s'.session k).transfer num = none ∧ SessionsOnly s' u)) ∧
  (∀ (t k num : Nat) (a : Transfer) (s : State), let u := advance t s
    (u.session k).transfer num = some a →
    (a.write = false → a.acked < a.total → a.lastAdvance + 200000 ≤ u.now →
      Completes (exec (.cargoResend t k num) s) fun s' =>
        (∃ b, (s'.session k).transfer num = some b ∧ b.resends = a.resends + 1 ∧ b.lastAdvance = u.now ∧ b.acked = a.acked) ∧
        SessionsOnly s' u) ∧
    (a.lastAccepted + 400000000 ≤ u.now → Completes (exec (.cargoIdleTimeout t k num) s) fun s' =>
      (s'.session k).transfer num = none ∧ (∃ w, (s'.session k).cargoAck = some (num, a.acked, w, 0x01140000 + num)) ∧ SessionsOnly s' u) ∧
    (u.now < a.lastAccepted + 400000000 → exec (.cargoIdleTimeout t k num) s = .next u)) ∧
  (∀ (t : Nat) (r : Req) (num crc : Nat) (ok : Bool) (s : State), let u := advance t s
    NewRequest u r → num < 65536 →
    ((u.session r.sess).transfer num = none → Completes (exec (.cargoClose t r num crc ok) s) fun s' =>
      Answers s' r (0x01100000 + num) ∧ SessionsOnly s' u) ∧
    (∀ a, (u.session r.sess).transfer num = some a →
      (a.acked ≠ a.total ∨ crc32c a.data ≠ crc → Completes (exec (.cargoClose t r num crc ok) s) fun s' =>
        Answers s' r (0x01130000 + num) ∧ (s'.session r.sess).transfer num = none ∧ SessionsOnly s' u) ∧
      (a.acked = a.total → crc32c a.data = crc → a.write = false → Completes (exec (.cargoClose t r num crc ok) s) fun s' =>
        Answers s' r 0 ∧ (s'.session r.sess).transfer num = none ∧ SessionsOnly s' u) ∧
      (a.acked = a.total → crc32c a.data = crc → a.write = true → a.key = key 0xA021 1 → a.offset % 64 = 0 → a.total % 64 = 0 →
        a.offset + a.total ≤ 33554432 → u.dev.dict.commit.st = 0 → u.dev.ring.commit.readySent = false →
        memWf 0 u.dev.dict.stepsStaged = true → Completes (exec (.cargoClose t r num crc ok) s) fun s' =>
        Answers s' r 0 ∧ (s'.session r.sess).transfer num = none ∧
        (∀ i, i < a.total → mget 0 (a.offset + i) s'.dev.dict.stepsStaged = mget 0 i a.bytes) ∧
        (∀ x, x < a.offset ∨ a.offset + a.total ≤ x → mget 0 x s'.dev.dict.stepsStaged = mget 0 x u.dev.dict.stepsStaged) ∧
        s'.dev.dict.stepsActive = u.dev.dict.stepsActive ∧ s'.dev = { u.dev with dict := s'.dev.dict })))

/-- R387. -/
def Obligations.DramReleases : Prop :=
  (∀ (t : Nat) (r : Req) (m : Fin 6) (s : State), let u := advance t s
    NewRequest u r → r.view = none → mooring u = false →
    (isHm u r.sess = true → (u.chan m).st = 2 → Completes (exec (.dchRelease t r m 1) s) fun s' =>
      Answers s' r 0 ∧ (s'.chan m).st = 3 ∧ (s'.chan m).record = none ∧ (s'.chan m).rate = u.act 0x3000 1 ∧
      (∀ x, x ≠ m.val → s'.chan x = u.chan x) ∧ s'.dev = { u.dev with dram := s'.dev.dram }) ∧
    (isHm u r.sess = false → Completes (exec (.dchRelease t r m 1) s) fun s' => Answers s' r 0x02010000 ∧ s'.dev = u.dev) ∧
    (isHm u r.sess = true → (u.chan m).st = 5 → Completes (exec (.dchRelease t r m 1) s) fun s' =>
      Answers s' r (0x06620000 + m) ∧ s'.dev = u.dev) ∧
    (isHm u r.sess = true → (u.chan m).st ≠ 2 → (u.chan m).st ≠ 5 → Completes (exec (.dchRelease t r m 1) s) fun s' =>
      Answers s' r (0x06600000 + m) ∧ s'.dev = u.dev)) ∧
  (∀ (t : Nat) (m : Fin 6) (s : State), let u := advance t s
    let v := u.rwv 0x3000 4
    (v ≠ 0 → (u.chan m).st = 2 → (u.chan m).frozenAt + v * 400000000 ≤ u.now → Completes (exec (.freezeAutoRelease t m) s) fun s' =>
      (s'.chan m).st = 3 ∧ (s'.chan m).record = none ∧ (∀ x, x ≠ m.val → s'.chan x = u.chan x) ∧
      s'.dev = { u.dev with dram := s'.dev.dram } ∧ s'.link = u.link) ∧
    (v = 0 ∨ u.now < (u.chan m).frozenAt + v * 400000000 → exec (.freezeAutoRelease t m) s = .next u))

/-- DRAM_FREEZE, the phases of Tables 14-6 and 14-8, DRAM_TRAIN_REQ and MR4_READ. -/
def Obligations.DramFreezesAndTraining : Prop :=
  ∀ (t : Nat) (m : Fin 6) (s : State), let u := advance t s
    let c := u.chan m
    let stays := fun s' : State => s'.dev.dict = u.dev.dict ∧ s'.dev.engines = u.dev.engines ∧ s'.dev.outs = u.dev.outs ∧
      s'.dev.store = u.dev.store
    let quiet := u.dev.dram.due = [] ∧ u.dev.dram.change = none ∧ u.dev.dram.ratePending = 0xFF ∧
      ∀ k, k < 6 → (u.chan k).rate = u.act 0x3000 1
    (∀ cause a, c.st = 0 → (u.chan (twin m)).st = 0 → 1 ≤ cause → cause ≤ 4 →
      Completes (exec (.dramFreeze t m cause a) s) fun s' =>
        lineAt s' (u.now + 3) 2023 = true ∧ stays s' ∧ (s'.chan (twin m)).st = 0 ∧
        (c.freezes < 2 → (s'.chan m).st = 2 ∧ (s'.chan m).freezes = c.freezes + 1 ∧ (s'.chan m).frozenAt = u.now ∧
          (s'.chan m).record = some { cause := cause, op := c.rate, bank := a.bank, row := a.row, col := a.col, addr := a.addr,
                                      syndrome := a.syndrome, time := u.time }) ∧
        (c.freezes = 2 → (s'.chan m).st = 5 ∧ bit s'.dev.faults.reasons 1 = true)) ∧
    (∀ cause a, c.st = 0 → (u.chan (twin m)).st = 2 → (cause = 1 ∨ cause = 2) → c.retry = none →
      exec (.dramFreeze t m cause a) s = .next (modChan m (fun c => { c with retry := some a }) u)) ∧
    (c.st = 3 → (Completes (exec (.dramReinitDone t m true) s) fun s' =>
        (s'.chan m).st = 1 ∧ (s'.chan m).phase = .sweep ∧ (s'.chan m).set = storedSet c c.rate ∧ stays s') ∧
      (Completes (exec (.dramReinitDone t m false) s) fun s' =>
        (s'.chan m).st = 5 ∧ bit s'.dev.faults.reasons 1 = true ∧ stays s')) ∧
    (c.phase = .drain → c.changing = false →
      exec (.retrainDrainDone t m) s = .next (modChan m (fun c => { c with phase := .sweep }) u)) ∧
    (c.phase = .sweep →
      (∀ b, exec (.retrainSweepDone t m (some b)) s = .next (modChan m (fun c => { c with set := b, phase := .retest }) u)) ∧
      exec (.retrainSweepDone t m none) s = .next (modChan m (fun c => { c with set := c.oldSet, phase := .oldRetest }) u)) ∧
    (c.phase = .retest → Completes (exec (.retrainRetestDone t m true) s) fun s' =>
      (s'.chan m).marginal = false ∧ (c.afterRelease = false → (s'.chan m).phase = .replay ∧ (s'.chan m).st = c.st) ∧
      (c.afterRelease = true → (s'.chan m).phase = .none ∧ (s'.chan m).st = 4 ∧ (s'.chan m).trains = sat32 (c.trains + 1)) ∧
      (∀ x, x ≠ m.val → s'.chan x = u.chan x) ∧ stays s') ∧
    (c.phase = .oldRetest → Completes (exec (.retrainRetestDone t m false) s) fun s' =>
      (s'.chan m).st = 5 ∧ (s'.chan m).phase = .none ∧ stays s') ∧
    (c.phase = .replay → quiet → ∀ bytes, Completes (exec (.retrainReplayDone t m bytes) s) fun s' =>
      (s'.chan m).st = 0 ∧ (s'.chan m).phase = .none ∧ (s'.chan m).writeLog = [] ∧ (s'.chan m).trains = sat32 (c.trains + 1) ∧
      (∀ x, x ≠ m.val → s'.chan x = u.chan x) ∧ stays s') ∧
    (c.st = 4 → quiet → ∀ bytes, Completes (exec (.resilverDone t m bytes) s) fun s' =>
      (s'.chan m).st = 0 ∧ (s'.chan m).writeLog = [] ∧ (∀ x, x ≠ m.val → s'.chan x = u.chan x) ∧ stays s') ∧
    (∀ (r : Req) (v : Nat), NewRequest u r → MayWrite u r 0x3000 → v < 8 → quiet → (∀ k, k < 6 → (u.chan k).st = 0) →
      Completes (exec (.dramTrainReq t r v) s) fun s' =>
        Answers s' r 0 ∧ stays s' ∧ ∀ p, p < 3 →
          (bit v p = true → (s'.chan (2 * p)).st = 1 ∧ (s'.chan (2 * p)).phase = .drain ∧ (s'.chan (2 * p + 1)).st = 0 ∧
            2 * p + 1 ∈ s'.dev.dram.due) ∧
          (bit v p = false → s'.chan (2 * p) = u.chan (2 * p) ∧ s'.chan (2 * p + 1) = u.chan (2 * p + 1))) ∧
    (∀ (r : Req) (p : Fin 3), NewRequest u r → MayWrite u r 0x3000 → (u.chan (2 * p)).st = 2 →
      Completes (exec (.dramTrainReq t r (2 ^ p.val)) s) fun s' => Answers s' r (0x06610000 + p) ∧ s'.dev = u.dev) ∧
    (∀ (hot : Bool) (temp : Int), c.st = 0 → Completes (exec (.mr4Read t m hot temp) s) fun s' =>
      (s'.chan m).temp = temp ∧ (s'.chan m).doubled = hot ∧ stays s')

/-- DRAM_READ_COMPLETE, SCRUB, REFRESH_DUE and ROW_COUNTER_WINDOW. -/
def Obligations.DramReadsAndRefresh : Prop :=
  ∀ (t : Nat) (m : Fin 6) (a : DramAddr) (s : State), let u := advance t s
    let c := u.chan m
    let stays := fun s' : State => s'.dev.dict = u.dev.dict ∧ s'.dev.outs = u.dev.outs ∧ s'.dev.store = u.dev.store
    let corrected := fun s' : State => tget 0 0 s'.dev.faults.classes = sat32 (tget 0 0 u.dev.faults.classes + 1) ∧
      s'.dev.faults.log = u.dev.faults.log
    (c.st = 0 → ∀ (e : Fin 64) (words : Nat) (arrived : List DramCmd),
      (Completes (exec (.dramReadComplete t m .clean a (some e) words arrived) s) fun s' =>
        (s'.core e).src.fill = min 4096 ((u.core e).src.fill + words) ∧ (∀ x, x ≠ e.val → s'.engine x = u.engine x) ∧
        (a.bank, a.row) ∈ (s'.chan m).openRow ∧ (s'.chan m).st = 0 ∧ (s'.chan m).inOrder = orderedBanks (s'.chan m).work.queue ∧
        (c.work.queue = [] → arrived = [] → (s'.chan m).work.queue = []) ∧
        (∀ w, c.work.queue = [] → arrived = [w] → w.op = .write → w.bank ≠ a.bank → (s'.chan m).work.queue = [w]) ∧
        s'.dev.faults = u.dev.faults ∧ stays s' ∧ s'.link = u.link) ∧
      (Completes (exec (.dramReadComplete t m .correctedInline a (some e) words arrived) s) fun s' =>
        (s'.core e).src.fill = min 4096 ((u.core e).src.fill + words) ∧ (s'.chan m).corrInline = sat32 (c.corrInline + 1) ∧
        corrected s' ∧ stays s' ∧ s'.link = u.link) ∧
      (Completes (exec (.dramReadComplete t m .correctedLink a (some e) words arrived) s) fun s' =>
        (s'.core e).src.fill = min 4096 ((u.core e).src.fill + words) ∧ (s'.chan m).corrLink = sat32 (c.corrLink + 1) ∧
        corrected s' ∧ stays s' ∧ s'.link = u.link) ∧
      ((u.chan (twin m)).st = 0 → c.freezes < 2 → Completes (exec (.dramReadComplete t m .badInline a (some e) words arrived) s) fun s' =>
        (s'.chan m).st = 2 ∧ (∃ r, (s'.chan m).record = some r ∧ r.cause = 1 ∧ r.addr = a.addr) ∧
        s'.dev.engines = u.dev.engines ∧ stays s') ∧
      ((u.chan (twin m)).st = 0 → c.freezes < 2 → Completes (exec (.dramReadComplete t m .badLink a (some e) words arrived) s) fun s' =>
        (s'.chan m).st = 2 ∧ (∃ r, (s'.chan m).record = some r ∧ r.cause = 2 ∧ r.addr = a.addr) ∧
        s'.dev.engines = u.dev.engines ∧ stays s')) ∧
    (c.st = 0 →
      (Completes (exec (.scrub t m .clean a) s) fun s' =>
        s'.dev = { u.dev with dram := s'.dev.dram } ∧ (a.bank, a.row) ∈ (s'.chan m).openRow ∧ s'.link = u.link) ∧
      (Completes (exec (.scrub t m .correctedInline a) s) fun s' =>
        (s'.chan m).corrInline = sat32 (c.corrInline + 1) ∧ corrected s' ∧ s'.dev.engines = u.dev.engines ∧ stays s')) ∧
    (∀ bank, c.st ≠ 2 → c.st ≠ 3 → c.st ≠ 5 →
      (panicOn u m = false → Completes (exec (.refreshDue t m bank) s) fun s' =>
        tget 0 bank (s'.chan m).owed = 0 ∧ (∀ row, (bank, row) ∉ (s'.chan m).openRow) ∧
        (∀ b, b ≠ bank → tget 0 b (s'.chan m).owed = tget 0 b c.owed) ∧ s'.dev = { u.dev with dram := s'.dev.dram }) ∧
      (panicOn u m = true → tget 0 bank c.owed < 8 → Completes (exec (.refreshDue t m bank) s) fun s' =>
        tget 0 bank (s'.chan m).owed = tget 0 bank c.owed + 1 ∧ (s'.chan m).postponed = sat32 (c.postponed + 1) ∧
        (s'.chan m).openRow = c.openRow ∧ s'.dev = { u.dev with dram := s'.dev.dram }) ∧
      (panicOn u m = true → 8 ≤ tget 0 bank c.owed → Completes (exec (.refreshDue t m bank) s) fun s' =>
        (s'.chan m).owed = c.owed ∧ (∀ row, (bank, row) ∉ (s'.chan m).openRow) ∧ s'.dev = { u.dev with dram := s'.dev.dram })) ∧
    (4 ≤ m.val → Completes (exec (.rowCounterWindow t m) s) fun s' =>
      (s'.chan m).rows = [] ∧ (∀ x, x ≠ m.val → s'.chan x = u.chan x) ∧ s'.dev = { u.dev with dram := s'.dev.dram })

/-- The commands of the Berth port, and the accesses at port A of its banks: which of them is served, collisions, atomic operations. -/
def Obligations.BerthAccesses : Prop :=
  ∀ (t : Nat) (s : State), let u := advance t s
    let x := u.dev.scratch.berth
    let content := u.dev.scratch.content
    let stays := fun s' : State => s'.dev.dict = u.dev.dict ∧ s'.dev.engines = u.dev.engines ∧ s'.dev.store = u.dev.store
    -- the `n` bytes at `a` hold `v`, and every other byte is as it was
    let holds := fun (s' : State) (a n v : Nat) => mval a n s'.dev.scratch.content = v ∧
      ∀ y, y < a ∨ a + n ≤ y → mget 0 y s'.dev.scratch.content = mget 0 y content
    -- a march run tests bank `b`; an access of its test
    let tests := fun b : Nat => ∃ r, u.dev.scratch.march = some r ∧ r.bank = b
    let test := fun (w : Nat) (op : PortOp) => ({ master := 0x43, march := false, word := w, op := op } : PortA)
    u.dev.power.phase = .ready →
    (∀ (slot : Fin 8) (w : Nat), let k := berthSlot u slot
      let b := k % 128
      bit k 8 = true → controlSlot u slot = false → w < 65536 →
      (bankOwner u b = 0x42 → borrowed u b w = false →
        (Completes (exec (.berthRead t slot w [] []) s) fun s' =>
          s'.dev.scratch.berth.bd = BitVec.ofNat 32 (bankWord u b w) ∧ s'.dev.scratch.berth.busy = false ∧
          s'.dev.scratch.berth.accesses = (x.accesses + 1) % 2 ^ 64 ∧ s'.dev.scratch.content = content ∧
          (∀ y, y ≠ b → s'.bank y = u.bank y) ∧ stays s' ∧ s'.link = u.link) ∧
        (∀ v : Word, tests b → memWf 0 content = true → Completes (exec (.berthRead t slot w [test w (.write v.toNat)] []) s) fun s' =>
          s'.dev.scratch.berth.bd = Config.undefinedWord u.undefined ∧ s'.undefined = u.undefined + 1 ∧
          s'.dev.scratch.berth.busy = true ∧ s'.dev.scratch.berth.busies = sat32 (x.busies + 1) ∧
          tget 0 0x42 s'.dev.scratch.conflicts = sat32 (tget 0 0x42 u.dev.scratch.conflicts + 1) ∧
          tget 0 0x43 s'.dev.scratch.conflicts = sat32 (tget 0 0x43 u.dev.scratch.conflicts + 1) ∧
          holds s' (b * 262144 + 4 * w) 4 v.toNat ∧ stays s' ∧ s'.link = u.link) ∧
        (∀ (v : Word) (x : PortA), x.master = 0x40 → x.op = .write v.toNat → (portWords x).any (borrowed u b) = false →
          Completes (exec (.berthRead t slot w [x] []) s) fun s' =>
          s'.dev.scratch.berth.bd = BitVec.ofNat 32 (bankWord u b w) ∧ s'.dev.scratch.berth.busy = false ∧
          (s'.bank b).ownerFaults = sat32 ((u.bank b).ownerFaults + 1) ∧ (s'.bank b).lastMaster = 0x40 ∧
          s'.dev.scratch.content = content ∧ stays s') ∧
        (∀ v : Word, bit k 9 = true → memWf 0 content = true → 3 ≤ u.now →
          (Completes (exec (.berthWrite t slot w v [] (u.now - 3)) s) fun s' =>
            holds s' (b * 262144 + 4 * w) 4 v.toNat ∧ s'.dev.scratch.berth.busy = false ∧ stays s' ∧ s'.link = u.link) ∧
          (tests b → Completes (exec (.berthWrite t slot w v [test w .read] (u.now - 3)) s) fun s' =>
            holds s' (b * 262144 + 4 * w) 4 v.toNat ∧ s'.dev.scratch.berth.busy = true ∧ stays s') ∧
          (∀ v' : Word, tests b → Completes (exec (.berthWrite t slot w v [test w (.write v'.toNat)] (u.now - 3)) s) fun s' =>
            holds s' (b * 262144 + 4 * w) 4 v'.toNat ∧ s'.dev.scratch.berth.busy = true ∧ stays s' ∧ s'.link = u.link))) ∧
      (bankOwner u b = 0x40 → u.dev.scratch.march = none → memWf 0 content = true → ∀ v : Nat,
        let own := fun op => ({ master := 0x40, march := false, word := w, op := op } : PortA)
        let two := b * 262144 + 4 * (w / 2 * 2)
        let gives := fun (op : PortOp) (a n new : Nat) => Completes (exec (.berthRead t slot w [own op] []) s) fun s' =>
          s'.dev.scratch.atomic = some (0x40, mval a n content) ∧ holds s' a n (new % 2 ^ (8 * n)) ∧ stays s'
        gives (.add32 v) (b * 262144 + 4 * w) 4 (mval (b * 262144 + 4 * w) 4 content + v) ∧
        gives (.swap32 v) (b * 262144 + 4 * w) 4 v ∧
        gives (.add64 v) two 8 (mval two 8 content + v) ∧
        gives (.swap64 v) two 8 v) ∧
      (bankOwner u b = 0x41 → tests b → borrowed u b w = false → memWf 0 content = true → ∀ v : Word,
        let link := ({ master := 0x41, march := false, word := w, op := .write v.toNat } : PortA)
        (Completes (exec (.berthRead t slot w [link, { test w .read with march := true }] []) s) fun s' =>
          s'.dev.scratch.content = content ∧ stays s') ∧
        (Completes (exec (.berthRead t slot w [test w .read, link] []) s) fun s' =>
          holds s' (b * 262144 + 4 * w) 4 v.toNat ∧ stays s')) ∧
      (∀ (v : Word) (x : Nat), x + 3 ≠ u.now → exec (.berthWrite t slot w v [] x) s = .next u) ∧
      (bankOwner u b ≠ 0x42 → Completes (exec (.berthRead t slot w [] []) s) fun s' =>
        s'.dev.scratch.berth.bd = 0 ∧ s'.dev.scratch.berth.busy = true ∧ bit s'.dev.scratch.berth.status 0 = true ∧
        (s'.bank b).ownerFaults = sat32 ((u.bank b).ownerFaults + 1) ∧ (s'.bank b).lastMaster = 0x42 ∧
        s'.dev.scratch.content = content ∧ stays s') ∧
      (∀ v : Word, bit k 9 = false → 3 ≤ u.now → Completes (exec (.berthWrite t slot w v [] (u.now - 3)) s) fun s' =>
        s'.dev.scratch.content = content ∧ s'.dev.scratch.berth.busy = true ∧ bit s'.dev.scratch.berth.status 0 = true ∧
        stays s' ∧ s'.link = u.link)) ∧
    (bit (berthSlot u 7) 8 = true → bit (berthSlot u 7) 10 = true →
      (Completes (exec (.berthTimeRead t) s) fun s' =>
        s'.dev.scratch.berth.bd = BitVec.ofNat 32 u.now ∧ s'.dev.scratch.berth.latchHi = u.now / 2 ^ 32 % 2 ^ 32 ∧
        s'.dev.scratch.berth.busy = false ∧ s'.dev.scratch.berth.status = x.status ∧ stays s' ∧ s'.link = u.link) ∧
      (∀ v : Word, bit (berthSlot u 7) 9 = true →
        (Completes (exec (.berthStatusClear t v) s) fun s' =>
          (∀ k, bit s'.dev.scratch.berth.status k = (bit x.status k && !bit v.toNat k)) ∧ s'.dev.scratch.content = content ∧
          s'.dev.scratch.berth.doorbell = x.doorbell ∧ stays s' ∧ s'.link = u.link) ∧
        (Completes (exec (.sendDoorbellNotice t v) s) fun s' =>
          (∀ k, 1 ≤ k → k ≤ 8 → (u.session k).isOpen = true → bit (noticeMask (u.session k)) 3 = true →
            (u.session k).notices.length < 256 →
            ∃ n ∈ (s'.session k).notices, n.code = 0x0034 ∧ n.params = [v.toNat] ∧ n.n = u.now) ∧
          s'.dev.scratch.content = content ∧ stays s') ∧
        (bankOwner u (v.toNat % 128) = 0x42 → bits v.toNat 15 8 ≤ 0x43 →
          Completes (exec (.berthHandover t v) s) fun s' =>
            s'.dev.scratch.berth.handover = some (v.toNat % 128, bits v.toNat 15 8) ∧ s'.dev.scratch.content = content ∧
            s'.dev.scratch.berth.busy = false ∧ stays s' ∧ s'.link = u.link) ∧
        (bankOwner u (v.toNat % 128) ≠ 0x42 → Completes (exec (.berthHandover t v) s) fun s' =>
          s'.dev.scratch.berth.handover = x.handover ∧ bit s'.dev.scratch.berth.status 0 = true ∧
          s'.dev.scratch.content = content ∧ stays s'))) ∧
    (∀ b o, x.handover = some (b, o) → b < 128 →
      (u.dev.dict.commit.st = 0 → Completes (exec (.handoverTakesEffect t) s) fun s' =>
        bankOwner s' b = o ∧ (∀ y, y ≠ b → y < 128 → bankOwner s' y = bankOwner u y) ∧ s'.dev.scratch.berth.handover = none ∧
        (key (0x3100 + b) 1 ∉ u.dev.dict.changed → s'.stg (0x3100 + b) 1 = o) ∧
        (key (0x3100 + b) 1 ∈ u.dev.dict.changed → s'.dev.dict.staged = u.dev.dict.staged) ∧
        s'.dev.scratch.content = content ∧ s'.dev.engines = u.dev.engines ∧ s'.link = u.link) ∧
      (u.dev.dict.commit.st ≠ 0 → exec (.handoverTakesEffect t) s = .next u))

/-- R422. -/
def Obligations.BerthDoorbell : Prop :=
  ∀ (t : Nat) (r : Req) (v : Nat) (s : State), let u := advance t s
    NewRequest u r → MayWrite u r 0x3050 → v < 2 ^ 32 →
    Completes (exec (.berthDoorbell t r v) s) fun s' =>
      Answers s' r 0 ∧ bit s'.dev.scratch.berth.status 2 = true ∧ controlWord s' 1 = v ∧
      (∀ k, k ≠ 2 → bit s'.dev.scratch.berth.status k = bit u.dev.scratch.berth.status k) ∧
      s'.dev = { u.dev with scratch := { u.dev.scratch with berth :=
        { u.dev.scratch.berth with status := s'.dev.scratch.berth.status, doorbell := v } } }

/-- The march commands, BANK_RETENTION and BANK_WAKE. -/
def Obligations.MarchRunsAndRetention : Prop :=
  (∀ (t : Nat) (r : Req) (v : Nat) (s : State), let u := advance t s
    let b := v % 128
    NewRequest u r → MayWrite u r 0x3040 →
    (lowest (marchCodes (clearBit v 8) u) = 0 → Completes (exec (.marchPreserving t r v) s) fun s' =>
      Answers s' r 0 ∧ (∃ x, s'.dev.scratch.march = some x ∧ x.bank = b ∧ x.destructive = false ∧ x.row = 0 ∧ x.window = none) ∧
      (s'.bank b).retention = false ∧ (s'.bank b).waking = false ∧ (∀ y, y ≠ b → s'.bank y = u.bank y) ∧
      s'.dev.scratch.content = u.dev.scratch.content ∧ s'.dev = { u.dev with scratch := s'.dev.scratch }) ∧
    (lowest (marchCodes (setBit v 8) u) = 0 → Completes (exec (.marchDestructive t r v) s) fun s' =>
      Answers s' r 0 ∧ (∃ x, s'.dev.scratch.march = some x ∧ x.bank = b ∧ x.destructive = true ∧ x.prevOwner = bankOwner u b) ∧
      bankOwner s' b = 0x43 ∧ (∀ y, y ≠ b → y < 128 → bankOwner s' y = bankOwner u y) ∧
      s'.dev.scratch.content = u.dev.scratch.content ∧ s'.dev.engines = u.dev.engines) ∧
    (u.dev.scratch.march.isSome = true → Completes (exec (.marchPreserving t r v) s) fun s' =>
      Answers s' r (0x06700000 + b) ∧ s'.dev = u.dev)) ∧
  (∀ (t : Nat) (x : March) (s : State), let u := advance t s
    let row := fun k => x.bank * 262144 + 256 * k
    u.dev.scratch.march = some x →
    (x.destructive = false → x.window = none → x.row < 1024 → x.releasedAt + u.rwv 0x3040 4 ≤ u.now →
      Completes (exec (.marchWindowBorrow t) s) fun s' =>
        (∃ y, s'.dev.scratch.march = some y ∧ y.window = some u.now ∧ y.cur = x.row ∧ y.row = x.row + 1 ∧ y.bank = x.bank ∧
          ∀ i, i < 256 → mget 0 i y.saved = mget 0 (row x.row + i) u.dev.scratch.content) ∧
        s'.dev.scratch.content = u.dev.scratch.content ∧ s'.dev = { u.dev with scratch := s'.dev.scratch } ∧ s'.link = u.link) ∧
    (∀ w busy fail, x.window = some w → w + min (642 + busy) 1024 ≤ u.now → memWf 0 u.dev.scratch.content = true →
      Completes (exec (.marchWindowRelease t busy fail) s) fun s' =>
        (∀ i, i < 256 → mget 0 (row x.cur + i) s'.dev.scratch.content = mget 0 i x.saved) ∧
        (∀ y, y < row x.cur ∨ row x.cur + 256 ≤ y → mget 0 y s'.dev.scratch.content = mget 0 y u.dev.scratch.content) ∧
        (∃ y, s'.dev.scratch.march = some y ∧ y.window = none ∧ y.releasedAt = u.now ∧ y.bank = x.bank ∧ (382 < busy → x.cur ∈ y.again)) ∧
        s'.dev.scratch.abandoned = (if 382 < busy then sat32 (u.dev.scratch.abandoned + 1) else u.dev.scratch.abandoned) ∧
        (fail = none → s'.dev.scratch.repairs = u.dev.scratch.repairs) ∧
        (fail ≠ none → (x.bank, x.cur) ∈ s'.dev.scratch.repairs) ∧
        s'.dev.dict = u.dev.dict ∧ s'.dev.engines = u.dev.engines) ∧
    (∀ w busy fail, x.window = some w → u.now < w + min (642 + busy) 1024 → exec (.marchWindowRelease t busy fail) s = .next u) ∧
    (runOver u x = true → x.destructive = false → ∀ fail, Completes (exec (.marchDone t fail) s) fun s' =>
      s'.dev.scratch.march = none ∧ s'.dev.scratch.runs = sat32 (u.dev.scratch.runs + 1) ∧
      s'.dev.scratch.content = u.dev.scratch.content ∧ s'.dev.dict = u.dev.dict ∧ s'.dev.engines = u.dev.engines) ∧
    (runOver u x = true → x.destructive = true → memWf 0 u.dev.scratch.content = true →
      ∀ fail, Completes (exec (.marchDone t fail) s) fun s' =>
        s'.dev.scratch.march = none ∧ bankOwner s' x.bank = x.prevOwner ∧
        (∀ y, y / 262144 = x.bank → mget 0 y s'.dev.scratch.content = 0) ∧
        (∀ y, y / 262144 ≠ x.bank → mget 0 y s'.dev.scratch.content = mget 0 y u.dev.scratch.content) ∧
        s'.dev.engines = u.dev.engines)) ∧
  (∀ (t : Nat) (b : Fin 128) (s : State), let u := advance t s
    (u.act (0x3100 + b) 2 = 1 → (u.bank b).retention = false → (u.bank b).waking = false → (u.bank b).lastAccess + 40000 ≤ u.now →
      u.dev.scratch.march = none → exec (.bankRetention t b) s = .next (modBank b (fun k => { k with retention := true }) u)) ∧
    (u.now < (u.bank b).lastAccess + 40000 → exec (.bankRetention t b) s = .next u) ∧
    ((u.bank b).waking = true → exec (.bankWake t b) s = .next (modBank b (fun k => { k with waking := false }) u)))

/-- The calibration commands. -/
def Obligations.Calibration : Prop :=
  (∀ (t : Nat) (q : Fin 8) (temps : List Int) (k : Nat) (s : State), let u := advance t s
    let c := 8 * q.val + k
    u.now % 4000000 = 0 → u.dev.power.phase = .ready → temps.length = 8 → k < 8 → (u.cal c).pass = none →
    ((u.cal c).dueAt = none → passesStopped u c = false →
      1024 * calDelta u < 100 * (listAt 0 k temps - (u.cal c).tCal).natAbs →
      Completes (exec (.calTempRead t q temps) s) fun s' =>
        (s'.cal c).dueAt = some u.now ∧ (∀ x, x / 8 ≠ q.val → s'.cal x = u.cal x) ∧ s'.dev.engines = u.dev.engines ∧
        s'.dev.dict = u.dev.dict ∧ s'.dev.outs = u.dev.outs) ∧
    (u.act 0x5000 1 = 1 → (u.cal c).dueAt ≠ none → passesStopped u c = false →
      (∀ j, j < 8 → (u.cal (8 * q + j)).pass = none) →
      (∀ j, j < 8 → j ≠ k → (u.cal (8 * q + j)).dueAt = none ∧
        100 * (listAt 0 j temps - (u.cal (8 * q + j)).tCal).natAbs ≤ 1024 * calDelta u) →
      Completes (exec (.calTempRead t q temps) s) fun s' =>
        (∃ p, (s'.cal c).pass = some p ∧ p.start = u.now ∧ p.tStart = listAt 0 k temps ∧ p.done = none ∧ p.trims = []) ∧
        (s'.cal c).table = (u.cal c).table ∧ (∀ x, x ≠ c → s'.cal x = u.cal x))) ∧
  (∀ (t : Nat) (c : Fin 64) (p : CalPass) (s : State), let u := advance t s
    let stays := fun s' : State => s'.dev.engines = u.dev.engines ∧ s'.dev.dict = u.dev.dict ∧ s'.dev.lines = u.dev.lines ∧
      (∀ x, x ≠ c.val → s'.cal x = u.cal x)
    (u.cal c).pass = some p → p.done = none →
    (∀ trim : Int, p.element < 66 → u.now = p.start + 12000000 * (p.element + 1) →
      Completes (exec (.calElementMeasured t c trim) s) fun s' =>
        stays s' ∧
        (-128 ≤ trim → trim ≤ 127 → s'.dev.outs = u.dev.outs ∧ (s'.cal c).retired = (u.cal c).retired ∧
          ∃ y, (s'.cal c).pass = some y ∧ tget 0 p.element y.trims = trim ∧ y.element = nextElement (u.cal c).retired (p.element + 1)) ∧
        (trim < -128 ∨ 127 < trim → (s'.cal c).retired = (u.cal c).retired ++ [p.element])) ∧
    (u.now % u.gridE c = 0 → p.element ∈ (u.cal c).map → (∃ k, k < 66 ∧ k ≠ p.element ∧ k ∉ (u.cal c).map ∧ k ∉ (u.cal c).retired) →
      Completes (exec (.elementSubstitution t c) s) fun s' =>
        p.element ∉ (s'.cal c).map ∧ (s'.cal c).map.length = (u.cal c).map.length ∧
        (∀ k ∈ (s'.cal c).map, k ∈ (u.cal c).map ∨ (k < 66 ∧ k ∉ (u.cal c).retired)) ∧ stays s' ∧ s'.dev.outs = u.dev.outs) ∧
    (∀ res : CalResult, u.now = p.start + 800000000 → Completes (exec (.calPassEnd t c res) s) fun s' =>
      (∃ y v, (s'.cal c).pass = some y ∧ y.done = some u.now ∧ y.result = some v ∧
        (∀ g ∈ v.k, 0x380000 ≤ g ∧ g ≤ 0x480000) ∧ (∀ g ∈ v.oc, -4096 ≤ g ∧ g ≤ 4095) ∧ v.k.length = res.k.length ∧
        v.monGain = res.monGain) ∧ stays s' ∧ s'.dev.outs = u.dev.outs)) ∧
  (∀ (t : Nat) (c : Fin 64) (p : CalPass) (v : CalResult) (d : Nat) (s : State), let u := advance t s
    u.now % 400000 = 0 → (u.cal c).pass = some p → p.done = some d → d + 40000 ≤ u.now → p.result = some v →
    Completes (exec (.calSwap t) s) fun s' =>
      (s'.cal c).pass = none ∧ (s'.cal c).dueAt = none ∧ (s'.cal c).tCal = p.tStart ∧ (s'.cal c).time = u.time ∧
      (s'.cal c).table.thOffset = v.thOffset ∧ (s'.cal c).table.monGain = v.monGain ∧ (s'.cal c).waiting ≠ none ∧
      ((u.cal c).source ≠ 3 → (s'.cal c).table.k = v.k ∧ (s'.cal c).table.oc = v.oc ∧ (s'.cal c).source = 4) ∧
      ((u.cal c).source = 3 → (s'.cal c).table.k = (u.cal c).table.k ∧ (s'.cal c).source = 3) ∧
      lineAt s' (u.now + 1) 2020 = true ∧ s'.dev.calSwaps = sat32 (u.dev.calSwaps + 1) ∧
      (∀ x, (u.cal x).pass = none → s'.cal x = u.cal x) ∧ s'.dev.engines = u.dev.engines ∧ s'.dev.dict = u.dev.dict ∧
      s'.dev.outs = u.dev.outs) ∧
  (∀ (t : Nat) (c : Fin 64) (r : CalRec) (s : State), let u := advance t s
    let a := copySeq (u.cal c).copyA
    let b := copySeq (u.cal c).copyB
    u.dev.power.brace = false → (u.cal c).waiting = some r → Completes (exec (.calRecordWritten t c) s) fun s' =>
      (s'.cal c).waiting = none ∧
      (a ≤ b → (s'.cal c).copyA = some { r with seq := wrap32 (b + 1) } ∧ (s'.cal c).copyB = (u.cal c).copyB) ∧
      (b < a → (s'.cal c).copyB = some { r with seq := wrap32 (a + 1) } ∧ (s'.cal c).copyA = (u.cal c).copyA) ∧
      (∀ x, x ≠ c.val → s'.cal x = u.cal x) ∧ s'.dev = { u.dev with cals := s'.dev.cals } ∧ s'.link = u.link) ∧
  (∀ (t : Nat) (r : Req) (v : Nat) (s : State), let u := advance t s
    NewRequest u r → MayWrite u r 0x5000 →
    (u.act 0x5000 1 = 1 → (∀ c, c < 64 → bit v c = true → passesStopped u c = false) →
      Completes (exec (.calReq t r v) s) fun s' =>
        Answers s' r 0 ∧ s'.dev = { u.dev with cals := s'.dev.cals } ∧ ∀ c, c < 64 →
          (bit v c = true → (u.cal c).dueAt = none → (u.cal c).pass = none → (s'.cal c).dueAt = some u.now) ∧
          (bit v c = false → s'.cal c = u.cal c)) ∧
    (∀ c, c < 64 → v = 2 ^ c → passesStopped u c = true → Completes (exec (.calReq t r v) s) fun s' =>
      Answers s' r (0x06800000 + c) ∧ s'.dev = u.dev))

/-- CHECKPOINT, CHECKPOINT_CONFIRMED, ENGINE_FAULT_DETECTED and TAKEOVER_RESUME. -/
def Obligations.TakeoverByStandbySlot : Prop :=
  (∀ (t : Nat) (s : State), let u := advance t s
    let kept := fun s' : State => (∀ e, s'.core e = u.core e) ∧ (∀ e, (s'.engine e).takeover = (u.engine e).takeover) ∧
      s'.dev = { u.dev with engines := s'.dev.engines } ∧ s'.link = u.link
    u.dev.power.phase = .ready →
    (u.now % 3200 = 0 → Completes (exec (.checkpoint t) s) fun s' =>
      kept s' ∧ (∀ e, e < 64 → (u.engine e).takeover = none → (u.core e).st ≠ .fault →
        (s'.engine e).checkpoints.length ≤ 3 ∧
        ({ edge := u.now, confirmed := false, core := u.core e } : Checkpoint) ∈ (s'.engine e).checkpoints) ∧
      (∀ e, (u.engine e).takeover ≠ none → s'.engine e = u.engine e)) ∧
    (Completes (exec (.checkpointConfirmed t) s) fun s' =>
      kept s' ∧ (∀ e, e < 64 → (u.engine e).takeover = none → (u.core e).st ≠ .fault → ∀ c ∈ (u.engine e).checkpoints,
        c.edge + 1600 = u.now → { c with confirmed := true } ∈ (s'.engine e).checkpoints))) ∧
  (∀ (t : Nat) (e : Fin 64) (check : Fin 3) (block k : Nat) (s : State), let u := advance t s
    u.dev.power.phase = .ready → (u.core e).st ≠ .fault → (u.engine e).takeover = none → servedAfter u e = [] → chooseSlot u e = some k →
    Completes (exec (.engineFaultDetected t e check block) s) fun s' =>
      ((k = if e.val < 32 then 64 else 65) ∨ slotFree u (if e.val < 32 then 64 else 65) = false) ∧
      (∃ x, (s'.engine e).takeover = some x ∧ x.f = u.now ∧ x.boundAt = u.now ∧ x.slot = k ∧ u.now + 12000 ≤ x.tr ∧
        x.tr < u.now + 12000 + u.gridE e ∧ x.tr % u.gridE e = 0 ∧
        ((u.core e).lastTick ≠ some u.now → x.held = (u.core e).play.code)) ∧
      s'.core e = u.core e ∧ lineAt s' (u.now + 1) (16 * e + 15) = true ∧
      (∀ l, l % 16 < 15 → l / 16 = e.val → ∀ n, u.now ≤ n → lineAt s' n l = false) ∧
      (∀ x, x ≠ e.val → s'.engine x = u.engine x) ∧ s'.dev.dict = u.dev.dict) ∧
  (∀ (t : Nat) (e : Fin 64) (check : Fin 3) (block : Nat) (s : State), let u := advance t s
    u.dev.power.phase = .ready → (u.core e).st ≠ .fault → (u.engine e).takeover = none → servedAfter u e = [] → chooseSlot u e = none →
    Completes (exec (.engineFaultDetected t e check block) s) fun s' =>
      (s'.core e).st = .fault ∧ (s'.engine e).takeover = none ∧ (s'.out e).lost = true ∧ (u.engine e).phys ∈ s'.dev.faults.retired ∧
      lineAt s' (u.now + 1) (16 * e + 15) = true ∧ (∀ x, x ≠ e.val → s'.engine x = u.engine x) ∧
      (∀ x, x ≠ e.val → s'.out x = u.out x) ∧ s'.dev.dict = u.dev.dict) ∧
  (∀ (t : Nat) (e : Fin 64) (check : Fin 3) (block x : Nat) (y : Takeover) (s : State), let u := advance t s
    u.dev.power.phase = .ready → (u.core e).st ≠ .fault → e.val < x → x < 32 → (u.engine x).takeover = some y → y.slot = 64 →
    y.boundAt = u.now → y.retire = [] → (∀ z, z ≠ x → (u.engine z).takeover = none) → u.dev.faults.pe64 = 0xFF → u.dev.faults.pe65 = 0xFF →
    Completes (exec (.engineFaultDetected t e check block) s) fun s' =>
      (∃ p, (s'.engine e).takeover = some p ∧ p.f = u.now ∧ p.slot = 64) ∧ (s'.engine x).takeover = some { y with slot := 65 } ∧
      (∀ z, z ≠ e.val → z ≠ x → s'.engine z = u.engine z) ∧ s'.dev.dict = u.dev.dict) ∧
  (∀ (t : Nat) (e : Fin 64) (x : Takeover) (s : State), let u := advance t s
    (u.engine e).takeover = some x →
    (x.tr = u.now → Completes (exec (.takeoverResume t e) s) fun s' =>
      (s'.engine e).takeover = none ∧ (s'.engine e).phys = x.slot ∧ (s'.engine e).takeovers = sat32 ((u.engine e).takeovers + 1) ∧
      s'.core e = u.core e ∧ (u.engine e).phys ∈ s'.dev.faults.retired ∧ lineAt s' (u.now + 1) 2022 = true ∧
      bit s'.dev.faults.reasons 0 = true ∧ (x.slot = 64 → s'.dev.faults.pe64 = e) ∧ (x.slot = 65 → s'.dev.faults.pe65 = e) ∧
      (∀ y, y ≠ e.val → s'.engine y = u.engine y) ∧ s'.dev.dict = u.dev.dict) ∧
    (x.tr ≠ u.now → exec (.takeoverResume t e) s = .next u))

/-- The fault commands. -/
def Obligations.FaultsAndReplacement : Prop :=
  (∀ (t : Nat) (s : State), let u := advance t s
    let fatal := fun s' : State => s'.dev.faults.faultnLow = true ∧ s'.dev.power.resetCause = 4 ∧ s'.link.sessions = [] ∧
      s'.dev.engines = []
    u.dev.power.phase = .ready →
    (u.dev.faults.recovering = none →
      exec (.mgmtMismatch t true) s = .next (modFaults (fun f => { f with recovering := some (u.now, 0) }) u)) ∧
    (∀ a, u.dev.faults.recovering = some (a, 0) →
      exec (.mgmtMismatch t true) s = .next (modFaults (fun f => { f with recovering := some (a, 1) }) u)) ∧
    (∀ a k, u.dev.faults.recovering = some (a, k + 1) → Completes (exec (.mgmtMismatch t true) s) fatal) ∧
    Completes (exec (.mgmtMismatch t false) s) fatal ∧
    (∀ a k, u.dev.faults.recovering = some (a, k) → Completes (exec (.mgmtRecovered t) s) fun s' =>
      s'.dev.faults.recovering = none ∧ s'.dev.faults.recoveries = sat32 (u.dev.faults.recoveries + 1) ∧ s'.dev.faults.held = [] ∧
      s'.dev.engines = u.dev.engines ∧ s'.dev.outs = u.dev.outs ∧ s'.dev.dict = u.dev.dict) ∧
    (∀ q : Fin 8, Completes (exec (.quayLinkWatchdog t q) s) fun s' =>
      (∀ k, k < 8 → (s'.out (8 * q + k)).lost = true ∧
        ((u.out (8 * q + k)).lost = false → (s'.out (8 * q + k)).parkSwitch = true ∧ (s'.out (8 * q + k)).amp = false)) ∧
      faultnLow s' = true ∧ (∀ c, c / 8 ≠ q.val → s'.out c = u.out c) ∧ s'.dev.engines = u.dev.engines ∧ s'.dev.dict = u.dev.dict) ∧
    (∀ (q : Fin 8) (m : Nat), Completes (exec (.quayDieFault t q m) s) fun s' =>
      (∀ k, k < 8 → bit m k = true → (s'.out (8 * q + k)).lost = true) ∧
      (∀ k, k < 8 → bit m k = false → s'.out (8 * q + k) = u.out (8 * q + k)) ∧
      (∀ c, c / 8 ≠ q.val → s'.out c = u.out c) ∧ s'.dev.engines = u.dev.engines ∧ s'.dev.dict = u.dev.dict)) ∧
  (∀ (t cause location : Nat) (s : State), let u := advance t s
    u.dev.power.phase ≠ .porLow → u.dev.power.phase ≠ .resetWait →
    Completes (exec (.fatal t cause location) s) fun s' =>
      s'.dev.faults.faultnLow = true ∧ faultnLow s' = true ∧ s'.dev.power.resetCause = 4 ∧ s'.link.sessions = [] ∧
      s'.dev.engines = [] ∧
      (u.dev.power.brace = false → u.dev.faults.queue = [] →
        ∃ x ∈ s'.dev.faults.log, x.cause = 0x0056 ∧ clearBit x.location 1 = clearBit location 1)) ∧
  (∀ (t : Nat) (s : State), let u := advance t s
    (u.dev.faults.reasons ≠ 0 → u.dev.faults.lastRequest + 240000000000 ≤ u.now →
      Completes (exec (.replacementRequestRepeat t) s) fun s' =>
        s'.dev.faults = { u.dev.faults with requests := sat32 (u.dev.faults.requests + 1), lastRequest := u.now } ∧
        s'.dev.engines = u.dev.engines ∧ s'.dev.dict = u.dev.dict) ∧
    (u.dev.faults.reasons = 0 ∨ u.now < u.dev.faults.lastRequest + 240000000000 →
      exec (.replacementRequestRepeat t) s = .next u)) ∧
  (∀ (t : Nat) (r : Req) (s : State), let u := advance t s
    NewRequest u r → MayWrite u r 0x5400 → Completes (exec (.faultLogClear t r 1) s) fun s' =>
      Answers s' r 0 ∧ s'.dev = { u.dev with faults := { u.dev.faults with log := [] } })

/-- The supply and temperature commands. -/
def Obligations.SuppliesAndTemperature : Prop :=
  (∀ (t : Nat) (k : Fin 11) (mv : Int) (s : State), let u := advance t s
    let p := u.dev.power
    let stays := fun s' : State => s'.dev.engines = u.dev.engines ∧ s'.dev.dict = u.dev.dict ∧ s'.dev.lines = u.dev.lines ∧
      s'.dev.outs = u.dev.outs ∧ s'.dev.cmps = u.dev.cmps ∧ s'.dev.cals = u.dev.cals ∧ s'.dev.dram = u.dev.dram
    (p.phase ≠ .porLow → Completes (exec (.railWarning t k mv) s) fun s' =>
      s'.dev.power.brace = true ∧ tget 0 k s'.dev.power.railMv = mv ∧ s'.dev.power.clearAt = none ∧ stays s' ∧
      (p.brace = false → s'.dev.power.braceAt = u.now ∧ s'.dev.power.braces = sat32 (p.braces + 1) ∧
        s'.dev.power.braceRails = 2 ^ k.val ∧ s'.dev.power.snapshot = some (u.now, u.time, 2 ^ k.val) ∧
        lineAt s' (u.now + 3) 2016 = true) ∧
      (p.brace = true → s'.dev.power.braceAt = p.braceAt ∧ bit s'.dev.power.braceRails k = true ∧
        bit s'.dev.power.below k = true)) ∧
    (Completes (exec (.railRecovery t k mv) s) fun s' =>
      tget 0 k s'.dev.power.railMv = mv ∧ s'.dev.power.brace = p.brace ∧ stays s' ∧
      (p.brace = true → p.below = 2 ^ k.val → s'.dev.power.clearAt = some (u.now + 40000)) ∧
      (p.brace = true → (∃ j, j ≠ k.val ∧ bit p.below j = true) → s'.dev.power.clearAt = p.clearAt) ∧
      (p.brace = false → s'.dev.power.clearAt = p.clearAt)) ∧
    (∀ n, p.clearAt = some n → n ≤ u.now → Completes (exec (.braceClear t) s) fun s' =>
      s'.dev.power.brace = false ∧ s'.dev.power.clearAt = none ∧ s'.dev.power.nvmWait = [] ∧ s'.dev.power.keyWait = [] ∧
      s'.dev.power.imageWait = [] ∧ s'.dev.faults.queue = [] ∧ lineAt s' (u.now + 1) 2017 = true ∧ stays s' ∧
      (p.analogWait = true → s'.dev.power.analogAt = some u.now)) ∧
    (∀ n, p.clearAt = some n → u.now < n → exec (.braceClear t) s = .next u)) ∧
  (∀ (t : Nat) (k : Fin 11) (mv : Int) (s : State), let u := advance t s
    u.dev.power.phase = .ready → 7 ≤ k.val → Completes (exec (.analogRailReset t k mv) s) fun s' =>
      (∀ c, c < 64 → (u.out c).lost = false → (u.out c).parkDue = none →
        s'.out c = { u.out c with parkDue := some (u.now + 1, 5, 0) } ∧
        ((u.out c).parkCause = 0 → s'.dev.clock.numbering = .plain →
          let v := (advance (u.now + 1) s').out c
          v.parkCause = 5 ∧ v.parkEdge = u.now + 1 ∧ v.parkSwitch = true ∧ v.amp = false ∧ v.enabled = false)) ∧
      (∀ p, p < 256 → s'.line p = { u.line p with railSafe := true }) ∧ s'.dev.power.analogWait = true ∧
      s'.dev.power.analogResets = sat32 (u.dev.power.analogResets + 1) ∧ s'.dev.engines = u.dev.engines ∧
      s'.dev.dict = u.dev.dict) ∧
  (∀ (t : Nat) (q : Fin 8) (a : Nat) (s : State), let u := advance t s
    u.dev.power.analogAt = some a → restartTick u q a = u.now → Completes (exec (.analogRailRestart t) s) fun s' =>
      (∀ k, k < 8 → (u.out (8 * q + k)).parkCause = 5 → (u.out (8 * q + k)).seq = none → (u.out (8 * q + k)).lost = false →
        u.act (chIdx (8 * q + k) 0) 1 = 1 →
        ∃ y, (s'.out (8 * q + k)).seq = some y ∧ y.kind = .enable ∧ y.start = u.now) ∧
      (∀ k, k < 32 → (s'.line (32 * q + k)).railSafe = false ∧ (s'.line (32 * q + k)).trip = (u.line (32 * q + k)).trip) ∧
      s'.dev.engines = u.dev.engines ∧ s'.dev.dict = u.dev.dict ∧ s'.link = u.link) ∧
  (∀ (t : Nat) (temps : List (Nat × Int)) (die : Nat) (v : Int) (s : State), let u := advance t s
    let w := 1024 * (u.rwv 0x2220 1 : Int)
    u.dev.power.phase = .ready → hottest temps = some (die, v) →
    (v ≤ 112640 → Completes (exec (.tempRead t temps) s) fun s' =>
      s'.dev.power.tempMax = v ∧ s'.dev.power.tempDie = die ∧ s'.dev.engines = u.dev.engines ∧ s'.dev.outs = u.dev.outs ∧
      s'.dev.dict = u.dev.dict ∧ (∀ x ∈ temps, x.2 ≤ v) ∧
      (w < v → s'.dev.power.tempWarned = true ∧ (u.dev.power.tempWarned = false → lineAt s' u.now 2018 = true)) ∧
      (v ≤ w - 5120 → s'.dev.power.tempWarned = false) ∧
      (u.dev.power.tempWarned = true → s'.dev.fabric = u.dev.fabric ∧ s'.link = u.link)) ∧
    (112640 < v → Completes (exec (.tempRead t temps) s) fun s' =>
      s'.dev.faults.faultnLow = true ∧ s'.dev.power.resetCause = 4 ∧ s'.link.sessions = []))

/-- The commands of resets and starts. Where SYNC is absent the epoch edge of a start, and at a later start the state and the channel of an engine
that no slot serves, are the model's reading (log entries 34, 55, 60). -/
def Obligations.ResetsAndStarts : Prop :=
  (∀ (t : Nat) (s : State), let u := advance t s
    let p := u.dev.power
    let cleared := fun s' : State => s'.link.sessions = [] ∧ (∀ e, s'.core e = EngCore.reset) ∧ (∀ c, s'.out c = Out.reset) ∧
      (∀ l, s'.line l = Line.reset) ∧ s'.dev.dict.active = [] ∧ s'.dev.store = Store.reset ∧ s'.now = u.now ∧
      (p.keyWait = [] → s'.link.keys = u.link.keys)
    (∀ ns, 1000 ≤ ns → Completes (exec (.pornAssert t ns) s) fun s' => s'.dev.power.phase = .porLow ∧ cleared s') ∧
    (∀ ns, ns < 1000 → exec (.pornAssert t ns) s = .next u) ∧
    (∀ k : Fin 11, k.val < 7 → p.phase ≠ .porLow → Completes (exec (.supplyReset t k) s) fun s' =>
      s'.dev.power.phase = .resetWait ∧ s'.dev.power.pendingCause = 3 ∧ cleared s') ∧
    (∀ (dp : Fin 8) (drop : Bool), p.phase = .porLow →
      let tries := if drop then p.bootNvm else p.bootAlways
      let fine := fun s' : State => s'.dev.ring.devpos = dp ∧ s'.dev.power.resetCause = (if drop then 1 else 2) ∧
        s'.dev.faults.faultnLow = false ∧ s'.dev.power.starts = wrap32 (p.starts + 1) ∧ s'.dev.power.bootUsed = tries
      (tries < 3 → imageOk u (u.rwv 0x5100 3) = true → Completes (exec (.pornRelease t dp false true drop) s) fun s' =>
        fine s' ∧ s'.dev.power.phase = .starting 4 ∧ s'.dev.power.running = u.rwv 0x5100 3 ∧ s'.dev.power.bootAlways = tries + 1) ∧
      (tries < 3 → imageOk u (u.rwv 0x5100 3) = false → imageOk u (1 - u.rwv 0x5100 3) = true →
        Completes (exec (.pornRelease t dp false true drop) s) fun s' =>
          fine s' ∧ s'.dev.power.phase = .starting 4 ∧ s'.dev.power.running = 1 - u.rwv 0x5100 3 ∧
          bit s'.dev.faults.reasons 10 = true) ∧
      (tries < 3 → imageOk u (u.rwv 0x5100 3) = false → imageOk u (1 - u.rwv 0x5100 3) = false →
        Completes (exec (.pornRelease t dp false true drop) s) fun s' =>
          fine s' ∧ s'.dev.power.phase = .mooring ∧ s'.dev.power.mooringReason = 2) ∧
      (tries < 3 → Completes (exec (.pornRelease t dp true true drop) s) fun s' =>
        fine s' ∧ s'.dev.power.phase = .mooring ∧ s'.dev.power.mooringReason = 3) ∧
      (3 ≤ tries → ∀ sel ok, Completes (exec (.pornRelease t dp sel ok drop) s) fun s' =>
        fine s' ∧ s'.dev.power.phase = .mooring ∧ s'.dev.power.mooringReason = 1) ∧
      (∀ sel, tries < 3 → Completes (exec (.pornRelease t dp sel false drop) s) fun s' =>
        s'.dev.power.phase = .mooring ∧ s'.dev.power.mooringReason = 1 ∧ s'.dev.power.startFail = 1)) ∧
    (∀ us, p.phase = .starting 7 → u.dev.clock.epochSet = true → Completes (exec (.dictionaryReady t us) s) fun s' =>
      s'.dev.power.phase = .ready ∧ s'.dev.power.bootAlways = 0 ∧ s'.dev.power.bootNvm = 0 ∧ s'.dev.faults.faultnLow = false ∧
      s'.dev.power.duration = us % 2 ^ 32 ∧ s'.now = u.now ∧ s'.dev.clock.numbering = .plain ∧
      (∀ e, e < 64 → e ∉ u.dev.faults.retired → s'.engine e = u.engine e) ∧
      (∀ e, e < 64 → e ∈ u.dev.faults.retired →
        (u.dev.faults.pe64 = e → (s'.engine e).phys = 64 ∧ s'.core e = u.core e) ∧
        (u.dev.faults.pe64 ≠ e → u.dev.faults.pe65 = e → (s'.engine e).phys = 65 ∧ s'.core e = u.core e) ∧
        (u.dev.faults.pe64 ≠ e → u.dev.faults.pe65 ≠ e → (s'.core e).st = .fault ∧ (s'.out e).lost = true))) ∧
    (∀ us, p.phase = .starting 7 → u.dev.clock.epochSet = false → exec (.dictionaryReady t us) s = .next u) ∧
    (p.phase = .starting 4 → Completes (exec (.refclkWaitTimeout t) s) fun s' =>
      s'.dev.power.resetCause = 5 ∧ s'.dev.power.startFail = 4 ∧ s'.dev.power.starts = wrap32 (p.starts + 1)) ∧
    (∀ into n, p.restart = some (n, into) →
      (u.now < n → exec (.softwareReset t) s = .next u) ∧
      (n ≤ u.now → Completes (exec (.softwareReset t) s) fun s' =>
        s'.dev.power.resetCause = 6 ∧ s'.link.sessions = [] ∧ s'.dev.power.restart = none ∧
        (into = true → s'.dev.power.phase = .mooring ∧ s'.dev.power.mooringReason = 4))) ∧
    (∀ drop, p.phase = .resetWait → p.pendingCause = 3 → Completes (exec (.supplyResetRestart t drop true) s) fun s' =>
      s'.dev.power.resetCause = 3 ∧ s'.dev.power.starts = wrap32 (p.starts + 1))) ∧
  (∀ (t : Nat) (dramClk : Bool) (s : State),
    s.dev.power.phase = .starting 4 → s.dev.scratch.repairs = [] → (∀ b, (s.bank b).retired = false) →
    (∀ m, (s.chan m).st ≠ 5) →
    Completes (exec (.eclkLock t dramClk [] []) s) fun s' =>
      s'.now = t ∧ s'.dev.power.phase = .starting 7 ∧ s'.dev.clock.locked = true ∧ s'.dev.clock.dramClkLocked = dramClk ∧
      s'.dev.clock.numbering = .watch t [] (some (t + 2000001)) ∧ s'.dev.clock.timeAcc = 0 ∧ s'.dev.engines = s.dev.engines ∧ s'.dev.dict = s.dev.dict ∧ s'.link = s.link) ∧
  (∀ (t : Nat) (r : Req) (s : State), let u := advance t s
    NewRequest u r → MayWrite u r 0x2210 →
    (Completes (exec (.restartNormal t r) s) fun s' =>
      Answers s' r 0 ∧ s'.dev = { u.dev with
        power := { u.dev.power with restart := some (u.now + 4000000, false), bootAlways := 0, bootNvm := 0 } }) ∧
    (Completes (exec (.restartMooring t r) s) fun s' =>
      Answers s' r 0 ∧ s'.dev = { u.dev with power := { u.dev.power with restart := some (u.now + 4000000, true) } }))
end

