-- ==== Sys2Proof/Laws/State.lean ====
section
/-! SUPPORT. One lemma for each update of a part of the state: what the part holds after it, and that it leaves every other field. -/

namespace Sys2Proof.Machine

variable (s : State)

/-! ### Updates of a whole part -/

@[simp] theorem modClock_frame (f : Clock → Clock) :
    (modClock f s).dev.dict = s.dev.dict ∧ (modClock f s).dev.engines = s.dev.engines ∧ (modClock f s).dev.lines = s.dev.lines ∧
    (modClock f s).dev.outs = s.dev.outs ∧ (modClock f s).dev.cmps = s.dev.cmps ∧ (modClock f s).dev.senses = s.dev.senses ∧
    (modClock f s).dev.fabric = s.dev.fabric ∧ (modClock f s).dev.ring = s.dev.ring ∧ (modClock f s).dev.store = s.dev.store ∧
    (modClock f s).dev.scratch = s.dev.scratch ∧ (modClock f s).dev.dram = s.dev.dram ∧ (modClock f s).dev.cals = s.dev.cals ∧
    (modClock f s).dev.calSwaps = s.dev.calSwaps ∧ (modClock f s).dev.calLast = s.dev.calLast ∧
    (modClock f s).dev.lostCopies = s.dev.lostCopies ∧ (modClock f s).dev.faults = s.dev.faults ∧ (modClock f s).dev.power = s.dev.power ∧
    (modClock f s).link = s.link ∧ (modClock f s).undefined = s.undefined ∧ (modClock f s).pending = s.pending ∧ (modClock f s).ticked = s.ticked :=
  ⟨rfl, rfl, rfl, rfl, rfl, rfl, rfl, rfl, rfl, rfl, rfl, rfl, rfl, rfl, rfl, rfl, rfl, rfl, rfl, rfl, rfl⟩

@[simp] theorem modClock_clock (f : Clock → Clock) : (modClock f s).dev.clock = f s.dev.clock := rfl

@[simp] theorem modDict_frame (f : Dict → Dict) :
    (modDict f s).dev.clock = s.dev.clock ∧ (modDict f s).dev.engines = s.dev.engines ∧ (modDict f s).dev.lines = s.dev.lines ∧
    (modDict f s).dev.outs = s.dev.outs ∧ (modDict f s).dev.cmps = s.dev.cmps ∧ (modDict f s).dev.senses = s.dev.senses ∧
    (modDict f s).dev.fabric = s.dev.fabric ∧ (modDict f s).dev.ring = s.dev.ring ∧ (modDict f s).dev.store = s.dev.store ∧
    (modDict f s).dev.scratch = s.dev.scratch ∧ (modDict f s).dev.dram = s.dev.dram ∧ (modDict f s).dev.cals = s.dev.cals ∧
    (modDict f s).dev.calSwaps = s.dev.calSwaps ∧ (modDict f s).dev.calLast = s.dev.calLast ∧
    (modDict f s).dev.lostCopies = s.dev.lostCopies ∧ (modDict f s).dev.faults = s.dev.faults ∧ (modDict f s).dev.power = s.dev.power ∧
    (modDict f s).link = s.link ∧ (modDict f s).undefined = s.undefined ∧ (modDict f s).pending = s.pending ∧ (modDict f s).ticked = s.ticked :=
  ⟨rfl, rfl, rfl, rfl, rfl, rfl, rfl, rfl, rfl, rfl, rfl, rfl, rfl, rfl, rfl, rfl, rfl, rfl, rfl, rfl, rfl⟩

@[simp] theorem modDict_dict (f : Dict → Dict) : (modDict f s).dev.dict = f s.dev.dict := rfl

@[simp] theorem modFabric_frame (f : Fabric → Fabric) :
    (modFabric f s).dev.clock = s.dev.clock ∧ (modFabric f s).dev.dict = s.dev.dict ∧ (modFabric f s).dev.engines = s.dev.engines ∧
    (modFabric f s).dev.lines = s.dev.lines ∧ (modFabric f s).dev.outs = s.dev.outs ∧ (modFabric f s).dev.cmps = s.dev.cmps ∧
    (modFabric f s).dev.senses = s.dev.senses ∧ (modFabric f s).dev.ring = s.dev.ring ∧ (modFabric f s).dev.store = s.dev.store ∧
    (modFabric f s).dev.scratch = s.dev.scratch ∧ (modFabric f s).dev.dram = s.dev.dram ∧ (modFabric f s).dev.cals = s.dev.cals ∧
    (modFabric f s).dev.calSwaps = s.dev.calSwaps ∧ (modFabric f s).dev.calLast = s.dev.calLast ∧
    (modFabric f s).dev.lostCopies = s.dev.lostCopies ∧ (modFabric f s).dev.faults = s.dev.faults ∧
    (modFabric f s).dev.power = s.dev.power ∧ (modFabric f s).link = s.link ∧ (modFabric f s).undefined = s.undefined ∧
    (modFabric f s).pending = s.pending ∧ (modFabric f s).ticked = s.ticked :=
  ⟨rfl, rfl, rfl, rfl, rfl, rfl, rfl, rfl, rfl, rfl, rfl, rfl, rfl, rfl, rfl, rfl, rfl, rfl, rfl, rfl, rfl⟩

@[simp] theorem modFabric_fabric (f : Fabric → Fabric) : (modFabric f s).dev.fabric = f s.dev.fabric := rfl

@[simp] theorem modRing_frame (f : Ring → Ring) :
    (modRing f s).dev.clock = s.dev.clock ∧ (modRing f s).dev.dict = s.dev.dict ∧ (modRing f s).dev.engines = s.dev.engines ∧
    (modRing f s).dev.lines = s.dev.lines ∧ (modRing f s).dev.outs = s.dev.outs ∧ (modRing f s).dev.cmps = s.dev.cmps ∧
    (modRing f s).dev.senses = s.dev.senses ∧ (modRing f s).dev.fabric = s.dev.fabric ∧ (modRing f s).dev.store = s.dev.store ∧
    (modRing f s).dev.scratch = s.dev.scratch ∧ (modRing f s).dev.dram = s.dev.dram ∧ (modRing f s).dev.cals = s.dev.cals ∧
    (modRing f s).dev.calSwaps = s.dev.calSwaps ∧ (modRing f s).dev.calLast = s.dev.calLast ∧
    (modRing f s).dev.lostCopies = s.dev.lostCopies ∧ (modRing f s).dev.faults = s.dev.faults ∧ (modRing f s).dev.power = s.dev.power ∧
    (modRing f s).link = s.link ∧ (modRing f s).undefined = s.undefined ∧ (modRing f s).pending = s.pending ∧ (modRing f s).ticked = s.ticked :=
  ⟨rfl, rfl, rfl, rfl, rfl, rfl, rfl, rfl, rfl, rfl, rfl, rfl, rfl, rfl, rfl, rfl, rfl, rfl, rfl, rfl, rfl⟩

@[simp] theorem modRing_ring (f : Ring → Ring) : (modRing f s).dev.ring = f s.dev.ring := rfl

@[simp] theorem modStore_frame (f : Store → Store) :
    (modStore f s).dev.clock = s.dev.clock ∧ (modStore f s).dev.dict = s.dev.dict ∧ (modStore f s).dev.engines = s.dev.engines ∧
    (modStore f s).dev.lines = s.dev.lines ∧ (modStore f s).dev.outs = s.dev.outs ∧ (modStore f s).dev.cmps = s.dev.cmps ∧
    (modStore f s).dev.senses = s.dev.senses ∧ (modStore f s).dev.fabric = s.dev.fabric ∧ (modStore f s).dev.ring = s.dev.ring ∧
    (modStore f s).dev.scratch = s.dev.scratch ∧ (modStore f s).dev.dram = s.dev.dram ∧ (modStore f s).dev.cals = s.dev.cals ∧
    (modStore f s).dev.calSwaps = s.dev.calSwaps ∧ (modStore f s).dev.calLast = s.dev.calLast ∧
    (modStore f s).dev.lostCopies = s.dev.lostCopies ∧ (modStore f s).dev.faults = s.dev.faults ∧ (modStore f s).dev.power = s.dev.power ∧
    (modStore f s).link = s.link ∧ (modStore f s).undefined = s.undefined ∧ (modStore f s).pending = s.pending ∧ (modStore f s).ticked = s.ticked :=
  ⟨rfl, rfl, rfl, rfl, rfl, rfl, rfl, rfl, rfl, rfl, rfl, rfl, rfl, rfl, rfl, rfl, rfl, rfl, rfl, rfl, rfl⟩

@[simp] theorem modStore_store (f : Store → Store) : (modStore f s).dev.store = f s.dev.store := rfl

@[simp] theorem modScratch_frame (f : Scratch → Scratch) :
    (modScratch f s).dev.clock = s.dev.clock ∧ (modScratch f s).dev.dict = s.dev.dict ∧ (modScratch f s).dev.engines = s.dev.engines ∧
    (modScratch f s).dev.lines = s.dev.lines ∧ (modScratch f s).dev.outs = s.dev.outs ∧ (modScratch f s).dev.cmps = s.dev.cmps ∧
    (modScratch f s).dev.senses = s.dev.senses ∧ (modScratch f s).dev.fabric = s.dev.fabric ∧ (modScratch f s).dev.ring = s.dev.ring ∧
    (modScratch f s).dev.store = s.dev.store ∧ (modScratch f s).dev.dram = s.dev.dram ∧ (modScratch f s).dev.cals = s.dev.cals ∧
    (modScratch f s).dev.calSwaps = s.dev.calSwaps ∧ (modScratch f s).dev.calLast = s.dev.calLast ∧
    (modScratch f s).dev.lostCopies = s.dev.lostCopies ∧ (modScratch f s).dev.faults = s.dev.faults ∧
    (modScratch f s).dev.power = s.dev.power ∧ (modScratch f s).link = s.link ∧ (modScratch f s).undefined = s.undefined ∧
    (modScratch f s).pending = s.pending ∧ (modScratch f s).ticked = s.ticked :=
  ⟨rfl, rfl, rfl, rfl, rfl, rfl, rfl, rfl, rfl, rfl, rfl, rfl, rfl, rfl, rfl, rfl, rfl, rfl, rfl, rfl, rfl⟩

@[simp] theorem modScratch_scratch (f : Scratch → Scratch) : (modScratch f s).dev.scratch = f s.dev.scratch := rfl

@[simp] theorem modDram_frame (f : DramStore → DramStore) :
    (modDram f s).dev.clock = s.dev.clock ∧ (modDram f s).dev.dict = s.dev.dict ∧ (modDram f s).dev.engines = s.dev.engines ∧
    (modDram f s).dev.lines = s.dev.lines ∧ (modDram f s).dev.outs = s.dev.outs ∧ (modDram f s).dev.cmps = s.dev.cmps ∧
    (modDram f s).dev.senses = s.dev.senses ∧ (modDram f s).dev.fabric = s.dev.fabric ∧ (modDram f s).dev.ring = s.dev.ring ∧
    (modDram f s).dev.store = s.dev.store ∧ (modDram f s).dev.scratch = s.dev.scratch ∧ (modDram f s).dev.cals = s.dev.cals ∧
    (modDram f s).dev.calSwaps = s.dev.calSwaps ∧ (modDram f s).dev.calLast = s.dev.calLast ∧
    (modDram f s).dev.lostCopies = s.dev.lostCopies ∧ (modDram f s).dev.faults = s.dev.faults ∧ (modDram f s).dev.power = s.dev.power ∧
    (modDram f s).link = s.link ∧ (modDram f s).undefined = s.undefined ∧ (modDram f s).pending = s.pending ∧ (modDram f s).ticked = s.ticked :=
  ⟨rfl, rfl, rfl, rfl, rfl, rfl, rfl, rfl, rfl, rfl, rfl, rfl, rfl, rfl, rfl, rfl, rfl, rfl, rfl, rfl, rfl⟩

@[simp] theorem modDram_dram (f : DramStore → DramStore) : (modDram f s).dev.dram = f s.dev.dram := rfl

@[simp] theorem modFaults_frame (f : Faults → Faults) :
    (modFaults f s).dev.clock = s.dev.clock ∧ (modFaults f s).dev.dict = s.dev.dict ∧ (modFaults f s).dev.engines = s.dev.engines ∧
    (modFaults f s).dev.lines = s.dev.lines ∧ (modFaults f s).dev.outs = s.dev.outs ∧ (modFaults f s).dev.cmps = s.dev.cmps ∧
    (modFaults f s).dev.senses = s.dev.senses ∧ (modFaults f s).dev.fabric = s.dev.fabric ∧ (modFaults f s).dev.ring = s.dev.ring ∧
    (modFaults f s).dev.store = s.dev.store ∧ (modFaults f s).dev.scratch = s.dev.scratch ∧ (modFaults f s).dev.dram = s.dev.dram ∧
    (modFaults f s).dev.cals = s.dev.cals ∧ (modFaults f s).dev.calSwaps = s.dev.calSwaps ∧ (modFaults f s).dev.calLast = s.dev.calLast ∧
    (modFaults f s).dev.lostCopies = s.dev.lostCopies ∧ (modFaults f s).dev.power = s.dev.power ∧ (modFaults f s).link = s.link ∧
    (modFaults f s).undefined = s.undefined ∧ (modFaults f s).pending = s.pending ∧ (modFaults f s).ticked = s.ticked :=
  ⟨rfl, rfl, rfl, rfl, rfl, rfl, rfl, rfl, rfl, rfl, rfl, rfl, rfl, rfl, rfl, rfl, rfl, rfl, rfl, rfl, rfl⟩

@[simp] theorem modFaults_faults (f : Faults → Faults) : (modFaults f s).dev.faults = f s.dev.faults := rfl

@[simp] theorem modPower_frame (f : Power → Power) :
    (modPower f s).dev.clock = s.dev.clock ∧ (modPower f s).dev.dict = s.dev.dict ∧ (modPower f s).dev.engines = s.dev.engines ∧
    (modPower f s).dev.lines = s.dev.lines ∧ (modPower f s).dev.outs = s.dev.outs ∧ (modPower f s).dev.cmps = s.dev.cmps ∧
    (modPower f s).dev.senses = s.dev.senses ∧ (modPower f s).dev.fabric = s.dev.fabric ∧ (modPower f s).dev.ring = s.dev.ring ∧
    (modPower f s).dev.store = s.dev.store ∧ (modPower f s).dev.scratch = s.dev.scratch ∧ (modPower f s).dev.dram = s.dev.dram ∧
    (modPower f s).dev.cals = s.dev.cals ∧ (modPower f s).dev.calSwaps = s.dev.calSwaps ∧ (modPower f s).dev.calLast = s.dev.calLast ∧
    (modPower f s).dev.lostCopies = s.dev.lostCopies ∧ (modPower f s).dev.faults = s.dev.faults ∧ (modPower f s).link = s.link ∧
    (modPower f s).undefined = s.undefined ∧ (modPower f s).pending = s.pending ∧ (modPower f s).ticked = s.ticked :=
  ⟨rfl, rfl, rfl, rfl, rfl, rfl, rfl, rfl, rfl, rfl, rfl, rfl, rfl, rfl, rfl, rfl, rfl, rfl, rfl, rfl, rfl⟩

@[simp] theorem modPower_power (f : Power → Power) : (modPower f s).dev.power = f s.dev.power := rfl

@[simp] theorem modEngine_frame (e : Nat) (f : Engine → Engine) :
    (modEngine e f s).dev.clock = s.dev.clock ∧ (modEngine e f s).dev.dict = s.dev.dict ∧ (modEngine e f s).dev.lines = s.dev.lines ∧
    (modEngine e f s).dev.outs = s.dev.outs ∧ (modEngine e f s).dev.cmps = s.dev.cmps ∧ (modEngine e f s).dev.senses = s.dev.senses ∧
    (modEngine e f s).dev.fabric = s.dev.fabric ∧ (modEngine e f s).dev.ring = s.dev.ring ∧ (modEngine e f s).dev.store = s.dev.store ∧
    (modEngine e f s).dev.scratch = s.dev.scratch ∧ (modEngine e f s).dev.dram = s.dev.dram ∧ (modEngine e f s).dev.cals = s.dev.cals ∧
    (modEngine e f s).dev.calSwaps = s.dev.calSwaps ∧ (modEngine e f s).dev.calLast = s.dev.calLast ∧
    (modEngine e f s).dev.lostCopies = s.dev.lostCopies ∧ (modEngine e f s).dev.faults = s.dev.faults ∧
    (modEngine e f s).dev.power = s.dev.power ∧ (modEngine e f s).link = s.link ∧ (modEngine e f s).undefined = s.undefined ∧
    (modEngine e f s).pending = s.pending ∧ (modEngine e f s).ticked = s.ticked :=
  ⟨rfl, rfl, rfl, rfl, rfl, rfl, rfl, rfl, rfl, rfl, rfl, rfl, rfl, rfl, rfl, rfl, rfl, rfl, rfl, rfl, rfl⟩

@[simp] theorem modEngine_engines (e : Nat) (f : Engine → Engine) : (modEngine e f s).dev.engines = tset e (f (s.engine e)) s.dev.engines := rfl

@[simp] theorem modLine_frame (p : Nat) (f : Line → Line) :
    (modLine p f s).dev.clock = s.dev.clock ∧ (modLine p f s).dev.dict = s.dev.dict ∧ (modLine p f s).dev.engines = s.dev.engines ∧
    (modLine p f s).dev.outs = s.dev.outs ∧ (modLine p f s).dev.cmps = s.dev.cmps ∧ (modLine p f s).dev.senses = s.dev.senses ∧
    (modLine p f s).dev.fabric = s.dev.fabric ∧ (modLine p f s).dev.ring = s.dev.ring ∧ (modLine p f s).dev.store = s.dev.store ∧
    (modLine p f s).dev.scratch = s.dev.scratch ∧ (modLine p f s).dev.dram = s.dev.dram ∧ (modLine p f s).dev.cals = s.dev.cals ∧
    (modLine p f s).dev.calSwaps = s.dev.calSwaps ∧ (modLine p f s).dev.calLast = s.dev.calLast ∧
    (modLine p f s).dev.lostCopies = s.dev.lostCopies ∧ (modLine p f s).dev.faults = s.dev.faults ∧
    (modLine p f s).dev.power = s.dev.power ∧ (modLine p f s).link = s.link ∧ (modLine p f s).undefined = s.undefined ∧
    (modLine p f s).pending = s.pending ∧ (modLine p f s).ticked = s.ticked :=
  ⟨rfl, rfl, rfl, rfl, rfl, rfl, rfl, rfl, rfl, rfl, rfl, rfl, rfl, rfl, rfl, rfl, rfl, rfl, rfl, rfl, rfl⟩

@[simp] theorem modLine_lines (p : Nat) (f : Line → Line) : (modLine p f s).dev.lines = tset p (f (s.line p)) s.dev.lines := rfl

@[simp] theorem modOut_frame (c : Nat) (f : Out → Out) :
    (modOut c f s).dev.clock = s.dev.clock ∧ (modOut c f s).dev.dict = s.dev.dict ∧ (modOut c f s).dev.engines = s.dev.engines ∧
    (modOut c f s).dev.lines = s.dev.lines ∧ (modOut c f s).dev.cmps = s.dev.cmps ∧ (modOut c f s).dev.senses = s.dev.senses ∧
    (modOut c f s).dev.fabric = s.dev.fabric ∧ (modOut c f s).dev.ring = s.dev.ring ∧ (modOut c f s).dev.store = s.dev.store ∧
    (modOut c f s).dev.scratch = s.dev.scratch ∧ (modOut c f s).dev.dram = s.dev.dram ∧ (modOut c f s).dev.cals = s.dev.cals ∧
    (modOut c f s).dev.calSwaps = s.dev.calSwaps ∧ (modOut c f s).dev.calLast = s.dev.calLast ∧
    (modOut c f s).dev.lostCopies = s.dev.lostCopies ∧ (modOut c f s).dev.faults = s.dev.faults ∧ (modOut c f s).dev.power = s.dev.power ∧
    (modOut c f s).link = s.link ∧ (modOut c f s).undefined = s.undefined ∧ (modOut c f s).pending = s.pending ∧ (modOut c f s).ticked = s.ticked :=
  ⟨rfl, rfl, rfl, rfl, rfl, rfl, rfl, rfl, rfl, rfl, rfl, rfl, rfl, rfl, rfl, rfl, rfl, rfl, rfl, rfl, rfl⟩

@[simp] theorem modOut_outs (c : Nat) (f : Out → Out) : (modOut c f s).dev.outs = tset c (f (s.out c)) s.dev.outs := rfl

@[simp] theorem modCmp_frame (j : Nat) (f : Cmp → Cmp) :
    (modCmp j f s).dev.clock = s.dev.clock ∧ (modCmp j f s).dev.dict = s.dev.dict ∧ (modCmp j f s).dev.engines = s.dev.engines ∧
    (modCmp j f s).dev.lines = s.dev.lines ∧ (modCmp j f s).dev.outs = s.dev.outs ∧ (modCmp j f s).dev.senses = s.dev.senses ∧
    (modCmp j f s).dev.fabric = s.dev.fabric ∧ (modCmp j f s).dev.ring = s.dev.ring ∧ (modCmp j f s).dev.store = s.dev.store ∧
    (modCmp j f s).dev.scratch = s.dev.scratch ∧ (modCmp j f s).dev.dram = s.dev.dram ∧ (modCmp j f s).dev.cals = s.dev.cals ∧
    (modCmp j f s).dev.calSwaps = s.dev.calSwaps ∧ (modCmp j f s).dev.calLast = s.dev.calLast ∧
    (modCmp j f s).dev.lostCopies = s.dev.lostCopies ∧ (modCmp j f s).dev.faults = s.dev.faults ∧ (modCmp j f s).dev.power = s.dev.power ∧
    (modCmp j f s).link = s.link ∧ (modCmp j f s).undefined = s.undefined ∧ (modCmp j f s).pending = s.pending ∧ (modCmp j f s).ticked = s.ticked :=
  ⟨rfl, rfl, rfl, rfl, rfl, rfl, rfl, rfl, rfl, rfl, rfl, rfl, rfl, rfl, rfl, rfl, rfl, rfl, rfl, rfl, rfl⟩

@[simp] theorem modCmp_cmps (j : Nat) (f : Cmp → Cmp) : (modCmp j f s).dev.cmps = tset j (f (s.cmp j)) s.dev.cmps := rfl

@[simp] theorem modSense_frame (c : Nat) (f : Sense → Sense) :
    (modSense c f s).dev.clock = s.dev.clock ∧ (modSense c f s).dev.dict = s.dev.dict ∧ (modSense c f s).dev.engines = s.dev.engines ∧
    (modSense c f s).dev.lines = s.dev.lines ∧ (modSense c f s).dev.outs = s.dev.outs ∧ (modSense c f s).dev.cmps = s.dev.cmps ∧
    (modSense c f s).dev.fabric = s.dev.fabric ∧ (modSense c f s).dev.ring = s.dev.ring ∧ (modSense c f s).dev.store = s.dev.store ∧
    (modSense c f s).dev.scratch = s.dev.scratch ∧ (modSense c f s).dev.dram = s.dev.dram ∧ (modSense c f s).dev.cals = s.dev.cals ∧
    (modSense c f s).dev.calSwaps = s.dev.calSwaps ∧ (modSense c f s).dev.calLast = s.dev.calLast ∧
    (modSense c f s).dev.lostCopies = s.dev.lostCopies ∧ (modSense c f s).dev.faults = s.dev.faults ∧
    (modSense c f s).dev.power = s.dev.power ∧ (modSense c f s).link = s.link ∧ (modSense c f s).undefined = s.undefined ∧
    (modSense c f s).pending = s.pending ∧ (modSense c f s).ticked = s.ticked :=
  ⟨rfl, rfl, rfl, rfl, rfl, rfl, rfl, rfl, rfl, rfl, rfl, rfl, rfl, rfl, rfl, rfl, rfl, rfl, rfl, rfl, rfl⟩

@[simp] theorem modSense_senses (c : Nat) (f : Sense → Sense) : (modSense c f s).dev.senses = tset c (f (s.sense c)) s.dev.senses := rfl

@[simp] theorem modCal_frame (c : Nat) (f : Cal → Cal) :
    (modCal c f s).dev.clock = s.dev.clock ∧ (modCal c f s).dev.dict = s.dev.dict ∧ (modCal c f s).dev.engines = s.dev.engines ∧
    (modCal c f s).dev.lines = s.dev.lines ∧ (modCal c f s).dev.outs = s.dev.outs ∧ (modCal c f s).dev.cmps = s.dev.cmps ∧
    (modCal c f s).dev.senses = s.dev.senses ∧ (modCal c f s).dev.fabric = s.dev.fabric ∧ (modCal c f s).dev.ring = s.dev.ring ∧
    (modCal c f s).dev.store = s.dev.store ∧ (modCal c f s).dev.scratch = s.dev.scratch ∧ (modCal c f s).dev.dram = s.dev.dram ∧
    (modCal c f s).dev.calSwaps = s.dev.calSwaps ∧ (modCal c f s).dev.calLast = s.dev.calLast ∧
    (modCal c f s).dev.lostCopies = s.dev.lostCopies ∧ (modCal c f s).dev.faults = s.dev.faults ∧ (modCal c f s).dev.power = s.dev.power ∧
    (modCal c f s).link = s.link ∧ (modCal c f s).undefined = s.undefined ∧ (modCal c f s).pending = s.pending ∧ (modCal c f s).ticked = s.ticked :=
  ⟨rfl, rfl, rfl, rfl, rfl, rfl, rfl, rfl, rfl, rfl, rfl, rfl, rfl, rfl, rfl, rfl, rfl, rfl, rfl, rfl, rfl⟩

@[simp] theorem modCal_cals (c : Nat) (f : Cal → Cal) : (modCal c f s).dev.cals = tset c (f (s.cal c)) s.dev.cals := rfl

@[simp] theorem modInput_frame (i : Nat) (f : Input → Input) :
    (modInput i f s).dev.clock = s.dev.clock ∧ (modInput i f s).dev.dict = s.dev.dict ∧ (modInput i f s).dev.engines = s.dev.engines ∧
    (modInput i f s).dev.lines = s.dev.lines ∧ (modInput i f s).dev.outs = s.dev.outs ∧ (modInput i f s).dev.cmps = s.dev.cmps ∧
    (modInput i f s).dev.senses = s.dev.senses ∧ (modInput i f s).dev.ring = s.dev.ring ∧ (modInput i f s).dev.store = s.dev.store ∧
    (modInput i f s).dev.scratch = s.dev.scratch ∧ (modInput i f s).dev.dram = s.dev.dram ∧ (modInput i f s).dev.cals = s.dev.cals ∧
    (modInput i f s).dev.calSwaps = s.dev.calSwaps ∧ (modInput i f s).dev.calLast = s.dev.calLast ∧
    (modInput i f s).dev.lostCopies = s.dev.lostCopies ∧ (modInput i f s).dev.faults = s.dev.faults ∧
    (modInput i f s).dev.power = s.dev.power ∧ (modInput i f s).link = s.link ∧ (modInput i f s).undefined = s.undefined ∧
    (modInput i f s).pending = s.pending ∧ (modInput i f s).ticked = s.ticked ∧ (modInput i f s).dev.fabric.sched = s.dev.fabric.sched ∧
    (modInput i f s).dev.fabric.counts = s.dev.fabric.counts ∧ (modInput i f s).dev.fabric.trigs = s.dev.fabric.trigs ∧
    (modInput i f s).dev.fabric.timers = s.dev.fabric.timers ∧ (modInput i f s).dev.fabric.sw = s.dev.fabric.sw ∧
    (modInput i f s).dev.fabric.swWrites = s.dev.fabric.swWrites :=
  ⟨rfl, rfl, rfl, rfl, rfl, rfl, rfl, rfl, rfl, rfl, rfl, rfl, rfl, rfl, rfl, rfl, rfl, rfl, rfl, rfl, rfl, rfl, rfl, rfl, rfl, rfl, rfl⟩

@[simp] theorem modInput_inputs (i : Nat) (f : Input → Input) : (modInput i f s).dev.fabric.inputs = tset i (f (s.input i)) s.dev.fabric.inputs := rfl

@[simp] theorem modTrig_frame (k : Nat) (f : Trig → Trig) :
    (modTrig k f s).dev.clock = s.dev.clock ∧ (modTrig k f s).dev.dict = s.dev.dict ∧ (modTrig k f s).dev.engines = s.dev.engines ∧
    (modTrig k f s).dev.lines = s.dev.lines ∧ (modTrig k f s).dev.outs = s.dev.outs ∧ (modTrig k f s).dev.cmps = s.dev.cmps ∧
    (modTrig k f s).dev.senses = s.dev.senses ∧ (modTrig k f s).dev.ring = s.dev.ring ∧ (modTrig k f s).dev.store = s.dev.store ∧
    (modTrig k f s).dev.scratch = s.dev.scratch ∧ (modTrig k f s).dev.dram = s.dev.dram ∧ (modTrig k f s).dev.cals = s.dev.cals ∧
    (modTrig k f s).dev.calSwaps = s.dev.calSwaps ∧ (modTrig k f s).dev.calLast = s.dev.calLast ∧
    (modTrig k f s).dev.lostCopies = s.dev.lostCopies ∧ (modTrig k f s).dev.faults = s.dev.faults ∧
    (modTrig k f s).dev.power = s.dev.power ∧ (modTrig k f s).link = s.link ∧ (modTrig k f s).undefined = s.undefined ∧
    (modTrig k f s).pending = s.pending ∧ (modTrig k f s).ticked = s.ticked ∧ (modTrig k f s).dev.fabric.sched = s.dev.fabric.sched ∧
    (modTrig k f s).dev.fabric.counts = s.dev.fabric.counts ∧ (modTrig k f s).dev.fabric.inputs = s.dev.fabric.inputs ∧
    (modTrig k f s).dev.fabric.timers = s.dev.fabric.timers ∧ (modTrig k f s).dev.fabric.sw = s.dev.fabric.sw ∧
    (modTrig k f s).dev.fabric.swWrites = s.dev.fabric.swWrites :=
  ⟨rfl, rfl, rfl, rfl, rfl, rfl, rfl, rfl, rfl, rfl, rfl, rfl, rfl, rfl, rfl, rfl, rfl, rfl, rfl, rfl, rfl, rfl, rfl, rfl, rfl, rfl, rfl⟩

@[simp] theorem modTrig_trigs (k : Nat) (f : Trig → Trig) : (modTrig k f s).dev.fabric.trigs = tset k (f (s.trig k)) s.dev.fabric.trigs := rfl

@[simp] theorem modTimer_frame (k : Nat) (f : Timer → Timer) :
    (modTimer k f s).dev.clock = s.dev.clock ∧ (modTimer k f s).dev.dict = s.dev.dict ∧ (modTimer k f s).dev.engines = s.dev.engines ∧
    (modTimer k f s).dev.lines = s.dev.lines ∧ (modTimer k f s).dev.outs = s.dev.outs ∧ (modTimer k f s).dev.cmps = s.dev.cmps ∧
    (modTimer k f s).dev.senses = s.dev.senses ∧ (modTimer k f s).dev.ring = s.dev.ring ∧ (modTimer k f s).dev.store = s.dev.store ∧
    (modTimer k f s).dev.scratch = s.dev.scratch ∧ (modTimer k f s).dev.dram = s.dev.dram ∧ (modTimer k f s).dev.cals = s.dev.cals ∧
    (modTimer k f s).dev.calSwaps = s.dev.calSwaps ∧ (modTimer k f s).dev.calLast = s.dev.calLast ∧
    (modTimer k f s).dev.lostCopies = s.dev.lostCopies ∧ (modTimer k f s).dev.faults = s.dev.faults ∧
    (modTimer k f s).dev.power = s.dev.power ∧ (modTimer k f s).link = s.link ∧ (modTimer k f s).undefined = s.undefined ∧
    (modTimer k f s).pending = s.pending ∧ (modTimer k f s).ticked = s.ticked ∧ (modTimer k f s).dev.fabric.sched = s.dev.fabric.sched ∧
    (modTimer k f s).dev.fabric.counts = s.dev.fabric.counts ∧ (modTimer k f s).dev.fabric.inputs = s.dev.fabric.inputs ∧
    (modTimer k f s).dev.fabric.trigs = s.dev.fabric.trigs ∧ (modTimer k f s).dev.fabric.sw = s.dev.fabric.sw ∧
    (modTimer k f s).dev.fabric.swWrites = s.dev.fabric.swWrites :=
  ⟨rfl, rfl, rfl, rfl, rfl, rfl, rfl, rfl, rfl, rfl, rfl, rfl, rfl, rfl, rfl, rfl, rfl, rfl, rfl, rfl, rfl, rfl, rfl, rfl, rfl, rfl, rfl⟩

@[simp] theorem modTimer_timers (k : Nat) (f : Timer → Timer) : (modTimer k f s).dev.fabric.timers = tset k (f (s.timer k)) s.dev.fabric.timers := rfl

@[simp] theorem modSeg_frame (n : Nat) (f : Seg → Seg) :
    (modSeg n f s).dev.clock = s.dev.clock ∧ (modSeg n f s).dev.dict = s.dev.dict ∧ (modSeg n f s).dev.engines = s.dev.engines ∧
    (modSeg n f s).dev.lines = s.dev.lines ∧ (modSeg n f s).dev.outs = s.dev.outs ∧ (modSeg n f s).dev.cmps = s.dev.cmps ∧
    (modSeg n f s).dev.senses = s.dev.senses ∧ (modSeg n f s).dev.fabric = s.dev.fabric ∧ (modSeg n f s).dev.ring = s.dev.ring ∧
    (modSeg n f s).dev.scratch = s.dev.scratch ∧ (modSeg n f s).dev.dram = s.dev.dram ∧ (modSeg n f s).dev.cals = s.dev.cals ∧
    (modSeg n f s).dev.calSwaps = s.dev.calSwaps ∧ (modSeg n f s).dev.calLast = s.dev.calLast ∧
    (modSeg n f s).dev.lostCopies = s.dev.lostCopies ∧ (modSeg n f s).dev.faults = s.dev.faults ∧ (modSeg n f s).dev.power = s.dev.power ∧
    (modSeg n f s).link = s.link ∧ (modSeg n f s).undefined = s.undefined ∧ (modSeg n f s).pending = s.pending ∧ (modSeg n f s).ticked = s.ticked ∧
    (modSeg n f s).dev.store.content = s.dev.store.content ∧ (modSeg n f s).dev.store.streams = s.dev.store.streams ∧
    (modSeg n f s).dev.store.verify = s.dev.store.verify ∧ (modSeg n f s).dev.store.verifyLast = s.dev.store.verifyLast ∧
    (modSeg n f s).dev.store.mismatch = s.dev.store.mismatch ∧ (modSeg n f s).dev.store.errorOffset = s.dev.store.errorOffset :=
  ⟨rfl, rfl, rfl, rfl, rfl, rfl, rfl, rfl, rfl, rfl, rfl, rfl, rfl, rfl, rfl, rfl, rfl, rfl, rfl, rfl, rfl, rfl, rfl, rfl, rfl, rfl, rfl⟩

@[simp] theorem modSeg_segs (n : Nat) (f : Seg → Seg) : (modSeg n f s).dev.store.segs = tset n (f (s.seg n)) s.dev.store.segs := rfl

@[simp] theorem modStream_frame (n : Nat) (f : Stream → Stream) :
    (modStream n f s).dev.clock = s.dev.clock ∧ (modStream n f s).dev.dict = s.dev.dict ∧ (modStream n f s).dev.engines = s.dev.engines ∧
    (modStream n f s).dev.lines = s.dev.lines ∧ (modStream n f s).dev.outs = s.dev.outs ∧ (modStream n f s).dev.cmps = s.dev.cmps ∧
    (modStream n f s).dev.senses = s.dev.senses ∧ (modStream n f s).dev.fabric = s.dev.fabric ∧ (modStream n f s).dev.ring = s.dev.ring ∧
    (modStream n f s).dev.scratch = s.dev.scratch ∧ (modStream n f s).dev.dram = s.dev.dram ∧ (modStream n f s).dev.cals = s.dev.cals ∧
    (modStream n f s).dev.calSwaps = s.dev.calSwaps ∧ (modStream n f s).dev.calLast = s.dev.calLast ∧
    (modStream n f s).dev.lostCopies = s.dev.lostCopies ∧ (modStream n f s).dev.faults = s.dev.faults ∧
    (modStream n f s).dev.power = s.dev.power ∧ (modStream n f s).link = s.link ∧ (modStream n f s).undefined = s.undefined ∧
    (modStream n f s).pending = s.pending ∧ (modStream n f s).ticked = s.ticked ∧ (modStream n f s).dev.store.segs = s.dev.store.segs ∧
    (modStream n f s).dev.store.content = s.dev.store.content ∧ (modStream n f s).dev.store.verify = s.dev.store.verify ∧
    (modStream n f s).dev.store.verifyLast = s.dev.store.verifyLast ∧ (modStream n f s).dev.store.mismatch = s.dev.store.mismatch ∧
    (modStream n f s).dev.store.errorOffset = s.dev.store.errorOffset :=
  ⟨rfl, rfl, rfl, rfl, rfl, rfl, rfl, rfl, rfl, rfl, rfl, rfl, rfl, rfl, rfl, rfl, rfl, rfl, rfl, rfl, rfl, rfl, rfl, rfl, rfl, rfl, rfl⟩

@[simp] theorem modStream_streams (n : Nat) (f : Stream → Stream) : (modStream n f s).dev.store.streams = tset n (f (s.stream n)) s.dev.store.streams := rfl

@[simp] theorem modBank_frame (b : Nat) (f : Bank → Bank) :
    (modBank b f s).dev.clock = s.dev.clock ∧ (modBank b f s).dev.dict = s.dev.dict ∧ (modBank b f s).dev.engines = s.dev.engines ∧
    (modBank b f s).dev.lines = s.dev.lines ∧ (modBank b f s).dev.outs = s.dev.outs ∧ (modBank b f s).dev.cmps = s.dev.cmps ∧
    (modBank b f s).dev.senses = s.dev.senses ∧ (modBank b f s).dev.fabric = s.dev.fabric ∧ (modBank b f s).dev.ring = s.dev.ring ∧
    (modBank b f s).dev.store = s.dev.store ∧ (modBank b f s).dev.dram = s.dev.dram ∧ (modBank b f s).dev.cals = s.dev.cals ∧
    (modBank b f s).dev.calSwaps = s.dev.calSwaps ∧ (modBank b f s).dev.calLast = s.dev.calLast ∧
    (modBank b f s).dev.lostCopies = s.dev.lostCopies ∧ (modBank b f s).dev.faults = s.dev.faults ∧
    (modBank b f s).dev.power = s.dev.power ∧ (modBank b f s).link = s.link ∧ (modBank b f s).undefined = s.undefined ∧
    (modBank b f s).pending = s.pending ∧ (modBank b f s).ticked = s.ticked ∧ (modBank b f s).dev.scratch.content = s.dev.scratch.content ∧
    (modBank b f s).dev.scratch.conflicts = s.dev.scratch.conflicts ∧ (modBank b f s).dev.scratch.corrected = s.dev.scratch.corrected ∧
    (modBank b f s).dev.scratch.uncorrectable = s.dev.scratch.uncorrectable ∧ (modBank b f s).dev.scratch.repairs = s.dev.scratch.repairs ∧
    (modBank b f s).dev.scratch.march = s.dev.scratch.march ∧ (modBank b f s).dev.scratch.marchResult = s.dev.scratch.marchResult ∧
    (modBank b f s).dev.scratch.marchFailBit = s.dev.scratch.marchFailBit ∧
    (modBank b f s).dev.scratch.abandoned = s.dev.scratch.abandoned ∧ (modBank b f s).dev.scratch.runs = s.dev.scratch.runs ∧
    (modBank b f s).dev.scratch.berth = s.dev.scratch.berth ∧ (modBank b f s).dev.scratch.atomic = s.dev.scratch.atomic :=
  ⟨rfl, rfl, rfl, rfl, rfl, rfl, rfl, rfl, rfl, rfl, rfl, rfl, rfl, rfl, rfl, rfl, rfl, rfl, rfl, rfl, rfl, rfl, rfl, rfl, rfl, rfl, rfl, rfl, rfl, rfl, rfl, rfl, rfl⟩

@[simp] theorem modBank_banks (b : Nat) (f : Bank → Bank) : (modBank b f s).dev.scratch.banks = tset b (f (s.bank b)) s.dev.scratch.banks := rfl

@[simp] theorem modChan_frame (m : Nat) (f : Dram → Dram) :
    (modChan m f s).dev.clock = s.dev.clock ∧ (modChan m f s).dev.dict = s.dev.dict ∧ (modChan m f s).dev.engines = s.dev.engines ∧
    (modChan m f s).dev.lines = s.dev.lines ∧ (modChan m f s).dev.outs = s.dev.outs ∧ (modChan m f s).dev.cmps = s.dev.cmps ∧
    (modChan m f s).dev.senses = s.dev.senses ∧ (modChan m f s).dev.fabric = s.dev.fabric ∧ (modChan m f s).dev.ring = s.dev.ring ∧
    (modChan m f s).dev.store = s.dev.store ∧ (modChan m f s).dev.scratch = s.dev.scratch ∧ (modChan m f s).dev.cals = s.dev.cals ∧
    (modChan m f s).dev.calSwaps = s.dev.calSwaps ∧ (modChan m f s).dev.calLast = s.dev.calLast ∧
    (modChan m f s).dev.lostCopies = s.dev.lostCopies ∧ (modChan m f s).dev.faults = s.dev.faults ∧
    (modChan m f s).dev.power = s.dev.power ∧ (modChan m f s).link = s.link ∧ (modChan m f s).undefined = s.undefined ∧
    (modChan m f s).pending = s.pending ∧ (modChan m f s).ticked = s.ticked ∧ (modChan m f s).dev.dram.due = s.dev.dram.due ∧
    (modChan m f s).dev.dram.ratePending = s.dev.dram.ratePending ∧ (modChan m f s).dev.dram.change = s.dev.dram.change :=
  ⟨rfl, rfl, rfl, rfl, rfl, rfl, rfl, rfl, rfl, rfl, rfl, rfl, rfl, rfl, rfl, rfl, rfl, rfl, rfl, rfl, rfl, rfl, rfl, rfl⟩

@[simp] theorem modChan_chans (m : Nat) (f : Dram → Dram) : (modChan m f s).dev.dram.chans = tset m (f (s.chan m)) s.dev.dram.chans := rfl

@[simp] theorem modLink_frame (f : Link → Link) :
    (modLink f s).dev = s.dev ∧ (modLink f s).undefined = s.undefined ∧ (modLink f s).pending = s.pending ∧ (modLink f s).ticked = s.ticked :=
  ⟨rfl, rfl, rfl, rfl⟩

@[simp] theorem modLink_link (f : Link → Link) : (modLink f s).link = f s.link := rfl

@[simp] theorem modPort_frame (p : Nat) (f : Port → Port) :
    (modPort p f s).dev = s.dev ∧ (modPort p f s).undefined = s.undefined ∧ (modPort p f s).pending = s.pending ∧ (modPort p f s).ticked = s.ticked ∧
    (modPort p f s).link.sessions = s.link.sessions ∧ (modPort p f s).link.ptpState = s.link.ptpState ∧
    (modPort p f s).link.ptpOffset = s.link.ptpOffset ∧ (modPort p f s).link.announce0 = s.link.announce0 ∧
    (modPort p f s).link.announce1 = s.link.announce1 ∧ (modPort p f s).link.keys = s.link.keys ∧
    (modPort p f s).link.cargoBytes = s.link.cargoBytes ∧ (modPort p f s).link.cargoCrcFails = s.link.cargoCrcFails ∧
    (modPort p f s).link.nonces = s.link.nonces ∧ (modPort p f s).link.lastRefusal = s.link.lastRefusal ∧
    (modPort p f s).link.sources = s.link.sources :=
  ⟨rfl, rfl, rfl, rfl, rfl, rfl, rfl, rfl, rfl, rfl, rfl, rfl, rfl, rfl, rfl⟩

@[simp] theorem modPort_ports (p : Nat) (f : Port → Port) : (modPort p f s).link.ports = tset p (f (s.port p)) s.link.ports := rfl

@[simp] theorem modSession_frame (k : Nat) (f : Session → Session) :
    (modSession k f s).dev = s.dev ∧ (modSession k f s).undefined = s.undefined ∧ (modSession k f s).pending = s.pending ∧ (modSession k f s).ticked = s.ticked ∧
    (modSession k f s).link.ports = s.link.ports ∧ (modSession k f s).link.ptpState = s.link.ptpState ∧
    (modSession k f s).link.ptpOffset = s.link.ptpOffset ∧ (modSession k f s).link.announce0 = s.link.announce0 ∧
    (modSession k f s).link.announce1 = s.link.announce1 ∧ (modSession k f s).link.keys = s.link.keys ∧
    (modSession k f s).link.cargoBytes = s.link.cargoBytes ∧ (modSession k f s).link.cargoCrcFails = s.link.cargoCrcFails ∧
    (modSession k f s).link.nonces = s.link.nonces ∧ (modSession k f s).link.lastRefusal = s.link.lastRefusal ∧
    (modSession k f s).link.sources = s.link.sources :=
  ⟨rfl, rfl, rfl, rfl, rfl, rfl, rfl, rfl, rfl, rfl, rfl, rfl, rfl, rfl, rfl⟩

@[simp] theorem modSession_sessions (k : Nat) (f : Session → Session) : (modSession k f s).link.sessions = tset k (f (s.session k)) s.link.sessions := rfl

/-! ### Updates inside a part -/

@[simp] theorem modCommit_eq (f : Commit → Commit) : modCommit f s = modDict (fun d => { d with commit := f d.commit }) s := rfl
@[simp] theorem modRingCommit_eq (f : RingCommit → RingCommit) :
    modRingCommit f s = modRing (fun d => { d with commit := f d.commit }) s := rfl
@[simp] theorem modBerth_eq (f : Berth → Berth) : modBerth f s = modScratch (fun d => { d with berth := f d.berth }) s := rfl
@[simp] theorem modCore_eq (e : Nat) (f : EngCore → EngCore) : modCore e f s = modEngine e (fun g => { g with core := f g.core }) s := rfl
@[simp] theorem modPend_eq (e : Nat) (f : EngPend → EngPend) :
    modPend e f s = modEngine e (fun g => { g with core := { g.core with pend := f g.core.pend } }) s := rfl
@[simp] theorem modPlay_eq (e : Nat) (f : EngPlay → EngPlay) :
    modPlay e f s = modEngine e (fun g => { g with core := { g.core with play := f g.core.play } }) s := rfl
@[simp] theorem modSrc_eq (e : Nat) (f : EngSrc → EngSrc) :
    modSrc e f s = modEngine e (fun g => { g with core := { g.core with src := f g.core.src } }) s := rfl
@[simp] theorem modVals_eq (e : Nat) (f : EngVals → EngVals) :
    modVals e f s = modEngine e (fun g => { g with core := { g.core with vals := f g.core.vals } }) s := rfl
@[simp] theorem modCnt_eq (e : Nat) (f : EngCnt → EngCnt) :
    modCnt e f s = modEngine e (fun g => { g with core := { g.core with cnt := f g.core.cnt } }) s := rfl

end Sys2Proof.Machine
end

