-- ==== Sys2Proof/Laws/Ops.lean ====
section
/-! SUPPORT. What the shared operations do: tables, byte memories, units, notices, producer lines, time and requests. -/

namespace Sys2Proof.Machine

/-! ### Tables -/

section Tables
variable {α : Type} (d : α) (k j : Nat) (v w : α)

@[simp] theorem tget_nil : tget d k [] = d := rfl

@[simp] theorem tget_tset_same (t : Tbl α) : tget d k (tset k v t) = v := by
  induction t with
  | nil => simp [tset, tget]
  | cons x r ih =>
    obtain ⟨k', v'⟩ := x
    simp only [tset]
    split
    · simp [tget]
    · split
      · simp [tget]
      · rename_i h; simp [tget, ih, Ne.symm h]

theorem tget_tset_ne (h : j ≠ k) (t : Tbl α) : tget d j (tset k v t) = tget d j t := by
  induction t with
  | nil => simp [tset, tget, Ne.symm h]
  | cons x r ih =>
    obtain ⟨k', v'⟩ := x
    simp only [tset]
    split
    · simp [tget, Ne.symm h]
    · split
      · rename_i hk; subst hk; simp [tget, Ne.symm h]
      · simp [tget, ih]

theorem tget_tset (t : Tbl α) : tget d j (tset k v t) = if j = k then v else tget d j t := by
  split
  · rename_i h; simp [h]
  · rename_i h; exact tget_tset_ne d k j v h t

@[simp] theorem tset_tset (t : Tbl α) : tset k v (tset k w t) = tset k v t := by
  induction t with
  | nil => simp [tset]
  | cons x r ih =>
    obtain ⟨k', v'⟩ := x
    simp only [tset]
    split
    · simp [tset]
    · split
      · simp [tset]
      · rename_i h1 h2; simp [tset, h1, h2, ih]

@[simp] theorem tget_terase_same (t : Tbl α) : tget d k (terase k t) = d := by
  induction t with
  | nil => rfl
  | cons x r ih =>
    obtain ⟨k', v'⟩ := x
    simp only [terase]
    split
    · exact ih
    · rename_i h; simp [tget, h, ih]

theorem tget_terase_ne (h : j ≠ k) (t : Tbl α) : tget d j (terase k t) = tget d j t := by
  induction t with
  | nil => rfl
  | cons x r ih =>
    obtain ⟨k', v'⟩ := x
    simp only [terase]
    split
    · rename_i hk; subst hk; simp [tget, Ne.symm h, ih]
    · simp only [tget]; split <;> simp_all

end Tables

/-! ### Byte memories -/

section Memories
variable (d : Byte) (a b : Nat) (v : Byte)

theorem memWf_tail {d : Byte} {x : Nat × Byte} {r : Mem} (h : memWf d (x :: r) = true) : memWf d r = true := by
  obtain ⟨a, v⟩ := x
  cases r with
  | nil => rfl
  | cons y r => obtain ⟨b, w⟩ := y; simp only [memWf, Bool.and_eq_true] at h; exact h.2

/-- An address below the first listed one reads as unlisted. -/
theorem mget_below {d : Byte} {a b : Nat} {w : Byte} {r : Mem} (h : memWf d ((b, w) :: r) = true) (hab : a < b) :
    mget d a ((b, w) :: r) = d := by
  induction r generalizing b w with
  | nil => simp [mget, tget]; omega
  | cons y r ih =>
    obtain ⟨c, u⟩ := y
    simp only [memWf, Bool.and_eq_true, decide_eq_true_eq] at h
    have hc : a < c := by omega
    have := ih h.2 hc
    simp only [mget] at this ⊢
    rw [tget, if_neg (by omega)]; exact this

theorem mget_mput_same (m : Mem) (h : memWf d m = true) : mget d a (mput d a v m) = v := by
  induction m with
  | nil => by_cases hv : v = d <;> simp [mput, mget, tget, hv]
  | cons x r ih =>
    obtain ⟨b, w⟩ := x
    have hr := memWf_tail h
    simp only [mput]
    split
    · rename_i hlt
      split
      · rename_i hv; subst hv; exact mget_below h hlt
      · simp [mget, tget]
    · split
      · rename_i hn he; subst he
        split
        · rename_i hv; subst hv
          cases r with
          | nil => rfl
          | cons y r =>
            obtain ⟨c, u⟩ := y
            simp only [memWf, Bool.and_eq_true, decide_eq_true_eq] at h
            exact mget_below h.2 h.1.2
        · simp [mget, tget]
      · rename_i hne
        have := ih hr
        simp only [mget] at this ⊢
        rw [tget, if_neg (by omega)]; exact this

theorem mget_mput_ne (hab : b ≠ a) (m : Mem) (h : memWf d m = true) : mget d b (mput d a v m) = mget d b m := by
  induction m with
  | nil => by_cases hv : v = d <;> simp [mput, mget, tget, hv, Ne.symm hab]
  | cons x r ih =>
    obtain ⟨c, w⟩ := x
    have hr := memWf_tail h
    simp only [mput]
    split
    · split
      · rfl
      · simp [mget, tget, Ne.symm hab]
    · split
      · rename_i hn he; subst he
        split
        · simp [mget, tget, Ne.symm hab]
        · simp [mget, tget, Ne.symm hab]
      · have := ih hr
        simp only [mget] at this ⊢
        simp only [tget]; split <;> simp_all

/-- The first address of a canonical memory after a write is no lower than both. -/
theorem mput_head (m : Mem) (c : Nat) (u : Byte) (h : memWf d ((c, u) :: m) = true) (hc : c < a) :
    memWf d (mput d a v m) = true → memWf d ((c, u) :: mput d a v m) = true := by
  intro hw
  have hu : (u != d) = true := by cases m <;> simp_all [memWf]
  have key : ∀ b w r, mput d a v m = (b, w) :: r → c < b := by
    intro b w r hm
    cases m with
    | nil => simp only [mput] at hm; split at hm <;> simp_all
    | cons y r' =>
      obtain ⟨e, z⟩ := y
      simp only [memWf, Bool.and_eq_true, decide_eq_true_eq] at h
      have hce : c < e := h.1.2
      have h2 := h.2
      simp only [mput] at hm
      split at hm
      · split at hm <;> simp only [List.cons.injEq, Prod.mk.injEq] at hm <;> omega
      · split at hm
        · split at hm
          · subst hm
            simp only [memWf, Bool.and_eq_true, decide_eq_true_eq] at h2; omega
          · simp only [List.cons.injEq, Prod.mk.injEq] at hm; omega
        · simp only [List.cons.injEq, Prod.mk.injEq] at hm; omega
  cases hm : mput d a v m with
  | nil => simpa [memWf] using hu
  | cons y r =>
    obtain ⟨b, w⟩ := y
    have := key b w r hm
    simp only [memWf, Bool.and_eq_true, decide_eq_true_eq]
    exact ⟨⟨hu, this⟩, by rw [← hm]; exact hw⟩

/-- A write keeps the canonical form. -/
theorem memWf_mput (m : Mem) (h : memWf d m = true) : memWf d (mput d a v m) = true := by
  induction m with
  | nil => by_cases hv : v = d <;> simp [mput, memWf, hv]
  | cons x r ih =>
    obtain ⟨b, w⟩ := x
    have hr := memWf_tail h
    by_cases h1 : a < b
    · simp only [mput, if_pos h1]
      split
      · exact h
      · rename_i hv; simp [memWf, hv, h1, h]
    · by_cases h2 : a = b
      · subst h2
        simp only [mput, if_neg h1, if_true]
        split
        · exact hr
        · rename_i hv
          cases r with
          | nil => simp [memWf, hv]
          | cons y r => obtain ⟨c, u⟩ := y; simp_all [memWf]
      · simp only [mput, if_neg h1, if_neg h2]
        exact mput_head d a v r b w h (by omega) (ih hr)

theorem memWf_mputs (vs : List Byte) (m : Mem) (h : memWf d m = true) : memWf d (mputs d a vs m) = true := by
  induction vs generalizing a m with
  | nil => exact h
  | cons x r ih => exact ih (a + 1) (mput d a x m) (memWf_mput d a x m h)

/-- Bytes outside those written are unchanged. -/
theorem mget_mputs_ne (vs : List Byte) (m : Mem) (h : memWf d m = true) (hb : b < a ∨ a + vs.length ≤ b) :
    mget d b (mputs d a vs m) = mget d b m := by
  induction vs generalizing a m with
  | nil => rfl
  | cons x r ih =>
    simp only [List.length_cons] at hb
    rw [mputs, ih (a + 1) (mput d a x m) (memWf_mput d a x m h) (by omega), mget_mput_ne d a b x (by omega) m h]

/-- The bytes written are read back. -/
theorem mget_mputs_in (vs : List Byte) (m : Mem) (h : memWf d m = true) (k : Nat) (hk : k < vs.length) :
    mget d (a + k) (mputs d a vs m) = vs[k] := by
  induction vs generalizing a m k with
  | nil => simp at hk
  | cons x r ih =>
    have hm := memWf_mput d a x m h
    cases k with
    | zero => rw [mputs, mget_mputs_ne d (a + 1) (a + 0) r _ hm (by omega)]; simpa using mget_mput_same d a x m h
    | succ k =>
      simp only [List.length_cons] at hk
      have := ih (a + 1) (mput d a x m) hm k (by omega)
      rw [mputs, show a + (k + 1) = a + 1 + k by omega]
      simpa using this

end Memories

/-! ### Units -/

variable (s : State)

@[simp] theorem modEngine_engine (e : Nat) (f : Engine → Engine) : (modEngine e f s).engine e = f (s.engine e) := by
  simp [State.engine]
theorem modEngine_engine_ne (e x : Nat) (h : x ≠ e) (f : Engine → Engine) : (modEngine e f s).engine x = s.engine x := by
  simp [State.engine, tget_tset_ne _ _ _ _ h]

@[simp] theorem modLine_line (p : Nat) (f : Line → Line) : (modLine p f s).line p = f (s.line p) := by
  simp [State.line]
theorem modLine_line_ne (p x : Nat) (h : x ≠ p) (f : Line → Line) : (modLine p f s).line x = s.line x := by
  simp [State.line, tget_tset_ne _ _ _ _ h]

@[simp] theorem modOut_out (c : Nat) (f : Out → Out) : (modOut c f s).out c = f (s.out c) := by
  simp [State.out]
theorem modOut_out_ne (c x : Nat) (h : x ≠ c) (f : Out → Out) : (modOut c f s).out x = s.out x := by
  simp [State.out, tget_tset_ne _ _ _ _ h]

@[simp] theorem modCmp_cmp (j : Nat) (f : Cmp → Cmp) : (modCmp j f s).cmp j = f (s.cmp j) := by
  simp [State.cmp]
theorem modCmp_cmp_ne (j x : Nat) (h : x ≠ j) (f : Cmp → Cmp) : (modCmp j f s).cmp x = s.cmp x := by
  simp [State.cmp, tget_tset_ne _ _ _ _ h]

@[simp] theorem modSense_sense (c : Nat) (f : Sense → Sense) : (modSense c f s).sense c = f (s.sense c) := by
  simp [State.sense]
theorem modSense_sense_ne (c x : Nat) (h : x ≠ c) (f : Sense → Sense) : (modSense c f s).sense x = s.sense x := by
  simp [State.sense, tget_tset_ne _ _ _ _ h]

@[simp] theorem modInput_input (i : Nat) (f : Input → Input) : (modInput i f s).input i = f (s.input i) := by
  simp [State.input]
theorem modInput_input_ne (i x : Nat) (h : x ≠ i) (f : Input → Input) : (modInput i f s).input x = s.input x := by
  simp [State.input, tget_tset_ne _ _ _ _ h]

@[simp] theorem modTrig_trig (k : Nat) (f : Trig → Trig) : (modTrig k f s).trig k = f (s.trig k) := by
  simp [State.trig]
theorem modTrig_trig_ne (k x : Nat) (h : x ≠ k) (f : Trig → Trig) : (modTrig k f s).trig x = s.trig x := by
  simp [State.trig, tget_tset_ne _ _ _ _ h]

@[simp] theorem modTimer_timer (k : Nat) (f : Timer → Timer) : (modTimer k f s).timer k = f (s.timer k) := by
  simp [State.timer]
theorem modTimer_timer_ne (k x : Nat) (h : x ≠ k) (f : Timer → Timer) : (modTimer k f s).timer x = s.timer x := by
  simp [State.timer, tget_tset_ne _ _ _ _ h]

@[simp] theorem modSeg_seg (n : Nat) (f : Seg → Seg) : (modSeg n f s).seg n = f (s.seg n) := by
  simp [State.seg]
theorem modSeg_seg_ne (n x : Nat) (h : x ≠ n) (f : Seg → Seg) : (modSeg n f s).seg x = s.seg x := by
  simp [State.seg, tget_tset_ne _ _ _ _ h]

@[simp] theorem modStream_stream (n : Nat) (f : Stream → Stream) : (modStream n f s).stream n = f (s.stream n) := by
  simp [State.stream]
theorem modStream_stream_ne (n x : Nat) (h : x ≠ n) (f : Stream → Stream) : (modStream n f s).stream x = s.stream x := by
  simp [State.stream, tget_tset_ne _ _ _ _ h]

@[simp] theorem modBank_bank (b : Nat) (f : Bank → Bank) : (modBank b f s).bank b = f (s.bank b) := by
  simp [State.bank]
theorem modBank_bank_ne (b x : Nat) (h : x ≠ b) (f : Bank → Bank) : (modBank b f s).bank x = s.bank x := by
  simp [State.bank, tget_tset_ne _ _ _ _ h]

@[simp] theorem modChan_chan (m : Nat) (f : Dram → Dram) : (modChan m f s).chan m = f (s.chan m) := by
  simp [State.chan]
theorem modChan_chan_ne (m x : Nat) (h : x ≠ m) (f : Dram → Dram) : (modChan m f s).chan x = s.chan x := by
  simp [State.chan, tget_tset_ne _ _ _ _ h]

@[simp] theorem modCal_cal (c : Nat) (f : Cal → Cal) : (modCal c f s).cal c = f (s.cal c) := by
  simp [State.cal]
theorem modCal_cal_ne (c x : Nat) (h : x ≠ c) (f : Cal → Cal) : (modCal c f s).cal x = s.cal x := by
  simp [State.cal, tget_tset_ne _ _ _ _ h]

@[simp] theorem modPort_port (p : Nat) (f : Port → Port) : (modPort p f s).port p = f (s.port p) := by
  simp [State.port]
theorem modPort_port_ne (p x : Nat) (h : x ≠ p) (f : Port → Port) : (modPort p f s).port x = s.port x := by
  simp [State.port, tget_tset_ne _ _ _ _ h]

@[simp] theorem modSession_session (k : Nat) (f : Session → Session) : (modSession k f s).session k = f (s.session k) := by
  simp [State.session]
theorem modSession_session_ne (k x : Nat) (h : x ≠ k) (f : Session → Session) : (modSession k f s).session x = s.session x := by
  simp [State.session, tget_tset_ne _ _ _ _ h]

/-! ### An update of one kind of unit leaves every other kind -/

@[simp] theorem modEngine_units (e : Nat) (f : Engine → Engine) :
    (modEngine e f s).line = s.line ∧ (modEngine e f s).out = s.out ∧ (modEngine e f s).cmp = s.cmp ∧ (modEngine e f s).sense = s.sense ∧
    (modEngine e f s).input = s.input ∧ (modEngine e f s).trig = s.trig ∧ (modEngine e f s).timer = s.timer ∧
    (modEngine e f s).seg = s.seg ∧ (modEngine e f s).stream = s.stream ∧ (modEngine e f s).bank = s.bank ∧
    (modEngine e f s).chan = s.chan ∧ (modEngine e f s).cal = s.cal ∧ (modEngine e f s).port = s.port ∧
    (modEngine e f s).session = s.session ∧ (modEngine e f s).now = s.now ∧ (modEngine e f s).time = s.time ∧
    (modEngine e f s).act = s.act ∧ (modEngine e f s).stg = s.stg ∧ (modEngine e f s).rwv = s.rwv ∧ (modEngine e f s).grid = s.grid ∧
    (modEngine e f s).gridE = s.gridE ∧ (modEngine e f s).tickAt = s.tickAt ∧ (modEngine e f s).usTick = s.usTick ∧
    (modEngine e f s).entry = s.entry :=
  ⟨rfl, rfl, rfl, rfl, rfl, rfl, rfl, rfl, rfl, rfl, rfl, rfl, rfl, rfl, rfl, rfl, rfl, rfl, rfl, rfl, rfl, rfl, rfl, rfl⟩

@[simp] theorem modLine_units (p : Nat) (f : Line → Line) :
    (modLine p f s).engine = s.engine ∧ (modLine p f s).core = s.core ∧ (modLine p f s).out = s.out ∧ (modLine p f s).cmp = s.cmp ∧
    (modLine p f s).sense = s.sense ∧ (modLine p f s).input = s.input ∧ (modLine p f s).trig = s.trig ∧ (modLine p f s).timer = s.timer ∧
    (modLine p f s).seg = s.seg ∧ (modLine p f s).stream = s.stream ∧ (modLine p f s).bank = s.bank ∧ (modLine p f s).chan = s.chan ∧
    (modLine p f s).cal = s.cal ∧ (modLine p f s).port = s.port ∧ (modLine p f s).session = s.session ∧ (modLine p f s).now = s.now ∧
    (modLine p f s).time = s.time ∧ (modLine p f s).act = s.act ∧ (modLine p f s).stg = s.stg ∧ (modLine p f s).rwv = s.rwv ∧
    (modLine p f s).grid = s.grid ∧ (modLine p f s).gridE = s.gridE ∧ (modLine p f s).tickAt = s.tickAt ∧
    (modLine p f s).usTick = s.usTick ∧ (modLine p f s).entry = s.entry :=
  ⟨rfl, rfl, rfl, rfl, rfl, rfl, rfl, rfl, rfl, rfl, rfl, rfl, rfl, rfl, rfl, rfl, rfl, rfl, rfl, rfl, rfl, rfl, rfl, rfl, rfl⟩

@[simp] theorem modOut_units (c : Nat) (f : Out → Out) :
    (modOut c f s).engine = s.engine ∧ (modOut c f s).core = s.core ∧ (modOut c f s).line = s.line ∧ (modOut c f s).cmp = s.cmp ∧
    (modOut c f s).sense = s.sense ∧ (modOut c f s).input = s.input ∧ (modOut c f s).trig = s.trig ∧ (modOut c f s).timer = s.timer ∧
    (modOut c f s).seg = s.seg ∧ (modOut c f s).stream = s.stream ∧ (modOut c f s).bank = s.bank ∧ (modOut c f s).chan = s.chan ∧
    (modOut c f s).cal = s.cal ∧ (modOut c f s).port = s.port ∧ (modOut c f s).session = s.session ∧ (modOut c f s).now = s.now ∧
    (modOut c f s).time = s.time ∧ (modOut c f s).act = s.act ∧ (modOut c f s).stg = s.stg ∧ (modOut c f s).rwv = s.rwv ∧
    (modOut c f s).grid = s.grid ∧ (modOut c f s).gridE = s.gridE ∧ (modOut c f s).tickAt = s.tickAt ∧ (modOut c f s).usTick = s.usTick ∧
    (modOut c f s).entry = s.entry :=
  ⟨rfl, rfl, rfl, rfl, rfl, rfl, rfl, rfl, rfl, rfl, rfl, rfl, rfl, rfl, rfl, rfl, rfl, rfl, rfl, rfl, rfl, rfl, rfl, rfl, rfl⟩

@[simp] theorem modCmp_units (j : Nat) (f : Cmp → Cmp) :
    (modCmp j f s).engine = s.engine ∧ (modCmp j f s).core = s.core ∧ (modCmp j f s).line = s.line ∧ (modCmp j f s).out = s.out ∧
    (modCmp j f s).sense = s.sense ∧ (modCmp j f s).input = s.input ∧ (modCmp j f s).trig = s.trig ∧ (modCmp j f s).timer = s.timer ∧
    (modCmp j f s).seg = s.seg ∧ (modCmp j f s).stream = s.stream ∧ (modCmp j f s).bank = s.bank ∧ (modCmp j f s).chan = s.chan ∧
    (modCmp j f s).cal = s.cal ∧ (modCmp j f s).port = s.port ∧ (modCmp j f s).session = s.session ∧ (modCmp j f s).now = s.now ∧
    (modCmp j f s).time = s.time ∧ (modCmp j f s).act = s.act ∧ (modCmp j f s).stg = s.stg ∧ (modCmp j f s).rwv = s.rwv ∧
    (modCmp j f s).grid = s.grid ∧ (modCmp j f s).gridE = s.gridE ∧ (modCmp j f s).tickAt = s.tickAt ∧ (modCmp j f s).usTick = s.usTick ∧
    (modCmp j f s).entry = s.entry :=
  ⟨rfl, rfl, rfl, rfl, rfl, rfl, rfl, rfl, rfl, rfl, rfl, rfl, rfl, rfl, rfl, rfl, rfl, rfl, rfl, rfl, rfl, rfl, rfl, rfl, rfl⟩

@[simp] theorem modSense_units (c : Nat) (f : Sense → Sense) :
    (modSense c f s).engine = s.engine ∧ (modSense c f s).core = s.core ∧ (modSense c f s).line = s.line ∧ (modSense c f s).out = s.out ∧
    (modSense c f s).cmp = s.cmp ∧ (modSense c f s).input = s.input ∧ (modSense c f s).trig = s.trig ∧ (modSense c f s).timer = s.timer ∧
    (modSense c f s).seg = s.seg ∧ (modSense c f s).stream = s.stream ∧ (modSense c f s).bank = s.bank ∧ (modSense c f s).chan = s.chan ∧
    (modSense c f s).cal = s.cal ∧ (modSense c f s).port = s.port ∧ (modSense c f s).session = s.session ∧ (modSense c f s).now = s.now ∧
    (modSense c f s).time = s.time ∧ (modSense c f s).act = s.act ∧ (modSense c f s).stg = s.stg ∧ (modSense c f s).rwv = s.rwv ∧
    (modSense c f s).grid = s.grid ∧ (modSense c f s).gridE = s.gridE ∧ (modSense c f s).tickAt = s.tickAt ∧
    (modSense c f s).usTick = s.usTick ∧ (modSense c f s).entry = s.entry :=
  ⟨rfl, rfl, rfl, rfl, rfl, rfl, rfl, rfl, rfl, rfl, rfl, rfl, rfl, rfl, rfl, rfl, rfl, rfl, rfl, rfl, rfl, rfl, rfl, rfl, rfl⟩

@[simp] theorem modCal_units (c : Nat) (f : Cal → Cal) :
    (modCal c f s).engine = s.engine ∧ (modCal c f s).core = s.core ∧ (modCal c f s).line = s.line ∧ (modCal c f s).out = s.out ∧
    (modCal c f s).cmp = s.cmp ∧ (modCal c f s).sense = s.sense ∧ (modCal c f s).input = s.input ∧ (modCal c f s).trig = s.trig ∧
    (modCal c f s).timer = s.timer ∧ (modCal c f s).seg = s.seg ∧ (modCal c f s).stream = s.stream ∧ (modCal c f s).bank = s.bank ∧
    (modCal c f s).chan = s.chan ∧ (modCal c f s).port = s.port ∧ (modCal c f s).session = s.session ∧ (modCal c f s).now = s.now ∧
    (modCal c f s).time = s.time ∧ (modCal c f s).act = s.act ∧ (modCal c f s).stg = s.stg ∧ (modCal c f s).rwv = s.rwv ∧
    (modCal c f s).grid = s.grid ∧ (modCal c f s).gridE = s.gridE ∧ (modCal c f s).tickAt = s.tickAt ∧ (modCal c f s).usTick = s.usTick ∧
    (modCal c f s).entry = s.entry :=
  ⟨rfl, rfl, rfl, rfl, rfl, rfl, rfl, rfl, rfl, rfl, rfl, rfl, rfl, rfl, rfl, rfl, rfl, rfl, rfl, rfl, rfl, rfl, rfl, rfl, rfl⟩

@[simp] theorem modInput_units (i : Nat) (f : Input → Input) :
    (modInput i f s).engine = s.engine ∧ (modInput i f s).core = s.core ∧ (modInput i f s).line = s.line ∧ (modInput i f s).out = s.out ∧
    (modInput i f s).cmp = s.cmp ∧ (modInput i f s).sense = s.sense ∧ (modInput i f s).trig = s.trig ∧ (modInput i f s).timer = s.timer ∧
    (modInput i f s).seg = s.seg ∧ (modInput i f s).stream = s.stream ∧ (modInput i f s).bank = s.bank ∧ (modInput i f s).chan = s.chan ∧
    (modInput i f s).cal = s.cal ∧ (modInput i f s).port = s.port ∧ (modInput i f s).session = s.session ∧ (modInput i f s).now = s.now ∧
    (modInput i f s).time = s.time ∧ (modInput i f s).act = s.act ∧ (modInput i f s).stg = s.stg ∧ (modInput i f s).rwv = s.rwv ∧
    (modInput i f s).grid = s.grid ∧ (modInput i f s).gridE = s.gridE ∧ (modInput i f s).tickAt = s.tickAt ∧
    (modInput i f s).usTick = s.usTick ∧ (modInput i f s).entry = s.entry :=
  ⟨rfl, rfl, rfl, rfl, rfl, rfl, rfl, rfl, rfl, rfl, rfl, rfl, rfl, rfl, rfl, rfl, rfl, rfl, rfl, rfl, rfl, rfl, rfl, rfl, rfl⟩

@[simp] theorem modTrig_units (k : Nat) (f : Trig → Trig) :
    (modTrig k f s).engine = s.engine ∧ (modTrig k f s).core = s.core ∧ (modTrig k f s).line = s.line ∧ (modTrig k f s).out = s.out ∧
    (modTrig k f s).cmp = s.cmp ∧ (modTrig k f s).sense = s.sense ∧ (modTrig k f s).input = s.input ∧ (modTrig k f s).timer = s.timer ∧
    (modTrig k f s).seg = s.seg ∧ (modTrig k f s).stream = s.stream ∧ (modTrig k f s).bank = s.bank ∧ (modTrig k f s).chan = s.chan ∧
    (modTrig k f s).cal = s.cal ∧ (modTrig k f s).port = s.port ∧ (modTrig k f s).session = s.session ∧ (modTrig k f s).now = s.now ∧
    (modTrig k f s).time = s.time ∧ (modTrig k f s).act = s.act ∧ (modTrig k f s).stg = s.stg ∧ (modTrig k f s).rwv = s.rwv ∧
    (modTrig k f s).grid = s.grid ∧ (modTrig k f s).gridE = s.gridE ∧ (modTrig k f s).tickAt = s.tickAt ∧
    (modTrig k f s).usTick = s.usTick ∧ (modTrig k f s).entry = s.entry :=
  ⟨rfl, rfl, rfl, rfl, rfl, rfl, rfl, rfl, rfl, rfl, rfl, rfl, rfl, rfl, rfl, rfl, rfl, rfl, rfl, rfl, rfl, rfl, rfl, rfl, rfl⟩

@[simp] theorem modTimer_units (k : Nat) (f : Timer → Timer) :
    (modTimer k f s).engine = s.engine ∧ (modTimer k f s).core = s.core ∧ (modTimer k f s).line = s.line ∧ (modTimer k f s).out = s.out ∧
    (modTimer k f s).cmp = s.cmp ∧ (modTimer k f s).sense = s.sense ∧ (modTimer k f s).input = s.input ∧ (modTimer k f s).trig = s.trig ∧
    (modTimer k f s).seg = s.seg ∧ (modTimer k f s).stream = s.stream ∧ (modTimer k f s).bank = s.bank ∧ (modTimer k f s).chan = s.chan ∧
    (modTimer k f s).cal = s.cal ∧ (modTimer k f s).port = s.port ∧ (modTimer k f s).session = s.session ∧ (modTimer k f s).now = s.now ∧
    (modTimer k f s).time = s.time ∧ (modTimer k f s).act = s.act ∧ (modTimer k f s).stg = s.stg ∧ (modTimer k f s).rwv = s.rwv ∧
    (modTimer k f s).grid = s.grid ∧ (modTimer k f s).gridE = s.gridE ∧ (modTimer k f s).tickAt = s.tickAt ∧
    (modTimer k f s).usTick = s.usTick ∧ (modTimer k f s).entry = s.entry :=
  ⟨rfl, rfl, rfl, rfl, rfl, rfl, rfl, rfl, rfl, rfl, rfl, rfl, rfl, rfl, rfl, rfl, rfl, rfl, rfl, rfl, rfl, rfl, rfl, rfl, rfl⟩

@[simp] theorem modSeg_units (n : Nat) (f : Seg → Seg) :
    (modSeg n f s).engine = s.engine ∧ (modSeg n f s).core = s.core ∧ (modSeg n f s).line = s.line ∧ (modSeg n f s).out = s.out ∧
    (modSeg n f s).cmp = s.cmp ∧ (modSeg n f s).sense = s.sense ∧ (modSeg n f s).input = s.input ∧ (modSeg n f s).trig = s.trig ∧
    (modSeg n f s).timer = s.timer ∧ (modSeg n f s).stream = s.stream ∧ (modSeg n f s).bank = s.bank ∧ (modSeg n f s).chan = s.chan ∧
    (modSeg n f s).cal = s.cal ∧ (modSeg n f s).port = s.port ∧ (modSeg n f s).session = s.session ∧ (modSeg n f s).now = s.now ∧
    (modSeg n f s).time = s.time ∧ (modSeg n f s).act = s.act ∧ (modSeg n f s).stg = s.stg ∧ (modSeg n f s).rwv = s.rwv ∧
    (modSeg n f s).grid = s.grid ∧ (modSeg n f s).gridE = s.gridE ∧ (modSeg n f s).tickAt = s.tickAt ∧ (modSeg n f s).usTick = s.usTick ∧
    (modSeg n f s).entry = s.entry :=
  ⟨rfl, rfl, rfl, rfl, rfl, rfl, rfl, rfl, rfl, rfl, rfl, rfl, rfl, rfl, rfl, rfl, rfl, rfl, rfl, rfl, rfl, rfl, rfl, rfl, rfl⟩

@[simp] theorem modStream_units (n : Nat) (f : Stream → Stream) :
    (modStream n f s).engine = s.engine ∧ (modStream n f s).core = s.core ∧ (modStream n f s).line = s.line ∧
    (modStream n f s).out = s.out ∧ (modStream n f s).cmp = s.cmp ∧ (modStream n f s).sense = s.sense ∧ (modStream n f s).input = s.input ∧
    (modStream n f s).trig = s.trig ∧ (modStream n f s).timer = s.timer ∧ (modStream n f s).seg = s.seg ∧ (modStream n f s).bank = s.bank ∧
    (modStream n f s).chan = s.chan ∧ (modStream n f s).cal = s.cal ∧ (modStream n f s).port = s.port ∧
    (modStream n f s).session = s.session ∧ (modStream n f s).now = s.now ∧ (modStream n f s).time = s.time ∧
    (modStream n f s).act = s.act ∧ (modStream n f s).stg = s.stg ∧ (modStream n f s).rwv = s.rwv ∧ (modStream n f s).grid = s.grid ∧
    (modStream n f s).gridE = s.gridE ∧ (modStream n f s).tickAt = s.tickAt ∧ (modStream n f s).usTick = s.usTick ∧
    (modStream n f s).entry = s.entry :=
  ⟨rfl, rfl, rfl, rfl, rfl, rfl, rfl, rfl, rfl, rfl, rfl, rfl, rfl, rfl, rfl, rfl, rfl, rfl, rfl, rfl, rfl, rfl, rfl, rfl, rfl⟩

@[simp] theorem modBank_units (b : Nat) (f : Bank → Bank) :
    (modBank b f s).engine = s.engine ∧ (modBank b f s).core = s.core ∧ (modBank b f s).line = s.line ∧ (modBank b f s).out = s.out ∧
    (modBank b f s).cmp = s.cmp ∧ (modBank b f s).sense = s.sense ∧ (modBank b f s).input = s.input ∧ (modBank b f s).trig = s.trig ∧
    (modBank b f s).timer = s.timer ∧ (modBank b f s).seg = s.seg ∧ (modBank b f s).stream = s.stream ∧ (modBank b f s).chan = s.chan ∧
    (modBank b f s).cal = s.cal ∧ (modBank b f s).port = s.port ∧ (modBank b f s).session = s.session ∧ (modBank b f s).now = s.now ∧
    (modBank b f s).time = s.time ∧ (modBank b f s).act = s.act ∧ (modBank b f s).stg = s.stg ∧ (modBank b f s).rwv = s.rwv ∧
    (modBank b f s).grid = s.grid ∧ (modBank b f s).gridE = s.gridE ∧ (modBank b f s).tickAt = s.tickAt ∧
    (modBank b f s).usTick = s.usTick ∧ (modBank b f s).entry = s.entry :=
  ⟨rfl, rfl, rfl, rfl, rfl, rfl, rfl, rfl, rfl, rfl, rfl, rfl, rfl, rfl, rfl, rfl, rfl, rfl, rfl, rfl, rfl, rfl, rfl, rfl, rfl⟩

@[simp] theorem modChan_units (m : Nat) (f : Dram → Dram) :
    (modChan m f s).engine = s.engine ∧ (modChan m f s).core = s.core ∧ (modChan m f s).line = s.line ∧ (modChan m f s).out = s.out ∧
    (modChan m f s).cmp = s.cmp ∧ (modChan m f s).sense = s.sense ∧ (modChan m f s).input = s.input ∧ (modChan m f s).trig = s.trig ∧
    (modChan m f s).timer = s.timer ∧ (modChan m f s).seg = s.seg ∧ (modChan m f s).stream = s.stream ∧ (modChan m f s).bank = s.bank ∧
    (modChan m f s).cal = s.cal ∧ (modChan m f s).port = s.port ∧ (modChan m f s).session = s.session ∧ (modChan m f s).now = s.now ∧
    (modChan m f s).time = s.time ∧ (modChan m f s).act = s.act ∧ (modChan m f s).stg = s.stg ∧ (modChan m f s).rwv = s.rwv ∧
    (modChan m f s).grid = s.grid ∧ (modChan m f s).gridE = s.gridE ∧ (modChan m f s).tickAt = s.tickAt ∧
    (modChan m f s).usTick = s.usTick ∧ (modChan m f s).entry = s.entry :=
  ⟨rfl, rfl, rfl, rfl, rfl, rfl, rfl, rfl, rfl, rfl, rfl, rfl, rfl, rfl, rfl, rfl, rfl, rfl, rfl, rfl, rfl, rfl, rfl, rfl, rfl⟩

@[simp] theorem modPort_units (p : Nat) (f : Port → Port) :
    (modPort p f s).engine = s.engine ∧ (modPort p f s).core = s.core ∧ (modPort p f s).line = s.line ∧ (modPort p f s).out = s.out ∧
    (modPort p f s).cmp = s.cmp ∧ (modPort p f s).sense = s.sense ∧ (modPort p f s).input = s.input ∧ (modPort p f s).trig = s.trig ∧
    (modPort p f s).timer = s.timer ∧ (modPort p f s).seg = s.seg ∧ (modPort p f s).stream = s.stream ∧ (modPort p f s).bank = s.bank ∧
    (modPort p f s).chan = s.chan ∧ (modPort p f s).cal = s.cal ∧ (modPort p f s).session = s.session ∧ (modPort p f s).now = s.now ∧
    (modPort p f s).time = s.time ∧ (modPort p f s).act = s.act ∧ (modPort p f s).stg = s.stg ∧ (modPort p f s).rwv = s.rwv ∧
    (modPort p f s).grid = s.grid ∧ (modPort p f s).gridE = s.gridE ∧ (modPort p f s).tickAt = s.tickAt ∧
    (modPort p f s).usTick = s.usTick ∧ (modPort p f s).entry = s.entry :=
  ⟨rfl, rfl, rfl, rfl, rfl, rfl, rfl, rfl, rfl, rfl, rfl, rfl, rfl, rfl, rfl, rfl, rfl, rfl, rfl, rfl, rfl, rfl, rfl, rfl, rfl⟩

@[simp] theorem modSession_units (k : Nat) (f : Session → Session) :
    (modSession k f s).engine = s.engine ∧ (modSession k f s).core = s.core ∧ (modSession k f s).line = s.line ∧
    (modSession k f s).out = s.out ∧ (modSession k f s).cmp = s.cmp ∧ (modSession k f s).sense = s.sense ∧
    (modSession k f s).input = s.input ∧ (modSession k f s).trig = s.trig ∧ (modSession k f s).timer = s.timer ∧
    (modSession k f s).seg = s.seg ∧ (modSession k f s).stream = s.stream ∧ (modSession k f s).bank = s.bank ∧
    (modSession k f s).chan = s.chan ∧ (modSession k f s).cal = s.cal ∧ (modSession k f s).port = s.port ∧ (modSession k f s).now = s.now ∧
    (modSession k f s).time = s.time ∧ (modSession k f s).act = s.act ∧ (modSession k f s).stg = s.stg ∧ (modSession k f s).rwv = s.rwv ∧
    (modSession k f s).grid = s.grid ∧ (modSession k f s).gridE = s.gridE ∧ (modSession k f s).tickAt = s.tickAt ∧
    (modSession k f s).usTick = s.usTick ∧ (modSession k f s).entry = s.entry :=
  ⟨rfl, rfl, rfl, rfl, rfl, rfl, rfl, rfl, rfl, rfl, rfl, rfl, rfl, rfl, rfl, rfl, rfl, rfl, rfl, rfl, rfl, rfl, rfl, rfl, rfl⟩

@[simp] theorem modDict_units (f : Dict → Dict) :
    (modDict f s).engine = s.engine ∧ (modDict f s).core = s.core ∧ (modDict f s).line = s.line ∧ (modDict f s).out = s.out ∧
    (modDict f s).cmp = s.cmp ∧ (modDict f s).sense = s.sense ∧ (modDict f s).input = s.input ∧ (modDict f s).trig = s.trig ∧
    (modDict f s).timer = s.timer ∧ (modDict f s).seg = s.seg ∧ (modDict f s).stream = s.stream ∧ (modDict f s).bank = s.bank ∧
    (modDict f s).chan = s.chan ∧ (modDict f s).cal = s.cal ∧ (modDict f s).port = s.port ∧ (modDict f s).session = s.session ∧
    (modDict f s).now = s.now ∧ (modDict f s).time = s.time :=
  ⟨rfl, rfl, rfl, rfl, rfl, rfl, rfl, rfl, rfl, rfl, rfl, rfl, rfl, rfl, rfl, rfl, rfl, rfl⟩

@[simp] theorem modClock_units (f : Clock → Clock) :
    (modClock f s).engine = s.engine ∧ (modClock f s).core = s.core ∧ (modClock f s).line = s.line ∧ (modClock f s).out = s.out ∧
    (modClock f s).cmp = s.cmp ∧ (modClock f s).sense = s.sense ∧ (modClock f s).input = s.input ∧ (modClock f s).trig = s.trig ∧
    (modClock f s).timer = s.timer ∧ (modClock f s).seg = s.seg ∧ (modClock f s).stream = s.stream ∧ (modClock f s).bank = s.bank ∧
    (modClock f s).chan = s.chan ∧ (modClock f s).cal = s.cal ∧ (modClock f s).port = s.port ∧ (modClock f s).session = s.session ∧
    (modClock f s).act = s.act ∧ (modClock f s).stg = s.stg ∧ (modClock f s).rwv = s.rwv ∧ (modClock f s).grid = s.grid ∧
    (modClock f s).gridE = s.gridE ∧ (modClock f s).tickAt = s.tickAt ∧ (modClock f s).usTick = s.usTick ∧ (modClock f s).entry = s.entry :=
  ⟨rfl, rfl, rfl, rfl, rfl, rfl, rfl, rfl, rfl, rfl, rfl, rfl, rfl, rfl, rfl, rfl, rfl, rfl, rfl, rfl, rfl, rfl, rfl, rfl⟩

@[simp] theorem modFabric_units (f : Fabric → Fabric) :
    (modFabric f s).engine = s.engine ∧ (modFabric f s).core = s.core ∧ (modFabric f s).line = s.line ∧ (modFabric f s).out = s.out ∧
    (modFabric f s).cmp = s.cmp ∧ (modFabric f s).sense = s.sense ∧ (modFabric f s).seg = s.seg ∧ (modFabric f s).stream = s.stream ∧
    (modFabric f s).bank = s.bank ∧ (modFabric f s).chan = s.chan ∧ (modFabric f s).cal = s.cal ∧ (modFabric f s).port = s.port ∧
    (modFabric f s).session = s.session ∧ (modFabric f s).now = s.now ∧ (modFabric f s).time = s.time ∧ (modFabric f s).act = s.act ∧
    (modFabric f s).stg = s.stg ∧ (modFabric f s).rwv = s.rwv ∧ (modFabric f s).grid = s.grid ∧ (modFabric f s).gridE = s.gridE ∧
    (modFabric f s).tickAt = s.tickAt ∧ (modFabric f s).usTick = s.usTick ∧ (modFabric f s).entry = s.entry :=
  ⟨rfl, rfl, rfl, rfl, rfl, rfl, rfl, rfl, rfl, rfl, rfl, rfl, rfl, rfl, rfl, rfl, rfl, rfl, rfl, rfl, rfl, rfl, rfl⟩

@[simp] theorem modRing_units (f : Ring → Ring) :
    (modRing f s).engine = s.engine ∧ (modRing f s).core = s.core ∧ (modRing f s).line = s.line ∧ (modRing f s).out = s.out ∧
    (modRing f s).cmp = s.cmp ∧ (modRing f s).sense = s.sense ∧ (modRing f s).input = s.input ∧ (modRing f s).trig = s.trig ∧
    (modRing f s).timer = s.timer ∧ (modRing f s).seg = s.seg ∧ (modRing f s).stream = s.stream ∧ (modRing f s).bank = s.bank ∧
    (modRing f s).chan = s.chan ∧ (modRing f s).cal = s.cal ∧ (modRing f s).port = s.port ∧ (modRing f s).session = s.session ∧
    (modRing f s).now = s.now ∧ (modRing f s).time = s.time ∧ (modRing f s).act = s.act ∧ (modRing f s).stg = s.stg ∧
    (modRing f s).rwv = s.rwv ∧ (modRing f s).grid = s.grid ∧ (modRing f s).gridE = s.gridE ∧ (modRing f s).tickAt = s.tickAt ∧
    (modRing f s).usTick = s.usTick ∧ (modRing f s).entry = s.entry :=
  ⟨rfl, rfl, rfl, rfl, rfl, rfl, rfl, rfl, rfl, rfl, rfl, rfl, rfl, rfl, rfl, rfl, rfl, rfl, rfl, rfl, rfl, rfl, rfl, rfl, rfl, rfl⟩

@[simp] theorem modStore_units (f : Store → Store) :
    (modStore f s).engine = s.engine ∧ (modStore f s).core = s.core ∧ (modStore f s).line = s.line ∧ (modStore f s).out = s.out ∧
    (modStore f s).cmp = s.cmp ∧ (modStore f s).sense = s.sense ∧ (modStore f s).input = s.input ∧ (modStore f s).trig = s.trig ∧
    (modStore f s).timer = s.timer ∧ (modStore f s).bank = s.bank ∧ (modStore f s).chan = s.chan ∧ (modStore f s).cal = s.cal ∧
    (modStore f s).port = s.port ∧ (modStore f s).session = s.session ∧ (modStore f s).now = s.now ∧ (modStore f s).time = s.time ∧
    (modStore f s).act = s.act ∧ (modStore f s).stg = s.stg ∧ (modStore f s).rwv = s.rwv ∧ (modStore f s).grid = s.grid ∧
    (modStore f s).gridE = s.gridE ∧ (modStore f s).tickAt = s.tickAt ∧ (modStore f s).usTick = s.usTick ∧ (modStore f s).entry = s.entry :=
  ⟨rfl, rfl, rfl, rfl, rfl, rfl, rfl, rfl, rfl, rfl, rfl, rfl, rfl, rfl, rfl, rfl, rfl, rfl, rfl, rfl, rfl, rfl, rfl, rfl⟩

@[simp] theorem modScratch_units (f : Scratch → Scratch) :
    (modScratch f s).engine = s.engine ∧ (modScratch f s).core = s.core ∧ (modScratch f s).line = s.line ∧ (modScratch f s).out = s.out ∧
    (modScratch f s).cmp = s.cmp ∧ (modScratch f s).sense = s.sense ∧ (modScratch f s).input = s.input ∧ (modScratch f s).trig = s.trig ∧
    (modScratch f s).timer = s.timer ∧ (modScratch f s).seg = s.seg ∧ (modScratch f s).stream = s.stream ∧ (modScratch f s).chan = s.chan ∧
    (modScratch f s).cal = s.cal ∧ (modScratch f s).port = s.port ∧ (modScratch f s).session = s.session ∧ (modScratch f s).now = s.now ∧
    (modScratch f s).time = s.time ∧ (modScratch f s).act = s.act ∧ (modScratch f s).stg = s.stg ∧ (modScratch f s).rwv = s.rwv ∧
    (modScratch f s).grid = s.grid ∧ (modScratch f s).gridE = s.gridE ∧ (modScratch f s).tickAt = s.tickAt ∧
    (modScratch f s).usTick = s.usTick ∧ (modScratch f s).entry = s.entry :=
  ⟨rfl, rfl, rfl, rfl, rfl, rfl, rfl, rfl, rfl, rfl, rfl, rfl, rfl, rfl, rfl, rfl, rfl, rfl, rfl, rfl, rfl, rfl, rfl, rfl, rfl⟩

@[simp] theorem modDram_units (f : DramStore → DramStore) :
    (modDram f s).engine = s.engine ∧ (modDram f s).core = s.core ∧ (modDram f s).line = s.line ∧ (modDram f s).out = s.out ∧
    (modDram f s).cmp = s.cmp ∧ (modDram f s).sense = s.sense ∧ (modDram f s).input = s.input ∧ (modDram f s).trig = s.trig ∧
    (modDram f s).timer = s.timer ∧ (modDram f s).seg = s.seg ∧ (modDram f s).stream = s.stream ∧ (modDram f s).bank = s.bank ∧
    (modDram f s).cal = s.cal ∧ (modDram f s).port = s.port ∧ (modDram f s).session = s.session ∧ (modDram f s).now = s.now ∧
    (modDram f s).time = s.time ∧ (modDram f s).act = s.act ∧ (modDram f s).stg = s.stg ∧ (modDram f s).rwv = s.rwv ∧
    (modDram f s).grid = s.grid ∧ (modDram f s).gridE = s.gridE ∧ (modDram f s).tickAt = s.tickAt ∧ (modDram f s).usTick = s.usTick ∧
    (modDram f s).entry = s.entry :=
  ⟨rfl, rfl, rfl, rfl, rfl, rfl, rfl, rfl, rfl, rfl, rfl, rfl, rfl, rfl, rfl, rfl, rfl, rfl, rfl, rfl, rfl, rfl, rfl, rfl, rfl⟩

@[simp] theorem modFaults_units (f : Faults → Faults) :
    (modFaults f s).engine = s.engine ∧ (modFaults f s).core = s.core ∧ (modFaults f s).line = s.line ∧ (modFaults f s).out = s.out ∧
    (modFaults f s).cmp = s.cmp ∧ (modFaults f s).sense = s.sense ∧ (modFaults f s).input = s.input ∧ (modFaults f s).trig = s.trig ∧
    (modFaults f s).timer = s.timer ∧ (modFaults f s).seg = s.seg ∧ (modFaults f s).stream = s.stream ∧ (modFaults f s).bank = s.bank ∧
    (modFaults f s).chan = s.chan ∧ (modFaults f s).cal = s.cal ∧ (modFaults f s).port = s.port ∧ (modFaults f s).session = s.session ∧
    (modFaults f s).now = s.now ∧ (modFaults f s).time = s.time ∧ (modFaults f s).act = s.act ∧ (modFaults f s).stg = s.stg ∧
    (modFaults f s).rwv = s.rwv ∧ (modFaults f s).grid = s.grid ∧ (modFaults f s).gridE = s.gridE ∧ (modFaults f s).tickAt = s.tickAt ∧
    (modFaults f s).usTick = s.usTick ∧ (modFaults f s).entry = s.entry :=
  ⟨rfl, rfl, rfl, rfl, rfl, rfl, rfl, rfl, rfl, rfl, rfl, rfl, rfl, rfl, rfl, rfl, rfl, rfl, rfl, rfl, rfl, rfl, rfl, rfl, rfl, rfl⟩

@[simp] theorem modPower_units (f : Power → Power) :
    (modPower f s).engine = s.engine ∧ (modPower f s).core = s.core ∧ (modPower f s).line = s.line ∧ (modPower f s).out = s.out ∧
    (modPower f s).cmp = s.cmp ∧ (modPower f s).sense = s.sense ∧ (modPower f s).input = s.input ∧ (modPower f s).trig = s.trig ∧
    (modPower f s).timer = s.timer ∧ (modPower f s).seg = s.seg ∧ (modPower f s).stream = s.stream ∧ (modPower f s).bank = s.bank ∧
    (modPower f s).chan = s.chan ∧ (modPower f s).cal = s.cal ∧ (modPower f s).port = s.port ∧ (modPower f s).session = s.session ∧
    (modPower f s).now = s.now ∧ (modPower f s).time = s.time ∧ (modPower f s).act = s.act ∧ (modPower f s).stg = s.stg ∧
    (modPower f s).rwv = s.rwv ∧ (modPower f s).grid = s.grid ∧ (modPower f s).gridE = s.gridE ∧ (modPower f s).tickAt = s.tickAt ∧
    (modPower f s).usTick = s.usTick ∧ (modPower f s).entry = s.entry :=
  ⟨rfl, rfl, rfl, rfl, rfl, rfl, rfl, rfl, rfl, rfl, rfl, rfl, rfl, rfl, rfl, rfl, rfl, rfl, rfl, rfl, rfl, rfl, rfl, rfl, rfl, rfl⟩

@[simp] theorem modLink_units (f : Link → Link) :
    (modLink f s).engine = s.engine ∧ (modLink f s).core = s.core ∧ (modLink f s).line = s.line ∧ (modLink f s).out = s.out ∧
    (modLink f s).cmp = s.cmp ∧ (modLink f s).sense = s.sense ∧ (modLink f s).input = s.input ∧ (modLink f s).trig = s.trig ∧
    (modLink f s).timer = s.timer ∧ (modLink f s).seg = s.seg ∧ (modLink f s).stream = s.stream ∧ (modLink f s).bank = s.bank ∧
    (modLink f s).chan = s.chan ∧ (modLink f s).cal = s.cal ∧ (modLink f s).now = s.now ∧ (modLink f s).time = s.time ∧
    (modLink f s).act = s.act ∧ (modLink f s).stg = s.stg ∧ (modLink f s).rwv = s.rwv ∧ (modLink f s).grid = s.grid ∧
    (modLink f s).gridE = s.gridE ∧ (modLink f s).tickAt = s.tickAt ∧ (modLink f s).usTick = s.usTick ∧ (modLink f s).entry = s.entry :=
  ⟨rfl, rfl, rfl, rfl, rfl, rfl, rfl, rfl, rfl, rfl, rfl, rfl, rfl, rfl, rfl, rfl, rfl, rfl, rfl, rfl, rfl, rfl, rfl, rfl⟩

/-! ### Meanings and events -/

@[simp] theorem atEdge_eq (t : Nat) (f : State → State) : atEdge t f s = .next (f (advance t s)) := rfl

theorem occurs_pos (c : State → Bool) (f : State → State) (h : c s = true) : occurs c f s = f s := by simp [occurs, h]

theorem occurs_neg (c : State → Bool) (f : State → State) (h : c s = false) : occurs c f s = s := by simp [occurs, h]

theorem forAll_nil {α : Type} (f : α → State → State) : forAll [] f s = s := rfl

theorem forAll_cons {α : Type} (x : α) (l : List α) (f : α → State → State) : forAll (x :: l) f s = forAll l f (f x s) := rfl

/-- What each pass keeps, the repetition keeps. -/
theorem forAll_keeps {α : Type} (P : State → Prop) (l : List α) (f : α → State → State) (hf : ∀ x s, P s → P (f x s)) :
    ∀ s, P s → P (forAll l f s) := by
  induction l with
  | nil => exact fun s h => h
  | cons x r ih => exact fun s h => ih _ (hf x s h)

/-- A projection that no pass changes. -/
theorem forAll_proj {α β : Type} (g : State → β) (l : List α) (f : α → State → State) (hf : ∀ x s, g (f x s) = g s) :
    g (forAll l f s) = g s :=
  forAll_keeps (fun t => g t = g s) l f (fun x t h => (hf x t).trans h) s rfl

end Sys2Proof.Machine
end

