-- ==== Sys2Proof/Laws/Request.lean ====
section
/-! SUPPORT. What the shared operations of producer lines, notices, frames and requests do, and what they leave. -/

namespace Sys2Proof.Machine

variable (s : State)

/-! ### Producer lines: the schedule of the event fabric alone changes -/

@[simp] theorem assertLine_eq (a l : Nat) :
    assertLine a l s = modFabric (fun f => { f with sched := insertAssert (a, l) f.sched }) s := rfl

theorem insertAssert_mem (x : Nat × Nat) (l : List (Nat × Nat)) : x ∈ insertAssert x l := by
  induction l with
  | nil => simp [insertAssert]
  | cons y r ih =>
    simp only [insertAssert]
    split
    · rename_i h; simp [h]
    · split
      · simp
      · simp [ih]

theorem insertAssert_keeps (x y : Nat × Nat) (l : List (Nat × Nat)) (h : y ∈ l) : y ∈ insertAssert x l := by
  induction l with
  | nil => simp at h
  | cons z r ih =>
    simp only [insertAssert]
    split
    · exact h
    · split
      · simp [h]
      · rcases List.mem_cons.1 h with h | h
        · simp [h]
        · simp [ih h]

/-- A line asserted at an edge is asserted there. -/
theorem lineAt_assert (a l : Nat) : lineAt (assertLine a l s) a l = true := by
  simp [lineAt, insertAssert_mem]

/-- Another line's assertion takes none back. -/
theorem lineAt_assert_keeps (a l b k : Nat) (h : lineAt s b k = true) : lineAt (assertLine a l s) b k = true := by
  simp only [lineAt, List.contains_iff_mem] at h ⊢
  exact insertAssert_keeps _ _ _ h

/-! ### Notices: the sessions' queues and the schedule of the event fabric alone change -/

/-- The parts of the state that no notice changes. -/
structure Unnoticed where
  clock : Clock
  dict : Dict
  engines : Tbl Engine
  lines : Tbl Line
  outs : Tbl Out
  cmps : Tbl Cmp
  senses : Tbl Sense
  ring : Ring
  store : Store
  scratch : Scratch
  dram : DramStore
  cals : Tbl Cal
  swaps : Nat × Nat
  lost : Tbl LostCopy
  faults : Faults
  power : Power
  fabric : Tbl Nat × Tbl Input × Tbl Trig × Tbl Timer × List SwWrite × Nat
  link : Tbl Port × Nat × Int × Bool × Bool × Tbl (List Byte) × Nat × Nat × Nat × Nat × Tbl Source
  rest : Nat × List Instr × Tbl Device

/-- Those parts of a state. -/
def unnoticed (s : State) : Unnoticed :=
  { clock := s.dev.clock, dict := s.dev.dict, engines := s.dev.engines, lines := s.dev.lines, outs := s.dev.outs, cmps := s.dev.cmps,
    senses := s.dev.senses, ring := s.dev.ring, store := s.dev.store, scratch := s.dev.scratch, dram := s.dev.dram, cals := s.dev.cals,
    swaps := (s.dev.calSwaps, s.dev.calLast), lost := s.dev.lostCopies, faults := s.dev.faults, power := s.dev.power,
    fabric := (s.dev.fabric.counts, s.dev.fabric.inputs, s.dev.fabric.trigs, s.dev.fabric.timers, s.dev.fabric.sw, s.dev.fabric.swWrites),
    link := (s.link.ports, s.link.ptpState, s.link.ptpOffset, s.link.announce0, s.link.announce1, s.link.keys, s.link.cargoBytes,
             s.link.cargoCrcFails, s.link.nonces, s.link.lastRefusal, s.link.sources),
    rest := (s.undefined, s.pending, s.ticked) }

theorem unnoticed_session (k : Nat) (f : Session → Session) : unnoticed (modSession k f s) = unnoticed s := rfl

theorem unnoticed_sched (f : List (Nat × Nat) → List (Nat × Nat)) :
    unnoticed (modFabric (fun d => { d with sched := f d.sched }) s) = unnoticed s := rfl

theorem unnoticed_pump (k : Nat) : unnoticed (pump k s) = unnoticed s := by
  unfold pump; split <;> rfl

theorem unnoticed_enqueue (k : Nat) (n : Notice) : unnoticed (enqueue k n s) = unnoticed s := by
  simp only [enqueue]
  split
  · split
    · rw [unnoticed_pump, unnoticed_session]
    · split
      · rw [unnoticed_pump, unnoticed_session]; rfl
      · rfl
  · rfl

theorem unnoticed_notify (code cls kind source step tag : Nat) (params : List Nat) :
    unnoticed (notify code cls kind source step tag params s) = unnoticed s :=
  forAll_proj s unnoticed _ _ fun k s => unnoticed_enqueue s k _

theorem unnoticed_notice (code cls kind source : Nat) (params : List Nat) :
    unnoticed (notice code cls kind source params s) = unnoticed s := unnoticed_notify _ _ _ _ _ _ _ _

theorem unnoticed_engineNotice (code cls e : Nat) (params : List Nat) :
    unnoticed (engineNotice code cls e params s) = unnoticed s := unnoticed_notify _ _ _ _ _ _ _ _

/-- Two states that agree on the unnoticed parts agree on each field. -/
theorem unnoticed_fields {a b : State} (h : unnoticed a = unnoticed b) :
    a.dev.clock = b.dev.clock ∧ a.dev.dict = b.dev.dict ∧ a.dev.engines = b.dev.engines ∧ a.dev.lines = b.dev.lines ∧
    a.dev.outs = b.dev.outs ∧ a.dev.cmps = b.dev.cmps ∧ a.dev.senses = b.dev.senses ∧ a.dev.ring = b.dev.ring ∧ a.dev.store = b.dev.store ∧
    a.dev.scratch = b.dev.scratch ∧ a.dev.dram = b.dev.dram ∧ a.dev.cals = b.dev.cals ∧ a.dev.calSwaps = b.dev.calSwaps ∧
    a.dev.calLast = b.dev.calLast ∧ a.dev.lostCopies = b.dev.lostCopies ∧ a.dev.faults = b.dev.faults ∧ a.dev.power = b.dev.power ∧
    a.dev.fabric.counts = b.dev.fabric.counts ∧ a.dev.fabric.inputs = b.dev.fabric.inputs ∧ a.dev.fabric.trigs = b.dev.fabric.trigs ∧
    a.dev.fabric.timers = b.dev.fabric.timers ∧ a.dev.fabric.sw = b.dev.fabric.sw ∧ a.dev.fabric.swWrites = b.dev.fabric.swWrites ∧
    a.link.ports = b.link.ports ∧ a.link.ptpState = b.link.ptpState ∧ a.link.ptpOffset = b.link.ptpOffset ∧
    a.link.announce0 = b.link.announce0 ∧ a.link.announce1 = b.link.announce1 ∧ a.link.keys = b.link.keys ∧
    a.link.cargoBytes = b.link.cargoBytes ∧ a.link.cargoCrcFails = b.link.cargoCrcFails ∧ a.link.nonces = b.link.nonces ∧
    a.link.lastRefusal = b.link.lastRefusal ∧ a.undefined = b.undefined ∧ a.pending = b.pending ∧ a.link.sources = b.link.sources ∧
    a.ticked = b.ticked :=
  ⟨(congrArg Unnoticed.clock h),
   (congrArg Unnoticed.dict h),
   (congrArg Unnoticed.engines h),
   (congrArg Unnoticed.lines h),
   (congrArg Unnoticed.outs h),
   (congrArg Unnoticed.cmps h),
   (congrArg Unnoticed.senses h),
   (congrArg Unnoticed.ring h),
   (congrArg Unnoticed.store h),
   (congrArg Unnoticed.scratch h),
   (congrArg Unnoticed.dram h),
   (congrArg Unnoticed.cals h),
   (congrArg (fun u => u.swaps.1) h),
   (congrArg (fun u => u.swaps.2) h),
   (congrArg Unnoticed.lost h),
   (congrArg Unnoticed.faults h),
   (congrArg Unnoticed.power h),
   (congrArg (fun u => u.fabric.1) h),
   (congrArg (fun u => u.fabric.2.1) h),
   (congrArg (fun u => u.fabric.2.2.1) h),
   (congrArg (fun u => u.fabric.2.2.2.1) h),
   (congrArg (fun u => u.fabric.2.2.2.2.1) h),
   (congrArg (fun u => u.fabric.2.2.2.2.2) h),
   (congrArg (fun u => u.link.1) h),
   (congrArg (fun u => u.link.2.1) h),
   (congrArg (fun u => u.link.2.2.1) h),
   (congrArg (fun u => u.link.2.2.2.1) h),
   (congrArg (fun u => u.link.2.2.2.2.1) h),
   (congrArg (fun u => u.link.2.2.2.2.2.1) h),
   (congrArg (fun u => u.link.2.2.2.2.2.2.1) h),
   (congrArg (fun u => u.link.2.2.2.2.2.2.2.1) h),
   (congrArg (fun u => u.link.2.2.2.2.2.2.2.2.1) h),
   (congrArg (fun u => u.link.2.2.2.2.2.2.2.2.2.1) h),
   (congrArg (fun u => u.rest.1) h),
   (congrArg (fun u => u.rest.2.1) h),
   (congrArg (fun u => u.link.2.2.2.2.2.2.2.2.2.2) h),
   (congrArg (fun u => u.rest.2.2) h)⟩

/-- They agree on every unit and on every value that those fields hold. -/
theorem unnoticed_units {a b : State} (h : unnoticed a = unnoticed b) :
    a.engine = b.engine ∧ a.core = b.core ∧ a.line = b.line ∧ a.out = b.out ∧ a.cmp = b.cmp ∧ a.sense = b.sense ∧ a.input = b.input ∧
    a.trig = b.trig ∧ a.timer = b.timer ∧ a.seg = b.seg ∧ a.stream = b.stream ∧ a.bank = b.bank ∧ a.chan = b.chan ∧ a.cal = b.cal ∧
    a.port = b.port ∧ a.now = b.now ∧ a.time = b.time ∧ a.act = b.act ∧ a.stg = b.stg ∧ a.rwv = b.rwv ∧ a.grid = b.grid ∧
    a.gridE = b.gridE ∧ a.tickAt = b.tickAt ∧ a.usTick = b.usTick ∧ a.entry = b.entry :=
  by
  have hf := unnoticed_fields h
  refine ⟨?_, ?_, ?_, ?_, ?_, ?_, ?_, ?_, ?_, ?_, ?_, ?_, ?_, ?_, ?_, ?_, ?_, ?_, ?_, ?_, ?_, ?_, ?_, ?_, ?_⟩ <;> (try funext) <;>
    simp [State.engine, State.core, State.line, State.out, State.cmp, State.sense, State.input, State.trig, State.timer, State.seg,
      State.stream, State.bank, State.chan, State.cal, State.port, State.now, State.time, State.act, State.stg, State.rwv, State.grid,
      State.gridE, State.tickAt, State.usTick, State.entry, hf]

@[simp] theorem pump_fields (k : Nat) :
    (pump k s).dev.clock = s.dev.clock ∧ (pump k s).dev.dict = s.dev.dict ∧ (pump k s).dev.engines = s.dev.engines ∧
    (pump k s).dev.lines = s.dev.lines ∧ (pump k s).dev.outs = s.dev.outs ∧ (pump k s).dev.cmps = s.dev.cmps ∧
    (pump k s).dev.senses = s.dev.senses ∧ (pump k s).dev.ring = s.dev.ring ∧ (pump k s).dev.store = s.dev.store ∧
    (pump k s).dev.scratch = s.dev.scratch ∧ (pump k s).dev.dram = s.dev.dram ∧ (pump k s).dev.cals = s.dev.cals ∧
    (pump k s).dev.calSwaps = s.dev.calSwaps ∧ (pump k s).dev.calLast = s.dev.calLast ∧ (pump k s).dev.lostCopies = s.dev.lostCopies ∧
    (pump k s).dev.faults = s.dev.faults ∧ (pump k s).dev.power = s.dev.power ∧ (pump k s).dev.fabric.counts = s.dev.fabric.counts ∧
    (pump k s).dev.fabric.inputs = s.dev.fabric.inputs ∧ (pump k s).dev.fabric.trigs = s.dev.fabric.trigs ∧
    (pump k s).dev.fabric.timers = s.dev.fabric.timers ∧ (pump k s).dev.fabric.sw = s.dev.fabric.sw ∧
    (pump k s).dev.fabric.swWrites = s.dev.fabric.swWrites ∧ (pump k s).link.ports = s.link.ports ∧
    (pump k s).link.ptpState = s.link.ptpState ∧ (pump k s).link.ptpOffset = s.link.ptpOffset ∧
    (pump k s).link.announce0 = s.link.announce0 ∧ (pump k s).link.announce1 = s.link.announce1 ∧ (pump k s).link.keys = s.link.keys ∧
    (pump k s).link.cargoBytes = s.link.cargoBytes ∧ (pump k s).link.cargoCrcFails = s.link.cargoCrcFails ∧
    (pump k s).link.nonces = s.link.nonces ∧ (pump k s).link.lastRefusal = s.link.lastRefusal ∧ (pump k s).undefined = s.undefined ∧
    (pump k s).pending = s.pending ∧
    (pump k s).link.sources = s.link.sources ∧ (pump k s).ticked = s.ticked :=
  unnoticed_fields (unnoticed_pump s k)

@[simp] theorem pump_units (k : Nat) :
    (pump k s).engine = s.engine ∧ (pump k s).core = s.core ∧ (pump k s).line = s.line ∧ (pump k s).out = s.out ∧ (pump k s).cmp = s.cmp ∧
    (pump k s).sense = s.sense ∧ (pump k s).input = s.input ∧ (pump k s).trig = s.trig ∧ (pump k s).timer = s.timer ∧
    (pump k s).seg = s.seg ∧ (pump k s).stream = s.stream ∧ (pump k s).bank = s.bank ∧ (pump k s).chan = s.chan ∧ (pump k s).cal = s.cal ∧
    (pump k s).port = s.port ∧ (pump k s).now = s.now ∧ (pump k s).time = s.time ∧ (pump k s).act = s.act ∧ (pump k s).stg = s.stg ∧
    (pump k s).rwv = s.rwv ∧ (pump k s).grid = s.grid ∧ (pump k s).gridE = s.gridE ∧ (pump k s).tickAt = s.tickAt ∧
    (pump k s).usTick = s.usTick ∧ (pump k s).entry = s.entry :=
  unnoticed_units (unnoticed_pump s k)

@[simp] theorem notify_fields (code cls kind source step tag : Nat) (params : List Nat) :
    (notify code cls kind source step tag params s).dev.clock = s.dev.clock ∧
    (notify code cls kind source step tag params s).dev.dict = s.dev.dict ∧
    (notify code cls kind source step tag params s).dev.engines = s.dev.engines ∧
    (notify code cls kind source step tag params s).dev.lines = s.dev.lines ∧
    (notify code cls kind source step tag params s).dev.outs = s.dev.outs ∧
    (notify code cls kind source step tag params s).dev.cmps = s.dev.cmps ∧
    (notify code cls kind source step tag params s).dev.senses = s.dev.senses ∧
    (notify code cls kind source step tag params s).dev.ring = s.dev.ring ∧
    (notify code cls kind source step tag params s).dev.store = s.dev.store ∧
    (notify code cls kind source step tag params s).dev.scratch = s.dev.scratch ∧
    (notify code cls kind source step tag params s).dev.dram = s.dev.dram ∧
    (notify code cls kind source step tag params s).dev.cals = s.dev.cals ∧
    (notify code cls kind source step tag params s).dev.calSwaps = s.dev.calSwaps ∧
    (notify code cls kind source step tag params s).dev.calLast = s.dev.calLast ∧
    (notify code cls kind source step tag params s).dev.lostCopies = s.dev.lostCopies ∧
    (notify code cls kind source step tag params s).dev.faults = s.dev.faults ∧
    (notify code cls kind source step tag params s).dev.power = s.dev.power ∧
    (notify code cls kind source step tag params s).dev.fabric.counts = s.dev.fabric.counts ∧
    (notify code cls kind source step tag params s).dev.fabric.inputs = s.dev.fabric.inputs ∧
    (notify code cls kind source step tag params s).dev.fabric.trigs = s.dev.fabric.trigs ∧
    (notify code cls kind source step tag params s).dev.fabric.timers = s.dev.fabric.timers ∧
    (notify code cls kind source step tag params s).dev.fabric.sw = s.dev.fabric.sw ∧
    (notify code cls kind source step tag params s).dev.fabric.swWrites = s.dev.fabric.swWrites ∧
    (notify code cls kind source step tag params s).link.ports = s.link.ports ∧
    (notify code cls kind source step tag params s).link.ptpState = s.link.ptpState ∧
    (notify code cls kind source step tag params s).link.ptpOffset = s.link.ptpOffset ∧
    (notify code cls kind source step tag params s).link.announce0 = s.link.announce0 ∧
    (notify code cls kind source step tag params s).link.announce1 = s.link.announce1 ∧
    (notify code cls kind source step tag params s).link.keys = s.link.keys ∧
    (notify code cls kind source step tag params s).link.cargoBytes = s.link.cargoBytes ∧
    (notify code cls kind source step tag params s).link.cargoCrcFails = s.link.cargoCrcFails ∧
    (notify code cls kind source step tag params s).link.nonces = s.link.nonces ∧
    (notify code cls kind source step tag params s).link.lastRefusal = s.link.lastRefusal ∧
    (notify code cls kind source step tag params s).undefined = s.undefined ∧
    (notify code cls kind source step tag params s).pending = s.pending ∧
    (notify code cls kind source step tag params s).link.sources = s.link.sources ∧ (notify code cls kind source step tag params s).ticked = s.ticked :=
  unnoticed_fields (unnoticed_notify s code cls kind source step tag params)

@[simp] theorem notify_units (code cls kind source step tag : Nat) (params : List Nat) :
    (notify code cls kind source step tag params s).engine = s.engine ∧ (notify code cls kind source step tag params s).core = s.core ∧
    (notify code cls kind source step tag params s).line = s.line ∧ (notify code cls kind source step tag params s).out = s.out ∧
    (notify code cls kind source step tag params s).cmp = s.cmp ∧ (notify code cls kind source step tag params s).sense = s.sense ∧
    (notify code cls kind source step tag params s).input = s.input ∧ (notify code cls kind source step tag params s).trig = s.trig ∧
    (notify code cls kind source step tag params s).timer = s.timer ∧ (notify code cls kind source step tag params s).seg = s.seg ∧
    (notify code cls kind source step tag params s).stream = s.stream ∧ (notify code cls kind source step tag params s).bank = s.bank ∧
    (notify code cls kind source step tag params s).chan = s.chan ∧ (notify code cls kind source step tag params s).cal = s.cal ∧
    (notify code cls kind source step tag params s).port = s.port ∧ (notify code cls kind source step tag params s).now = s.now ∧
    (notify code cls kind source step tag params s).time = s.time ∧ (notify code cls kind source step tag params s).act = s.act ∧
    (notify code cls kind source step tag params s).stg = s.stg ∧ (notify code cls kind source step tag params s).rwv = s.rwv ∧
    (notify code cls kind source step tag params s).grid = s.grid ∧ (notify code cls kind source step tag params s).gridE = s.gridE ∧
    (notify code cls kind source step tag params s).tickAt = s.tickAt ∧ (notify code cls kind source step tag params s).usTick = s.usTick ∧
    (notify code cls kind source step tag params s).entry = s.entry :=
  unnoticed_units (unnoticed_notify s code cls kind source step tag params)

@[simp] theorem notice_fields (code cls kind source : Nat) (params : List Nat) :
    (notice code cls kind source params s).dev.clock = s.dev.clock ∧ (notice code cls kind source params s).dev.dict = s.dev.dict ∧
    (notice code cls kind source params s).dev.engines = s.dev.engines ∧ (notice code cls kind source params s).dev.lines = s.dev.lines ∧
    (notice code cls kind source params s).dev.outs = s.dev.outs ∧ (notice code cls kind source params s).dev.cmps = s.dev.cmps ∧
    (notice code cls kind source params s).dev.senses = s.dev.senses ∧ (notice code cls kind source params s).dev.ring = s.dev.ring ∧
    (notice code cls kind source params s).dev.store = s.dev.store ∧ (notice code cls kind source params s).dev.scratch = s.dev.scratch ∧
    (notice code cls kind source params s).dev.dram = s.dev.dram ∧ (notice code cls kind source params s).dev.cals = s.dev.cals ∧
    (notice code cls kind source params s).dev.calSwaps = s.dev.calSwaps ∧
    (notice code cls kind source params s).dev.calLast = s.dev.calLast ∧
    (notice code cls kind source params s).dev.lostCopies = s.dev.lostCopies ∧
    (notice code cls kind source params s).dev.faults = s.dev.faults ∧ (notice code cls kind source params s).dev.power = s.dev.power ∧
    (notice code cls kind source params s).dev.fabric.counts = s.dev.fabric.counts ∧
    (notice code cls kind source params s).dev.fabric.inputs = s.dev.fabric.inputs ∧
    (notice code cls kind source params s).dev.fabric.trigs = s.dev.fabric.trigs ∧
    (notice code cls kind source params s).dev.fabric.timers = s.dev.fabric.timers ∧
    (notice code cls kind source params s).dev.fabric.sw = s.dev.fabric.sw ∧
    (notice code cls kind source params s).dev.fabric.swWrites = s.dev.fabric.swWrites ∧
    (notice code cls kind source params s).link.ports = s.link.ports ∧
    (notice code cls kind source params s).link.ptpState = s.link.ptpState ∧
    (notice code cls kind source params s).link.ptpOffset = s.link.ptpOffset ∧
    (notice code cls kind source params s).link.announce0 = s.link.announce0 ∧
    (notice code cls kind source params s).link.announce1 = s.link.announce1 ∧
    (notice code cls kind source params s).link.keys = s.link.keys ∧
    (notice code cls kind source params s).link.cargoBytes = s.link.cargoBytes ∧
    (notice code cls kind source params s).link.cargoCrcFails = s.link.cargoCrcFails ∧
    (notice code cls kind source params s).link.nonces = s.link.nonces ∧
    (notice code cls kind source params s).link.lastRefusal = s.link.lastRefusal ∧
    (notice code cls kind source params s).undefined = s.undefined ∧ (notice code cls kind source params s).pending = s.pending ∧
    (notice code cls kind source params s).link.sources = s.link.sources ∧ (notice code cls kind source params s).ticked = s.ticked :=
  unnoticed_fields (unnoticed_notice s code cls kind source params)

@[simp] theorem notice_units (code cls kind source : Nat) (params : List Nat) :
    (notice code cls kind source params s).engine = s.engine ∧ (notice code cls kind source params s).core = s.core ∧
    (notice code cls kind source params s).line = s.line ∧ (notice code cls kind source params s).out = s.out ∧
    (notice code cls kind source params s).cmp = s.cmp ∧ (notice code cls kind source params s).sense = s.sense ∧
    (notice code cls kind source params s).input = s.input ∧ (notice code cls kind source params s).trig = s.trig ∧
    (notice code cls kind source params s).timer = s.timer ∧ (notice code cls kind source params s).seg = s.seg ∧
    (notice code cls kind source params s).stream = s.stream ∧ (notice code cls kind source params s).bank = s.bank ∧
    (notice code cls kind source params s).chan = s.chan ∧ (notice code cls kind source params s).cal = s.cal ∧
    (notice code cls kind source params s).port = s.port ∧ (notice code cls kind source params s).now = s.now ∧
    (notice code cls kind source params s).time = s.time ∧ (notice code cls kind source params s).act = s.act ∧
    (notice code cls kind source params s).stg = s.stg ∧ (notice code cls kind source params s).rwv = s.rwv ∧
    (notice code cls kind source params s).grid = s.grid ∧ (notice code cls kind source params s).gridE = s.gridE ∧
    (notice code cls kind source params s).tickAt = s.tickAt ∧ (notice code cls kind source params s).usTick = s.usTick ∧
    (notice code cls kind source params s).entry = s.entry :=
  unnoticed_units (unnoticed_notice s code cls kind source params)

@[simp] theorem engineNotice_fields (code cls e : Nat) (params : List Nat) :
    (engineNotice code cls e params s).dev.clock = s.dev.clock ∧ (engineNotice code cls e params s).dev.dict = s.dev.dict ∧
    (engineNotice code cls e params s).dev.engines = s.dev.engines ∧ (engineNotice code cls e params s).dev.lines = s.dev.lines ∧
    (engineNotice code cls e params s).dev.outs = s.dev.outs ∧ (engineNotice code cls e params s).dev.cmps = s.dev.cmps ∧
    (engineNotice code cls e params s).dev.senses = s.dev.senses ∧ (engineNotice code cls e params s).dev.ring = s.dev.ring ∧
    (engineNotice code cls e params s).dev.store = s.dev.store ∧ (engineNotice code cls e params s).dev.scratch = s.dev.scratch ∧
    (engineNotice code cls e params s).dev.dram = s.dev.dram ∧ (engineNotice code cls e params s).dev.cals = s.dev.cals ∧
    (engineNotice code cls e params s).dev.calSwaps = s.dev.calSwaps ∧ (engineNotice code cls e params s).dev.calLast = s.dev.calLast ∧
    (engineNotice code cls e params s).dev.lostCopies = s.dev.lostCopies ∧ (engineNotice code cls e params s).dev.faults = s.dev.faults ∧
    (engineNotice code cls e params s).dev.power = s.dev.power ∧
    (engineNotice code cls e params s).dev.fabric.counts = s.dev.fabric.counts ∧
    (engineNotice code cls e params s).dev.fabric.inputs = s.dev.fabric.inputs ∧
    (engineNotice code cls e params s).dev.fabric.trigs = s.dev.fabric.trigs ∧
    (engineNotice code cls e params s).dev.fabric.timers = s.dev.fabric.timers ∧
    (engineNotice code cls e params s).dev.fabric.sw = s.dev.fabric.sw ∧
    (engineNotice code cls e params s).dev.fabric.swWrites = s.dev.fabric.swWrites ∧
    (engineNotice code cls e params s).link.ports = s.link.ports ∧ (engineNotice code cls e params s).link.ptpState = s.link.ptpState ∧
    (engineNotice code cls e params s).link.ptpOffset = s.link.ptpOffset ∧
    (engineNotice code cls e params s).link.announce0 = s.link.announce0 ∧
    (engineNotice code cls e params s).link.announce1 = s.link.announce1 ∧ (engineNotice code cls e params s).link.keys = s.link.keys ∧
    (engineNotice code cls e params s).link.cargoBytes = s.link.cargoBytes ∧
    (engineNotice code cls e params s).link.cargoCrcFails = s.link.cargoCrcFails ∧
    (engineNotice code cls e params s).link.nonces = s.link.nonces ∧
    (engineNotice code cls e params s).link.lastRefusal = s.link.lastRefusal ∧ (engineNotice code cls e params s).undefined = s.undefined ∧
    (engineNotice code cls e params s).pending = s.pending ∧
    (engineNotice code cls e params s).link.sources = s.link.sources ∧ (engineNotice code cls e params s).ticked = s.ticked :=
  unnoticed_fields (unnoticed_engineNotice s code cls e params)

@[simp] theorem engineNotice_units (code cls e : Nat) (params : List Nat) :
    (engineNotice code cls e params s).engine = s.engine ∧ (engineNotice code cls e params s).core = s.core ∧
    (engineNotice code cls e params s).line = s.line ∧ (engineNotice code cls e params s).out = s.out ∧
    (engineNotice code cls e params s).cmp = s.cmp ∧ (engineNotice code cls e params s).sense = s.sense ∧
    (engineNotice code cls e params s).input = s.input ∧ (engineNotice code cls e params s).trig = s.trig ∧
    (engineNotice code cls e params s).timer = s.timer ∧ (engineNotice code cls e params s).seg = s.seg ∧
    (engineNotice code cls e params s).stream = s.stream ∧ (engineNotice code cls e params s).bank = s.bank ∧
    (engineNotice code cls e params s).chan = s.chan ∧ (engineNotice code cls e params s).cal = s.cal ∧
    (engineNotice code cls e params s).port = s.port ∧ (engineNotice code cls e params s).now = s.now ∧
    (engineNotice code cls e params s).time = s.time ∧ (engineNotice code cls e params s).act = s.act ∧
    (engineNotice code cls e params s).stg = s.stg ∧ (engineNotice code cls e params s).rwv = s.rwv ∧
    (engineNotice code cls e params s).grid = s.grid ∧ (engineNotice code cls e params s).gridE = s.gridE ∧
    (engineNotice code cls e params s).tickAt = s.tickAt ∧ (engineNotice code cls e params s).usTick = s.usTick ∧
    (engineNotice code cls e params s).entry = s.entry :=
  unnoticed_units (unnoticed_engineNotice s code cls e params)

/-! ### Frames and requests -/

/-- The arrival of a frame changes nothing of the device. -/
@[simp] theorem frameArrives_dev (sess port : Nat) : (frameArrives sess port s).dev = s.dev := by
  have pd : ∀ k s, (pump k s).dev = s.dev := fun k s => by unfold pump; split <;> rfl
  have sd : ∀ k s, (settleTimers k s).dev = s.dev := fun k s => by
    simp only [settleTimers]; split <;> (try split) <;> rfl
  simp [frameArrives, pd, sd]

/-- Nor does it change anything but the session. -/
theorem unnoticed_frameArrives (sess port : Nat) : unnoticed (frameArrives sess port s) = unnoticed s := by
  have sd : ∀ k s, unnoticed (settleTimers k s) = unnoticed s := fun k s => by
    simp only [settleTimers]; split <;> (try split) <;> rfl
  simp only [frameArrives, unnoticed_pump, sd, unnoticed_session]

@[simp] theorem respond_dev (r : Req) (code : Nat) (data : List Byte) : (respond r code data s).dev = s.dev := rfl

@[simp] theorem respond_frame (r : Req) (code : Nat) (data : List Byte) :
    (respond r code data s).undefined = s.undefined ∧ (respond r code data s).pending = s.pending ∧
    (respond r code data s).ticked = s.ticked ∧ (respond r code data s).link.ports = s.link.ports :=
  ⟨rfl, rfl, rfl, rfl⟩

theorem unnoticed_respond (r : Req) (code : Nat) (data : List Byte) : unnoticed (respond r code data s) = unnoticed s := rfl

/-- A response is the latest of its session. -/
@[simp] theorem respond_last (r : Req) (code : Nat) (data : List Byte) :
    ((respond r code data s).session r.sess).last = some (answerOf r code data s) := by
  simp [respond]

@[simp] theorem answerOf_code (r : Req) (code : Nat) (data : List Byte) :
    (answerOf r code data s).seq = r.seq ∧ (answerOf r code data s).code = code ∧ (answerOf r code data s).data = data ∧
    (answerOf r code data s).retransmit = false :=
  ⟨rfl, rfl, rfl, rfl⟩

theorem execute_ok (r : Req) (codes : State → List Nat) (eff : State → State) (data : State → List Byte) (h : lowest (codes s) = 0) :
    execute r codes eff data s = respond r 0 (data s) (eff s) := by
  simp [execute, h]

theorem execute_refused (r : Req) (codes : State → List Nat) (eff : State → State) (data : State → List Byte) (h : lowest (codes s) ≠ 0) :
    execute r codes eff data s = respond r (lowest (codes s)) [] s := by
  simp [execute, h]

/-- The lowest code is 0 only where every code is. -/
theorem lowest_eq_zero (l : List Nat) : lowest l = 0 ↔ ∀ c ∈ l, c = 0 := by
  have key : ∀ (l : List Nat) (m : Nat), l.foldl (fun m c => if c = 0 then m else if m = 0 then c else min m c) m = 0 ↔
      m = 0 ∧ ∀ c ∈ l, c = 0 := by
    intro l
    induction l with
    | nil => simp
    | cons c r ih =>
      intro m
      simp only [List.foldl_cons, ih, List.mem_cons, forall_eq_or_imp]
      split
      · rename_i h; simp [h]
      · rename_i h
        split
        · rename_i hm; simp [hm, h]
        · rename_i hm; have : min m c ≠ 0 := by omega
          simp [this, hm, h]
  simpa [lowest] using key l 0

/-- An operation that fails a check changes nothing of the device. -/
theorem execute_refused_dev (r : Req) (codes : State → List Nat) (eff : State → State) (data : State → List Byte) (c : Nat)
    (hc : c ∈ codes s) (h : c ≠ 0) : (execute r codes eff data s).dev = s.dev := by
  rw [execute_refused s r codes eff data fun h0 => h ((lowest_eq_zero _).1 h0 c hc)]; rfl

/-- A request repeated within the window is not executed: the device keeps what it holds (R349). -/
@[simp] theorem resend_dev (r : Req) (a : Response) : (resend r a s).dev = s.dev := rfl

end Sys2Proof.Machine
end

