-- ==== Sys2Proof/Laws/Time.lean ====
section
/-! SUPPORT. What the passing of time does: the clock, the fabric's past, the states kept at ticks, and hard parks that fall due. -/

namespace Sys2Proof.Machine

variable (s : State)

/-! ### Hard parks touch the outputs alone -/

/-- A state without its outputs. -/
def offOuts (s : State) : State := modDev (fun d => { d with outs := [] }) s

@[simp] theorem offOuts_modOut (c : Nat) (f : Out → Out) : offOuts (modOut c f s) = offOuts s := rfl

theorem offOuts_abandonSeq (n c : Nat) : offOuts (abandonSeq n c s) = offOuts s := by
  unfold abandonSeq; split
  · split <;> rfl
  · rfl

theorem offOuts_settleRange (c : Nat) : offOuts (settleRange c s) = offOuts s := rfl

theorem offOuts_hardPark (n c cause : Nat) : offOuts (hardPark n c cause s) = offOuts s := by
  unfold hardPark
  simp only
  split
  · rfl
  · split
    · split <;> rfl
    · rw [offOuts_settleRange, offOuts_modOut, offOuts_abandonSeq]

theorem offOuts_takePark (c : Nat) : offOuts (takePark c s) = offOuts s := by
  unfold takePark
  simp only
  split
  · split
    · rfl
    · split
      · rw [offOuts_modOut, offOuts_hardPark, offOuts_modOut]
      · rw [offOuts_hardPark, offOuts_modOut]
  · rfl

theorem offOuts_takeParks (l : List Nat) : offOuts (forAll l takePark s) = offOuts s :=
  forAll_proj s offOuts _ _ fun c s => offOuts_takePark s c

/-- States that agree off their outputs agree on every other part. -/
theorem offOuts_fields {a b : State} (h : offOuts a = offOuts b) :
    a.dev = { b.dev with outs := a.dev.outs } ∧ a.link = b.link ∧ a.undefined = b.undefined ∧ a.pending = b.pending ∧ a.ticked = b.ticked := by
  have hd := congrArg State.dev h
  have hl : (offOuts a).link = (offOuts b).link := congrArg State.link h
  have hu : (offOuts a).undefined = (offOuts b).undefined := congrArg State.undefined h
  have hp : (offOuts a).pending = (offOuts b).pending := congrArg State.pending h
  have ht : (offOuts a).ticked = (offOuts b).ticked := congrArg State.ticked h
  refine ⟨?_, hl, hu, hp, ht⟩
  have : ({ a.dev with outs := [] } : Device) = { b.dev with outs := [] } := hd
  calc a.dev = { ({ a.dev with outs := [] } : Device) with outs := a.dev.outs } := rfl
    _ = { b.dev with outs := a.dev.outs } := by rw [this]

/-! ### Time -/

@[simp] theorem clockTo_now (n : Nat) : (clockTo n s).now = n := rfl

/-- Time that passes changes the clock, the fabric's past and the states kept at ticks, and nothing else. -/
theorem clockTo_frame (n : Nat) :
    (clockTo n s).dev = { s.dev with
      clock := { s.dev.clock with n := n, timeAcc := s.dev.clock.timeAcc + s.dev.clock.timeRate * (n - s.dev.clock.n) },
      fabric := { s.dev.fabric with sched := (clockTo n s).dev.fabric.sched, counts := (clockTo n s).dev.fabric.counts } } ∧
    (clockTo n s).link = s.link ∧ (clockTo n s).undefined = s.undefined ∧ (clockTo n s).pending = s.pending :=
  ⟨rfl, rfl, rfl, rfl⟩

@[simp] theorem advanceTo_now (t : Nat) : (advanceTo t s).now = max s.now t := rfl

/-- With no hard park due, time only passes. -/
theorem advanceTo_quiet (t : Nat) (h : parkEdges (max s.now t) s = []) : advanceTo t s = clockTo (max s.now t) s := by
  simp [advanceTo, h, forAll]

theorem advance_plain (t : Nat) (h : s.dev.clock.numbering = .plain) : advance t s = advanceTo t s := by
  unfold advance; rw [h]

theorem advance_plain_now (t : Nat) (h : s.dev.clock.numbering = .plain) : (advance t s).now = max s.now t := by
  rw [advance_plain s t h, advanceTo_now]

/-- Where no commit applies at the edge, a command finds the state that time has brought. -/
theorem reach_eq_advance (t : Nat) (h : commitsHere (advance t s) = false) : reach t s = advance t s := by
  simp [reach, h]

theorem reach_eq_applied (t : Nat) (h : commitsHere (advance t s) = true) : reach t s = applyCommit (advance t s) := by
  simp [reach, h]

@[simp] theorem occurs_true (c : State → Bool) (f : State → State) (h : c s = true) : occurs c f s = f s := by simp [occurs, h]
@[simp] theorem occurs_false (c : State → Bool) (f : State → State) (h : c s = false) : occurs c f s = s := by simp [occurs, h]

end Sys2Proof.Machine
end

