-- ==== Sys2Proof/Machine/Frames.lean ====
section
/-! DEFINITION. Skeim frames byte by byte (R342, R345 to R347, Tables 13-1 to 13-8): the command that a UDP datagram spells, and the frames that
the device sends. A frame's command waits in the queue like any other; its MAC is judged when the frame arrives. (DEDUCED, log 59.) -/

namespace Sys2Proof.Machine

/-- The number in `n` bytes at byte `a` of a payload. -/
def field (b : List Byte) (a n : Nat) : Nat := leVal ((b.drop a).take n)

/-! ### Frames that arrive -/

/-- A Skeim frame, taken apart (Table 13-1). -/
structure Frame where
  type_ : Nat
  session : Nat
  staged : Bool
  view : Option (Fin 4)
  seq : Nat
  /-- Header and payload, which the MAC covers. -/
  body : List Byte
  payload : List Byte
  mac : List Byte
  deriving DecidableEq, Repr

/-- A UDP payload as a frame; none for a wrong MAGIC, VERSION or LENGTH, or a reserved TYPE (R346). -/
def parseFrame (b : List Byte) : Option Frame :=
  let n := b.length - 48
  let flags := field b 5 1
  if b.length < 48 || field b 0 2 != 0x4B53 || field b 2 1 != 1 || field b 6 2 != n || field b 3 1 == 0 || 11 < field b 3 1 then none
  else some {
    type_ := field b 3 1, session := field b 4 1, staged := bit flags 0, view := if bit flags 1 then some (Fin.ofNat 4 (bits flags 3 2)) else none,
    seq := field b 8 4, body := b.take (16 + n), payload := (b.drop 16).take n, mac := b.drop (16 + n) }

/-- The command of a REQUEST (Table 13-3). `imageOk`: does an image that it closes pass the check of R482? -/
def requestCommand (t : Nat) (r : Req) (imageOk : Bool) (p : List Byte) : Instr :=
  let sub := field p 1 1
  let index := field p 2 2
  let offset := field p 4 8
  let d := p.drop 16
  let bad := Instr.registerWrite t r index sub offset .malformed
  if p.length < 16 then bad
  else match field p 0 1 with
    | 1 => if d.isEmpty then .registerWrite t r index sub offset (.read (field p 12 2)) else bad
    | 2 => .registerWrite t r index sub offset (.write d)
    | 3 => if d.length = 12 then .cargoOpenWrite t r index sub offset (field d 0 8) (field d 8 4) else bad
    | 4 => if d.length = 12 then .cargoOpenRead t r index sub offset (field d 0 8) (field d 8 4) else bad
    | 5 => if d.length = 8 then .cargoClose t r (field d 0 2) (field d 4 4) imageOk else bad
    | _ => bad

/-- The key of a frame's MAC (Table 13-2): none for an OPEN. -/
def macHolds (s : State) (f : Frame) : Bool :=
  if f.type_ = 7 then f.mac.all (· == 0) else f.mac == hmacSha256 (sessionKey s f.session) f.body

/-- Does the frame's SESSION name one that the device knows: 0 for an OPEN, one with a CHALLENGE or an open one for the rest? -/
def sessionKnown (s : State) (f : Frame) : Bool :=
  if f.type_ = 7 then f.session == 0
  else 1 ≤ f.session && f.session ≤ 8 && ((s.session f.session).isOpen || (s.session f.session).challenged)

/-- The command that a frame spells on port `port`; none for a TYPE that only the device sends, or a payload that is not the TYPE's (R346).
(DEDUCED, log 59.) -/
def frameCommand (t : Nat) (port : Fin 2) (ok imageOk : Bool) (f : Frame) : Option Instr :=
  let p := f.payload
  let k := f.session
  match f.type_ with
  | 1 => some (requestCommand t { sess := k, seq := f.seq, port := port, macOk := ok, view := f.view, staged := f.staged } imageOk p)
  | 4 => if p.length = 4 then some (.ack t port k ok (field p 0 4)) else none
  | 5 => if 16 ≤ p.length then some (.cargoData t port k ok (field p 0 2) (field p 4 8) (field p 12 4) (p.drop 16)) else none
  | 6 => if p.length = 20 then some (.cargoAck t port k ok (field p 0 2) (field p 4 8) (field p 12 4) (field p 16 4)) else none
  | 7 => if p.length = 20 then some (.open_ t port ok (field p 0 1) { role := field p 1 1, hostNonce := field p 4 16 }) else none
  | 9 => if p.isEmpty then some (.confirm t port k ok) else none
  | 10 => if p.isEmpty then some (.keepalive t port k ok) else none
  | 11 => if p.isEmpty then some (.close t port k ok) else none
  | _ => none

/-- A UDP datagram for port `dst` arrives at edge `t` on port `port`: what it spells waits in the queue, and the source of an authenticated frame of a
session is kept for its notices and cargo (R342). Tagged twice, in fragments, for another UDP port, or no frame of a known session: discarded. -/
def receive (t : Nat) (port : Fin 2) (net : NetFrame) (dst : Nat) (imageOk : Bool) (b : List Byte) (s : State) : State :=
  match parseFrame b with
  | none => s
  | some f =>
    if !frameTaken net || dst != (s.port port).cfg.udp || !sessionKnown s f then s
    else
      let ok := macHolds s f
      match frameCommand t port ok imageOk f with
      | none => s
      | some c =>
        let s := if ok && f.type_ != 7 then modLink (fun l => { l with sources := tset (2 * f.session + port) net.src l.sources }) s else s
        { s with pending := s.pending ++ [c] }

/-! ### Frames that the device sends -/

/-- Header and payload (Table 13-1). -/
def frameBody (type_ session flags seq : Nat) (payload : List Byte) : List Byte :=
  leBytes 2 0x4B53 ++ leBytes 1 1 ++ leBytes 1 type_ ++ leBytes 1 session ++ leBytes 1 flags ++ leBytes 2 payload.length ++ leBytes 4 seq ++
  leBytes 4 0 ++ payload

/-- A frame with its MAC under SK of session `k`. -/
def sealFrame (s : State) (type_ k flags seq : Nat) (payload : List Byte) : List Byte :=
  let b := frameBody type_ k flags seq payload
  b ++ hmacSha256 (sessionKey s k) b

/-- RETRANSMIT of byte 5. -/
def retransmit (b : Bool) : Nat := 16 * b2n b

/-- The payload of a RESPONSE (Table 13-4). -/
def responsePayload (a : Response) : List Byte := leBytes 4 a.code ++ leBytes 8 a.epoch ++ leBytes 4 0 ++ a.data

/-- A RESPONSE of session `k`. -/
def responseFrame (s : State) (k : Nat) (a : Response) : List Byte := sealFrame s 2 k (retransmit a.retransmit) a.seq (responsePayload a)

/-- The RESPONSE that refuses an OPEN: on SESSION 0, SEQ 0, with a MAC of zeros (R352). -/
def refusalFrame (s : State) : List Byte :=
  frameBody 2 0 0 0 (leBytes 4 s.link.lastRefusal ++ leBytes 8 s.dev.dict.commit.epoch ++ leBytes 4 0) ++ List.replicate 32 0

/-- The CHALLENGE of session `k` (Table 13-5). -/
def challengeFrame (s : State) (k : Nat) : List Byte :=
  sealFrame s 8 k 0 0 (leBytes 1 k ++ leBytes 3 0 ++ leBytes 16 (Config.deviceNonce (s.session k).nonce))

/-- The payload of a NOTICE (Table 13-6). -/
def noticePayload (n : Notice) : List Byte :=
  leBytes 2 n.code ++ leBytes 1 n.cls ++ leBytes 1 n.kind ++ leBytes 2 n.source ++ leBytes 2 0 ++ leBytes 8 n.time ++ leBytes 8 n.n ++
  leBytes 4 n.step ++ leBytes 4 n.tag ++ (List.range 5).flatMap fun i => leBytes 8 (n.params.getD i 0)

/-- A NOTICE of session `k`, once it has its SEQ. -/
def noticeFrame (s : State) (k : Nat) (n : Notice) : Option (List Byte) :=
  n.sent.map fun q => sealFrame s 3 k (retransmit (q.2.2 != 0)) q.1 (noticePayload n)

/-- The CARGO_ACK that session `k` has sent latest (Table 13-8). -/
def cargoAckFrame (s : State) (k : Nat) : Option (List Byte) :=
  (s.session k).cargoAck.map fun a =>
    sealFrame s 6 k 0 0 (leBytes 2 a.1 ++ leBytes 2 0 ++ leBytes 8 a.2.1 ++ leBytes 4 a.2.2.1 ++ leBytes 4 a.2.2.2)

/-- The CARGO_DATA of a read at position `p` (Table 13-8). -/
def cargoDataFrame (s : State) (k : Nat) (a : Transfer) (p : Nat) : List Byte :=
  let d := mgets 0 p (min a.segSize (a.total - p)) a.bytes
  sealFrame s 5 k 0 0 (leBytes 2 a.num ++ leBytes 2 0 ++ leBytes 8 p ++ leBytes 4 (crc32c d) ++ d)

/-- The port on which notices and CARGO_ACKs of session `k` leave, and where they go (R342, R363). -/
def noticePort (s : State) (k : Nat) : Nat := (s.session k).activePort
def noticeTarget (s : State) (k : Nat) : Option Source := (s.link.sources.find? fun p => p.1 == 2 * k + noticePort s k).map Prod.snd

end Sys2Proof.Machine
end

