-- ==== Sys2Proof/WellFormed.lean ====
section
/-! DEFINITION. Well-formed commands: every operand fits the field that the spec gives it. The model's meanings are total and ask for
none of this; a well-formed command is one that the outside can send. -/

namespace Sys2Proof

/-- An unsigned number of `w` bits. -/
def uOk (w v : Nat) : Bool := decide (v < 2 ^ w)

/-- SESSION, 1 to 8 (Table 13-1). -/
def sessOk (k : Nat) : Bool := decide (1 ≤ k) && decide (k ≤ 8)

/-- SESSION and SEQ of a REQUEST (Table 13-1, R349). -/
def reqOk (r : Req) : Bool := sessOk r.sess && uOk 32 r.seq

/-- A position of a ring (R291). -/
def posOk (x : Nat) : Bool := uOk 3 x

/-- A ring of at most eight positions (R292). -/
def foundOk : Discovery → Bool
  | .found f => f.positions.all posOk && decide (f.positions.length ≤ 8)
  | _ => true

/-- A ring of two to eight modules that one may join (R303). -/
def joinOk (f : JoinFacts) : Bool := decide (2 ≤ f.size) && decide (f.size ≤ 8) && uOk 8 f.members

/-- A Hawser lane that is lost: one of the module's own, or the last of a link of another position (R311). -/
def siteOk : LaneSite → Bool
  | .own _ => true
  | .away pos => posOk pos

/-- DATA of a REQUEST: a 16-bit COUNT, or bytes of at most one frame (Tables 13-1 and 13-3). -/
def accessOk : Access → Bool
  | .read count => uOk 16 count
  | .write data => decide (data.length ≤ 65535)
  | .malformed => true

/-- A command that waits at a DRAM controller: its bank and row (Table 14-1). -/
def dramCmdOk (c : DramCmd) : Bool := uOk 4 c.bank && uOk 18 c.row

/-- An access that waits at port A: its master code and word (Table 15-1, R403). -/
def portAOk (x : PortA) : Bool := uOk 8 x.master && uOk 16 x.word

/-- A DRAM address (Table 14-5): bank, row, column, store byte address and syndrome. -/
def addrOk (a : DramAddr) : Bool := uOk 4 a.bank && uOk 18 a.row && uOk 6 a.col && uOk 64 a.addr && uOk 32 a.syndrome

/-- A row of a scratchpad bank (R412): bank and row. -/
def rowOk (x : Nat × Nat) : Bool := uOk 7 x.1 && uOk 10 x.2

/-- The position of a member that sends READY (R306). -/
def readyOk (x : ReadyReport) : Bool := uOk 3 x.pos

/-- Every operand of the command fits its field. -/
def Instr.wf : Instr → Bool
  | .pornRelease _ _ _ _ _ => true
  | .pornAssert _ _ => true
  | .eclkLock _ _ badRows badDram => badRows.all rowOk && badDram.all fun m => decide (m < 6)
  | .dictionaryReady _ us => uOk 32 us
  | .engineCmdArm _ r _ hi => reqOk r && uOk 24 hi
  | .engineCmdStart _ r _ hi => reqOk r && uOk 24 hi
  | .engineCmdAbort _ r _ hi => reqOk r && uOk 24 hi
  | .engineCmdResume _ r _ hi => reqOk r && uOk 24 hi
  | .engineCmdDisarm _ r _ hi => reqOk r && uOk 24 hi
  | .engineCmdReset _ r _ hi => reqOk r && uOk 24 hi
  | .engineCmdAction _ _ => true
  | .taskInputEvent _ _ _ => true
  | .immediateJump _ _ => true
  | .startByEvent _ _ => true
  | .waitSelRelease _ _ => true
  | .holdIn _ _ => true
  | .holdTakesEffect _ _ => true
  | .release _ _ => true
  | .releaseDeadTime _ _ => true
  | .abortInput _ _ => true
  | .abortTakesEffect _ _ => true
  | .rateStep _ _ => true
  | .rateStepApplication _ _ => true
  | .decisionPoint _ _ => true
  | .codeFormation _ _ => true
  | .underrun _ _ => true
  | .outputTick _ _ f => uOk 8 f.late && uOk 32 f.det
  | .lateEntryArrival _ _ => true
  | .liveIndexRead _ _ => true
  | .dramReadComplete _ _ _ a _ _ arrived => addrOk a && arrived.all dramCmdOk
  | .engineFaultDetected _ _ _ block => uOk 7 block
  | .takeoverResume _ _ => true
  | .checkpoint _ => true
  | .checkpointConfirmed _ => true
  | .carrierPeriodStart _ _ tap => uOk 6 tap
  | .carrierTarget _ _ tap _ => uOk 6 tap
  | .followEdge _ _ tap => uOk 6 tap
  | .fire _ _ => true
  | .patternStart _ _ => true
  | .patternBit _ _ tap => uOk 6 tap
  | .oneshotRise _ _ tap => uOk 6 tap
  | .oneshotFall _ _ tap => uOk 6 tap
  | .comparatorTransition _ _ _ _ => true
  | .tripClear _ r _ v => reqOk r && uOk 8 v
  | .blankingEnd _ _ => true
  | .enableSequenceStep _ _ => true
  | .softParkStep _ _ => true
  | .rangeChangeStep _ _ => true
  | .supervisionFlag _ _ _ => true
  | .supClear _ r _ v => reqOk r && uOk 8 v
  | .outRestart _ r _ v det => reqOk r && uOk 8 v && uOk 3 det
  | .outRestartAction _ _ det => uOk 3 det
  | .monitorSlot _ _ _ => true
  | .monitorResult _ _ => true
  | .armEdge _ _ _ => true
  | .thCheckPeriodic _ => true
  | .thCheckReq _ r _ v => reqOk r && uOk 8 v
  | .cmpClearLatch _ r _ => reqOk r
  | .cmpClearInBand _ r _ => reqOk r
  | .cmpClearForce _ r _ => reqOk r
  | .trigInputTransition _ _ _ => true
  | .trigOutputEvent _ _ => true
  | .trigPulseEnd _ _ => true
  | .timerFire _ _ => true
  | .tmrStart _ _ => true
  | .tmrHalt _ _ => true
  | .swEvent _ r v => reqOk r && uOk 64 v
  | .swEventAssert _ => true
  | .hawserOutboundEvent _ _ => true
  | .hawserInboundEvent _ _ => true
  | .hawserCellSend _ => true
  | .hawserCell _ _ _ _ body crc => body.length == 47 && uOk 16 crc
  | .hawserLaneLost _ _ lane => siteOk lane
  | .ringDiscovery _ d => foundOk d
  | .ringJoin _ _ master f => posOk master && joinOk f
  | .alignTracking _ f => uOk 8 f.members
  | .newTimingMaster _ reachable => uOk 8 reachable
  | .syncEdge _ => true
  | .syncMiss _ => true
  | .syncRealign _ r v _ => r.all reqOk && uOk 8 v
  | .refclkLoss _ => true
  | .refclkReturn _ _ => true
  | .refclkRelocked _ => true
  | .ptpMessage _ _ _ => true
  | .registerWrite _ r index sub offset a => reqOk r && uOk 16 index && uOk 8 sub && uOk 64 offset && accessOk a
  | .commitReq _ r v => reqOk r && uOk 32 v
  | .commitCheckDone _ => true
  | .pilotRefillDone _ _ _ => true
  | .commitTick _ => true
  | .stageDiscard _ r v => reqOk r && uOk 8 v
  | .ringCommitRequest _ r v => reqOk r && uOk 32 v
  | .prepare _ _ whenSel _ => uOk 32 whenSel
  | .ready _ _ rep => readyOk rep
  | .failReply _ _ pos code => uOk 3 pos && uOk 32 code
  | .apply _ _ _ => true
  | .discard _ _ code => uOk 32 code
  | .ringCommitTimeout _ => true
  | .viewOpen _ r v => reqOk r && uOk 8 v
  | .viewClose _ r v => reqOk r && uOk 8 v
  | .viewTimeout _ sess _ => sessOk sess
  | .segDefine _ r offset data => reqOk r && uOk 64 offset && decide (data.length ≤ 65535)
  | .segDelete _ r n => reqOk r && uOk 16 n
  | .segVerify _ r n => reqOk r && uOk 16 n
  | .segmentVerified _ _ => true
  | .open_ _ _ _ keySlot ask => uOk 8 keySlot && uOk 8 ask.role && uOk 128 ask.hostNonce
  | .confirm _ _ sess _ => sessOk sess
  | .keepalive _ _ sess _ => sessOk sess
  | .close _ _ sess _ => sessOk sess
  | .sessionTimeout _ sess => sessOk sess
  | .ack _ _ sess _ acked => sessOk sess && uOk 32 acked
  | .noticeRetransmit _ sess seq => sessOk sess && uOk 32 seq
  | .cargoOpenWrite _ r index sub offset total segSize => reqOk r && uOk 16 index && uOk 8 sub && uOk 64 offset && uOk 64 total && uOk 32 segSize
  | .cargoOpenRead _ r index sub offset total segSize => reqOk r && uOk 16 index && uOk 8 sub && uOk 64 offset && uOk 64 total && uOk 32 segSize
  | .cargoClose _ r transfer crc _ => reqOk r && uOk 16 transfer && uOk 32 crc
  | .cargoData _ _ sess _ transfer position crc data => sessOk sess && uOk 16 transfer && uOk 64 position && uOk 32 crc && decide (data.length ≤ 8192)
  | .cargoAck _ _ sess _ transfer acked window abort => sessOk sess && uOk 16 transfer && uOk 64 acked && uOk 32 window && uOk 32 abort
  | .cargoResend _ sess transfer => sessOk sess && uOk 16 transfer
  | .cargoIdleTimeout _ sess transfer => sessOk sess && uOk 16 transfer
  | .portLoss _ _ => true
  | .portReturn _ _ _ _ => true
  | .addressResolution _ _ => true
  | .echoRequest _ _ => true
  | .keySlotWrite _ r _ offset data => reqOk r && uOk 64 offset && decide (data.length ≤ 65535)
  | .keyRightsWrite _ r v => reqOk r && uOk 8 v
  | .dramFreeze _ _ cause a => decide (1 ≤ cause) && decide (cause ≤ 4) && addrOk a
  | .dchRelease _ r _ v => reqOk r && uOk 8 v
  | .freezeAutoRelease _ _ => true
  | .dramReinitDone _ _ _ => true
  | .resilverDone _ _ _ => true
  | .dramTrainReq _ r v => reqOk r && uOk 8 v
  | .mr4Read _ _ _ _ => true
  | .refreshDue _ _ bank => uOk 4 bank
  | .rowCounterWindow _ _ => true
  | .scrub _ _ _ a => addrOk a
  | .retrainDrainDone _ _ => true
  | .retrainSweepDone _ _ set => set.all fun b => b.length == 64
  | .retrainRetestDone _ _ _ => true
  | .retrainReplayDone _ _ _ => true
  | .berthRead _ _ word portA flipped => uOk 16 word && portA.all portAOk && flipped.all (uOk 5)
  | .berthWrite _ _ word _ portA _ => uOk 16 word && portA.all portAOk
  | .berthStatusClear _ _ => true
  | .berthHandover _ _ => true
  | .handoverTakesEffect _ => true
  | .sendDoorbellNotice _ _ => true
  | .berthTimeRead _ => true
  | .berthDoorbell _ r v => reqOk r && uOk 32 v
  | .marchPreserving _ r v => reqOk r && uOk 32 v
  | .marchDestructive _ r v => reqOk r && uOk 32 v
  | .marchWindowBorrow _ => true
  | .marchWindowRelease _ _ failBit => failBit.all (uOk 22)
  | .marchDone _ failBit => failBit.all (uOk 22)
  | .bankRetention _ _ => true
  | .bankWake _ _ => true
  | .calTempRead _ _ temps => temps.length == 8
  | .calElementMeasured _ _ _ => true
  | .elementSubstitution _ _ => true
  | .calPassEnd _ _ _ => true
  | .calSwap _ => true
  | .calRecordWritten _ _ => true
  | .calReq _ r v => reqOk r && uOk 64 v
  | .mgmtMismatch _ _ => true
  | .mgmtRecovered _ => true
  | .quayLinkWatchdog _ _ => true
  | .quayDieFault _ _ channels => uOk 8 channels
  | .fatal _ cause location => uOk 64 cause && uOk 64 location
  | .replacementRequestRepeat _ => true
  | .faultLogClear _ r v => reqOk r && uOk 8 v
  | .railWarning _ _ _ => true
  | .railRecovery _ _ _ => true
  | .braceClear _ => true
  | .supplyReset _ _ => true
  | .analogRailReset _ _ _ => true
  | .analogRailRestart _ => true
  | .tempRead _ temps => temps.all fun x => uOk 4 x.1
  | .restartNormal _ r => reqOk r
  | .restartMooring _ r => reqOk r
  | .softwareReset _ => true
  | .refclkWaitTimeout _ => true
  | .supplyResetRestart _ _ _ => true
  | .hawserLinkRejoin _ link otherMaster members => posOk link && posOk otherMaster && uOk 8 members

end Sys2Proof
end

