-- ==== Sys2Proof/Tests/Slice0.lean ====
section
/-! SUPPORT. Tests: the smoke test of WellFormed, a witness for the hypotheses of every statement, and values taken from the spec's own
examples and tables. -/

namespace Sys2Proof.Tests

open Sys2Proof Sys2Proof.Machine

/-! ### Helpers: small states, and the witnesses' common parts -/

/-- Objects take a value in both copies. -/
def put (index sub v : Nat) : State → State :=
  modDict fun d => { d with active := putVal index sub v d.active, staged := putVal index sub v d.staged }

/-- N is `n`. -/
def atN (n : Nat) : State → State := modClock fun c => { c with n := n }

/-- After reset, with session 1 open as the harbourmaster and session 2 as an observer. -/
def base : State :=
  modSession 2 (fun x => { x with isOpen := true, bound0 := true })
    (modSession 1 (fun x => { x with isOpen := true, role := 1, bound0 := true }) State.reset)

/-- A first request of session `k`. -/
def ask (k : Nat) : Req := { sess := k, seq := 1, port := 0, macOk := true, view := none, staged := false }

/-- Slot A of input `i` selects line `l`, which was asserted at the edge before `n`; N is `n`. -/
def eventAt (n i l : Nat) (s : State) : State :=
  atN n (assertLine (n - 1) l (put (slotObj i).1 (slotObj i).2 (0x400800 + l) s))

/-- Step entry `i` holds the little-endian words `ws`, in both copies. -/
def entryIs (i : Nat) (ws : List Nat) : State → State :=
  modDict fun d =>
    let m := mputs 0 (64 * i) (ws.flatMap (leBytes 4)) d.stepsActive
    { d with stepsActive := m, stepsStaged := m, stepWritten := [i] }

/-- State of engine 0. -/
def eng (st : EState) (f : EngCore → EngCore) : State → State := modCore 0 fun c => f { c with st := st }

/-- Channel 0 stays enabled. -/
def on0 : State → State := modOut 0 fun o => { o with enabled := true, parkSwitch := false, amp := true, parkCause := 0 }

/-! ### Well-formed commands: each check refuses an ill-formed term -/

theorem test_wf_ok : (Instr.commitReq 0 (ask 1) 0).wf = true := by decide
theorem test_wf_session_zero : (Instr.commitReq 0 (ask 0) 0).wf = false := by decide
theorem test_wf_session_nine : (Instr.close 0 0 9 true).wf = false := by decide
theorem test_wf_seq : (Instr.commitReq 0 { ask 1 with seq := 4294967296 } 0).wf = false := by decide
theorem test_wf_value : (Instr.supClear 0 (ask 1) 0 256).wf = false := by decide
theorem test_wf_hi : (Instr.engineCmdArm 0 (ask 1) 0 16777216).wf = false := by decide
theorem test_wf_tap : (Instr.carrierPeriodStart 0 0 64).wf = false := by decide
theorem test_wf_cell : (Instr.hawserCell 0 false 0 0 (List.replicate 46 0) 0).wf = false := by decide
theorem test_wf_address : (Instr.scrub 0 0 .clean { bank := 16, row := 0, col := 0, addr := 0, syndrome := 0 }).wf = false := by decide
theorem test_wf_arrived : (Instr.dramReadComplete 0 0 .clean { bank := 0, row := 0, col := 0, addr := 0, syndrome := 0 } none 0
    [{ op := .write, bank := 16, row := 0, bytes := 32 }]).wf = false := by decide
theorem test_wf_row : (Instr.eclkLock 0 true [(0, 1024)] []).wf = false := by decide
theorem test_wf_channel : (Instr.eclkLock 0 true [] [6]).wf = false := by decide
theorem test_wf_cause : (Instr.dramFreeze 0 0 5 { bank := 0, row := 0, col := 0, addr := 0, syndrome := 0 }).wf = false := by decide
theorem test_wf_set : (Instr.retrainSweepDone 0 0 (some [])).wf = false := by decide
theorem test_wf_flipped : (Instr.berthRead 0 0 0 [] [32]).wf = false := by decide
theorem test_wf_fail_bit : (Instr.marchDone 0 (some 4194304)).wf = false := by decide
theorem test_wf_temps : (Instr.calTempRead 0 0 []).wf = false := by decide
theorem test_wf_die : (Instr.tempRead 0 [(16, 0)]).wf = false := by decide
theorem test_wf_ready : (Instr.ready 0 0
    { pos := 8, reach := [], drives := [], equalise := false, changesEqualise := false, slowest := 20, aligned := true }).wf = false := by decide
theorem test_wf_detectors : (Instr.outputTick 0 0 { late := 0, det := 4294967296 }).wf = false ∧ (Instr.outRestart 0 (ask 1) 0 1 8).wf = false := by decide
theorem test_wf_port_a : (Instr.berthWrite 0 0 0 0 [{ master := 0x41, march := false, word := 65536, op := .read }] 0).wf = false := by decide
/-- Three modules around the ring, this one at position 0; and the same ring, running, as one that joins finds it. -/
def found3 : RingFacts := { positions := [0, 1, 2], eastTrip := 0, westTrip := 0, offset := 0, masterSync := false, marker := none }
def join3 : JoinFacts :=
  { size := 3, members := 3, masterSync := false, eastTrip := some 0, westTrip := some 0 }
theorem test_wf_found : (Instr.ringDiscovery 0 (.found { found3 with positions := [8] })).wf = false := by decide
theorem test_wf_join : (Instr.ringJoin 0 8 0 { join3 with size := 9 }).wf = false := by decide
theorem test_wf_site : (Instr.hawserLaneLost 0 false (.away 8)).wf = false := by decide
theorem test_wf_count : (Instr.registerWrite 0 (ask 1) 0x2100 1 0 (.read 65536)).wf = false := by decide
theorem test_wf_data : (Instr.segDefine 0 (ask 1) 0 (List.replicate 65536 0)).wf = false := by decide +kernel
theorem test_wf_nonce : (Instr.open_ 0 0 true 0 { role := 1, hostNonce := 2 ^ 128 }).wf = false := by decide

/-! ### Witnesses: the hypotheses of every statement, clause by clause, are met -/

theorem test_witness_steps : step { base with pending := [.keepalive 0 0 1 true, .checkpoint 0] } =
    exec (.keepalive 0 0 1 true) { base with pending := [.checkpoint 0] } ∧ State.reset.pending = [] := ⟨rfl, rfl⟩
theorem test_witness_MemoriesStayCanonical : MemoriesCanonical (entryIs 3 [1, 2] base) := by decide
theorem test_witness_TimePassesAlone : (advance 7 base).now = 7 ∧ base.dev.clock.numbering = .plain := by decide
theorem test_witness_InputsRegister : ((eventAt 10 8 5 base).input 8).lastReg ≠ some 10 ∧
    (registerInput 8 (eventAt 10 8 5 base)).2 = true := by decide
theorem test_witness_TrigBalls :
    trigOut (advance 0 (put 0x4010 1 2 base)) 0 = false ∧ edgeSelects (trigCfg (put 0x4010 1 2 base) 0) true = true ∧
    trigOut (put 0x4010 1 1 (eventAt 10 1024 5 base)) 0 = true ∧
    (registerInput 1024 (advance 0 (put 0x4010 1 1 (eventAt 10 1024 5 base)))).2 = true := by decide
theorem test_witness_TrigBalls_input : let u := modTrig 0 (fun x => { x with inputAt := some 9 }) (put 0x4010 1 2 (atN 10 base))
    (u.trig 0).inputAt = some 9 ∧ 9 < u.now ∧ (modTrig 0 (fun x => { x with inputAt := some 10 }) u |>.trig 0).inputAt = some 10 ∧
    (base.trig 0).inputAt = none ∧ (base.trig 0).level ≠ true := by decide
theorem test_witness_TrigPulseEnd :
    ∃ n, ((advance 9 (modTrig 31 (fun x => { x with pulseEnd := some 9 }) base)).trig 31).pulseEnd = some n ∧ n ≤ 9 := ⟨9, by decide⟩
theorem test_witness_Timers_start : let u := advance 0 (put 0x4040 1 2 (eventAt 10 1056 5 base))
    (registerInput 1056 u).2 = true ∧ (u.timer 0).st ≠ 2 ∧ inputEvent u 1120 = false ∧ tmrMode u 0 = 2 := by decide
theorem test_witness_Timers_periodic : let u := advance 0 (put 0x407F 1 1 (eventAt 10 1119 5 base))
    (registerInput 1119 u).2 = true ∧ (u.timer 63).st ≠ 2 ∧ inputEvent u 1183 = false ∧ tmrMode u 63 = 1 ∧ tmrSrc u 63 ≠ 2 := by decide
theorem test_witness_Timers_off : let u := advance 0 (eventAt 10 1056 5 base)
    (registerInput 1056 u).2 = true ∧ (u.timer 0).st ≠ 2 ∧ inputEvent u 1120 = false ∧ tmrMode u 0 = 0 := by decide
theorem test_witness_Timers_halt :
    (registerInput 1120 (advance 0 (put 0x4040 1 2 (eventAt 10 1120 5 base)))).2 = true := by decide
theorem test_witness_Timers_fire : let u := advance 21 (put 0x4040 1 1 (put 0x4040 2 10 (put 0x4040 5 3
      (modTimer 0 (fun x => { x with st := 2, x := 0, fired := 2 }) base))))
    tmrDue u 0 = true ∧ tmrMode u 0 = 1 ∧ u.act (tmrIdx 0) 5 ≤ (u.timer 0).fired + 1 := by decide
theorem test_witness_SoftwareEvents : NewRequest (advance 0 base) (ask 1) ∧ MayWrite (advance 0 base) (ask 1) 0x4080 ∧
    NewRequest (advance 0 base) (ask 2) ∧ isHm (advance 0 base) 2 = false ∧ mooring (advance 0 base) = false := by decide


/-- Segment 1 is a VALID SAMPLE segment of 4 words, all zero, at block 0. -/
def seg1 (s : State) : State :=
  modStore (fun x => { x with content := (List.range 16).map fun a => (a, 0) })
    (modSeg 1 (fun _ => { Seg.empty with kind := 1, st := 2, lengthM1 := 3 }) s)

/-- Engine 0 plays step 0 (segment 1) and stands at sample `x`; its latest tick was at `last`. -/
def plays (x last : Nat) (s : State) : State :=
  eng .running (fun c => { c with
    phase := .play, lastTick := some last, play := { c.play with entry := (entryIs 0 [1] s).entry 0 0, seg := some 1, x := x * 2 ^ 32 } })
    (seg1 (entryIs 0 [1] s))

theorem test_witness_EngineCommands_common : let u := advance 0 base
    NewRequest u (ask 1) ∧ MayWrite u (ask 1) (engIdx 63 0) ∧ (u.engine 63).takeover = none ∧ isHm u 1 = true ∧
    NewRequest u (ask 2) ∧ isHm u 2 = false := by decide
theorem test_witness_EngineCommandsAccepted_arm : let u := advance 0 (entryIs 8191 [1] base)
    ((u.core 0).st = .idle ∨ (u.core 0).st = .stopped) ∧ configured u 0 = true := by decide
theorem test_witness_EngineCommandsAccepted_start : (eng .armed id base).core 0 = { base.core 0 with st := .armed } := by decide
theorem test_witness_EngineCommandsAccepted_abort : ((plays 0 20 base).core 0).active = true ∧
    (base.core 0).active = false := by decide
theorem test_witness_EngineCommandsAccepted_resume : let u := advance 0 (eng .stopped id (entryIs 0 [1] base))
    (u.core 0).st = .stopped ∧ 0 < partSize u.dev.dict.active 0 ∧ reachable u 0 0 = true := by decide +kernel
theorem test_witness_EngineCommandsRefused : (base.core 0).st ≠ .armed ∧ (base.core 0).st ≠ .stopped ∧
    engineState (modEngine 0 (fun g => { g with takeover := some { f := 0, tr := 12000, slot := 64, tc := 0, held := 0, suppressed := 0, retire := [], boundAt := 0, block := 0 } })
      base) 0 = 6 := by decide
/-- A command due now. -/
def due (k : Nat) : EngCmd := { cmd := k, step := 0, tick := 400, from_ := 400, viaLatch := false }
theorem test_witness_EngineCommandsAct :
    let u := fun (st : EState) (k : Nat) => advance 400 (eng st (fun c => { c with pend := { EngPend.none with cmds := [due k] } }) (entryIs 0 [1] base))
    TickDue (u .idle 1) 0 ∧ configured (u .idle 1) 0 = true ∧ (due 2).tick ≤ (u .armed 2).now ∧ TickDue (u .armed 2) 0 ∧
    ((u .running 3).core 0).active = true ∧ TickDue (u .stopped 4) 0 ∧ reachable (u .stopped 4) 0 0 = true ∧
    ((u .stopped 4).entry 0 0).loopOp ≠ 1 ∧ ((u .stopped 6).core 0).pend = { EngPend.none with cmds := [due 6] } ∧
    TickDue (u .armed 5) 0 ∧ TickDue (u .idle 2) 0 := by decide +kernel
theorem test_witness_EngineCommandsAct_loop : ((entryIs 0 [1, 0x04000000] base).entry 0 0).loopOp = 1 := by decide
/-- An event of input `k` of engine 0 at N = 30, in state `st` of the engine. -/
def inEv (st : EState) (k : Nat) (f : EngCore → EngCore) : State := advance 0 (eventAt 30 k 5 (eng st f (entryIs 0 [0x01000001] base)))
theorem test_witness_TaskInput_armed : let u := put (engIdx 0 0) 3 1 (inEv .armed 0 id)
    LoneEvent u 0 0 ∧ (u.core 0).st = .armed ∧ u.act (engIdx 0 0) 3 = 1 ∧ (u.core 0).pend.start = none := by decide
theorem test_witness_TaskInput_last : LoneEvent (inEv .idle 7 id) 0 7 ∧ ((inEv .idle 7 id).core 0).st = .idle := by decide
theorem test_witness_TaskInput_waiting : let u := inEv .waiting 0 id
    LoneEvent u 0 0 ∧ (u.core 0).src.latch = false ∧ (u.entry 0 (u.core 0).play.step).waitSel = 1 ∧
    (u.core 0).pend.release = none := by decide
theorem test_witness_TaskInput_jump : let u := put (engIdx 0 4) 1 0x20 (inEv .running 0 id)
    let w := mapWord u.dev.dict.active 0 (u.entry 0 (u.core 0).play.step).jumpMap
    LoneEvent u 0 0 ∧ wakeArmed u 0 0 = false ∧ mapEn w 0 = true ∧ mapAtEnd w 0 = false ∧ (0, mapTarget w 0) ∉ u.dev.dict.commit.blocked := by
  decide
theorem test_witness_TaskInput_atEnd : let u := put (engIdx 0 4) 1 0x30 (inEv .running 0 id)
    let w := mapWord u.dev.dict.active 0 (u.entry 0 (u.core 0).play.step).jumpMap
    LoneEvent u 0 0 ∧ wakeArmed u 0 0 = false ∧ mapEn w 0 = true ∧ mapAtEnd w 0 = true ∧
    mapEn (mapWord base.dev.dict.active 0 0) 0 = false ∧ u.dev.dict.commit.blocked = [] := by decide
theorem test_witness_TaskInput_latched : let u := inEv .running 0 fun c => { c with src := { c.src with latch := true } }
    LoneEvent u 0 0 ∧ (u.core 0).active = true ∧ (u.core 0).src.latch = true := by decide
theorem test_witness_HoldIn : let u := inEv .running 8 id
    LoneEvent u 0 8 ∧ (u.core 0).st = .running ∧ (u.core 0).src.latch = false ∧ (u.core 0).pend.hold = none ∧
    LoneEvent (inEv .waiting 8 id) 0 8 := by decide
theorem test_witness_Release : let u := inEv .holding 9 fun c => { c with holdCause := 1 }
    LoneEvent u 0 9 ∧ (u.core 0).st = .holding ∧ (u.core 0).holdCause = 1 ∧ (u.core 0).pend.unhold = none ∧
    LoneEvent (inEv .running 9 id) 0 9 := by decide
theorem test_witness_AbortInput : let u := inEv .running 10 id
    LoneEvent u 0 10 ∧ (u.core 0).active = true ∧ (u.core 0).pend.abort = none ∧ LoneEvent (inEv .armed 10 id) 0 10 ∧
    LoneEvent (inEv .idle 10 id) 0 10 := by decide
theorem test_witness_RateStep : let u := inEv .running 11 id
    (registerInput 11 u).2 = true ∧ (u.core 0).pend.rate = [] ∧
    (let v := inEv .running 11 fun c => { c with pend := { c.pend with rate := [(60, 29)] } }
     (registerInput 11 v).2 = true ∧ v.tickAt 0 (v.now + 16) = 60) := by decide
/-- Engine 0 in state `st` at the tick N = 40, with the requests `p`. -/
def atTick (st : EState) (p : EngPend) (f : EngCore → EngCore) : State :=
  advance 40 (eng st (fun c => f { c with pend := p, holdCause := 1 }) (put (engIdx 0 3) 1 0x80000000 (entryIs 0 [1] base)))
theorem test_witness_Jump : let u := atTick .running { EngPend.none with jump := some { q := 40, target := 0 } } id
    TickDue u 0 ∧ (u.core 0).pend = { EngPend.none with jump := some { q := 40, target := 0 } } ∧ (u.core 0).src.latch = false ∧
    targetEn (targetWord u.dev.dict.active 0 0) = true ∧ targetEn (targetWord u.dev.dict.active 0 1) = false ∧
    TickDue (atTick .waiting { EngPend.none with jump := some { q := 40, target := 1 } } id) 0 := by decide
theorem test_witness_StartAndRelease :
    TickDue (atTick .armed { EngPend.none with start := some 40 } id) 0 ∧
    TickDue (atTick .waiting { EngPend.none with release := some 40 } id) 0 ∧
    TickDue (atTick .holding { EngPend.none with unhold := some 40 } id) 0 ∧
    ((atTick .holding { EngPend.none with unhold := some 40 } id).core 0).holdCause = 1 ∧
    TickDue (atTick .running { EngPend.none with abort := some 40 } id) 0 ∧
    TickDue (atTick .armed { EngPend.none with abort := some 40 } id) 0 := by decide
theorem test_witness_Hold : let u := advance 40 (modPend 0 (fun p => { p with hold := some 40 }) (plays 0 20 base))
    TickDue u 0 ∧ (u.core 0).pend = { EngPend.none with hold := some 40 } ∧ (u.core 0).phase = .play ∧
    (passSum u (u.core 0)).2 = 0 := by decide
theorem test_witness_RateStepsApply : let u := advance 40 (put (engIdx 0 6) 6 3
      (modPend 0 (fun p => { p with rate := [(40, 11)] }) (eng .waiting id base)))
    TickDue u 0 ∧ (u.core 0).pend = { EngPend.none with rate := [(40, 11)] } ∧ (u.core 0).active = true ∧
    (u.core 0).vals.rampIndex ≠ u.act (engIdx 0 6) 6 ∧ (base.core 0).vals.rampIndex = base.act (engIdx 0 6) 6 ∧
    (base.core 0).active = false ∧ (base.core 0).st ≠ .fault := by decide
theorem test_witness_Underrun : let u := advance 40 (put (engIdx 0 3) 17 0 (put (engIdx 0 3) 1 0x80000000
      (modPend 0 (fun p => { p with underrun := some (40, 7) }) (plays 0 20 base))))
    TickDue u 0 ∧ (u.core 0).pend = { EngPend.none with underrun := some (40, 7) } ∧ (u.core 0).st = .running ∧
    underrunTarget u.dev.dict.active 0 = 0 ∧ targetEn (targetWord u.dev.dict.active 0 0) = true ∧
    underrunTarget base.dev.dict.active 0 = 0xFF := by decide
theorem test_witness_Underrun_stream : let u := advance 40 (modSeg 1 (fun g => { g with kind := 5 })
      (modPend 0 (fun p => { p with underrun := some (40, 7) }) (plays 0 20 base)))
    TickDue u 0 ∧ (u.core 0).st = .running ∧ sourceOf u 0 = some 1 ∧ (u.seg 1).kind = 5 := by decide
theorem test_witness_DecisionPoint : let u := advance 36 (plays 2 20 base)
    let x := simTicks 0 40 u
    60 % u.gridE 0 = 0 ∧ (u.core 0).st = .running ∧ (x.core 0).st = .running ∧ (x.core 0).phase = .play ∧
    (passSum x (x.core 0)).2 ≠ 0 := by decide +kernel
theorem test_witness_DecisionPoint_jump : let u := advance 36 (put (engIdx 0 3) 1 0x80000000
      (modPend 0 (fun p => { p with atEnd := some { q := 36, target := 0 } }) (plays 2 20 base)))
    let x := simTicks 0 40 u
    (x.core 0).pend.atEnd = some { q := 36, target := 0 } ∧ targetEn (targetWord x.dev.dict.active 0 0) = true ∧
    (x.core 0).phase = .play ∧ (passSum x (x.core 0)).2 ≠ 0 := by decide +kernel
theorem test_witness_CodeFormation : let u := advance 40 (plays 0 40 base)
    let y := simTicks 0 60 (modPend 0 (beforeEdge u) u)
    60 % u.gridE 0 = 0 ∧ sampled y 0 = true ∧ missingWord u y 0 = none := by decide +kernel
theorem test_witness_CodeFormation_missing : let u := advance 40 (modSeg 1 (fun g => { g with kind := 5, items := 64 }) (plays 0 40 base))
    let y := simTicks 0 60 (modPend 0 (beforeEdge u) u)
    sampled y 0 = true ∧ (missingWord u y 0).isSome = true := by decide +kernel
theorem test_witness_LateEntry : let u := advance 0 (modPlay 0 (fun p => { p with lateEntry := true }) (eng .running (fun c => { c with phase := .dead 2 }) base))
    (u.core 0).play.lateEntry = true ∧ (u.core 0).phase = .dead 2 ∧ (u.core 0).st = .running ∧ isSource (u.seg (u.entry 0 0).segment).kind = false ∧
    (base.core 0).play.lateEntry = false := by decide
theorem test_witness_LiveIndexRead : let u := advance 52 (modSrc 0 (fun x => { x with nextRead := some 40 })
      (modSeg 1 (fun g => { g with kind := 6 }) (plays 0 20 base)))
    liveRead u 0 = some 1 ∧ liveGrant u 0 1 = true ∧ (u.core 0).src.nextRead = some 40 ∧ 40 ≤ u.now ∧ u.now ≤ 40 + 12 ∧ (u.core 0).src.latch = false ∧
    1 ∉ (u.core 0).src.rlSet := by decide
theorem test_witness_OutputTick : let u := advance 20 (modCore 1 (fun c => { c with st := .stopped }) base)
    u.dev.power.phase = .ready ∧ u.now % u.grid 0 = 0 ∧ (u.core 0).st = .idle ∧ (u.core 0).lastTick ≠ some u.now ∧
    (u.core 0).pend = EngPend.none ∧ (u.core 1).st ∈ [EState.armed, .waiting, .holding, .stopped] := by decide


/-- Line 0 has its settings in force, and they are those of the dictionary. -/
def lineAs (cfg : Nat) (f : Line → Line) (s : State) : State :=
  let s := put (lineIdx 0) 1 cfg s
  modLine 0 (fun l => f { l with set := settingsOf s.dev.dict.active 0 }) s

theorem test_witness_Carrier_rise : let u := advance 20 (lineAs 1 (fun l => { l with
      delta := 1280 * 2 ^ 30, tickAt := 20, psi := 2 ^ 46, dw := 2 ^ 23 }) base)
    (u.line 0).queue = [] ∧ (u.line (partner 0)).queue = [] ∧ nextCarrier u 0 = some (64 * u.now + 0, .rise) := by decide +kernel
theorem test_witness_Carrier_fall : let u := advance 20 (lineAs 1 (fun l => { l with
      delta := 1280 * 2 ^ 30, tickAt := 20, psi := 3 * 2 ^ 46 - 63 * 2 ^ 30, dwFall := 2 ^ 23, rose := true }) base)
    (u.line 0).queue = [] ∧ (u.line (partner 0)).queue = [] ∧ nextCarrier u 0 = some (64 * u.now + 63, .fall) := by decide +kernel
theorem test_witness_Carrier_start : let u := advance 20 (lineAs 1 (fun l => { l with
      delta := 1280 * 2 ^ 30, tickAt := 20, psi := 2 ^ 48 - 5 * 2 ^ 30, rose := true, fell := true, trip := true, clearArmed := true }) base)
    (u.line 0).queue = [] ∧ nextCarrier u 0 = some (64 * u.now + 5, .start) ∧ awaits u 0 = false ∧ awaits u (partner 0) = false ∧
    (u.line 0).declare = false ∧ linked u 0 = false ∧ (u.line 0).trip = true ∧ (u.line 0).clearArmed = true ∧
    ∀ k, k < 32 → (u.cmp k).asserted = false := by decide +kernel
theorem test_witness_Fire : let u := fun (cfg : Nat) (f : Line → Line) => advance 0 (lineAs cfg f (eventAt 30 768 5 base))
    (registerInput 768 (u 3 id)).2 = true ∧ ((u 3 id).line 0).set.mode = 3 ∧ ((u 3 id).line 0).shot = none ∧
    ((u 3 fun l => { l with shot := some (0, 1921) }).line 0).shot = some (0, 64 * 30 + 1) ∧
    ((u 0x1002 id).line 0).set.mode = 2 ∧ ((u 0x1002 id).line 0).set.patStart = 1 ∧ ((u 0 id).line 0).set.mode = 0 := by decide
theorem test_witness_Pattern : let r : PatRun := { start := 0, bit := 1, seg := 1, taps := 64, passes := 1 }
    let u := advance 30 (lineAs 2 (fun l => { l with patDue := [1920] }) base)
    (u.line 0).set.mode = 2 ∧ 64 * u.now ∈ (u.line 0).patDue ∧
    ((lineAs 2 (fun l => { l with pat := some r }) base).line 0).pat = some r ∧ r.start + r.bit * r.taps = 64 * 1 + 0 ∧
    r.passes * ((base.seg 1).lengthM1 + 1) ≤ r.bit ∧ r.bit < r.passes * (((seg1 base).seg 1).lengthM1 + 1) := by decide
theorem test_witness_Oneshot : let u := fun (x : Nat × Nat) => advance 30 (lineAs 3 (fun l => { l with shot := some x }) base)
    ((u (1983, 3000)).line 0).shot = some (64 * (u (1983, 3000)).now + 63, 3000) ∧
    ((u (0, 1920)).line 0).shot = some (0, 64 * (u (0, 1920)).now + 0) ∧ ((u (0, 1920)).line 0).set.mode = 3 := by decide
theorem test_witness_FollowEdge : let u := advance 30 (modLine 255 (fun l => { l with queue := [(1921, true)] }) base)
    (u.line 255).queue = (64 * u.now + 1, true) :: [] := by decide
theorem test_witness_Comparator : let u := advance 10 (put (lineIdx 31) 2 0x80000000 (modCmp 31 (fun c => { c with armed := true }) base))
    (u.cmp 31).armed = true ∧ (u.cmp 31).arming = false ∧ (u.cmp 31).forced = false ∧ (u.cmp 31).asserted = false ∧
    blanked u 31 = false ∧ (u.out 7).lost = false ∧ linked u 31 = false ∧ bit (u.act (lineIdx 31) 2) 31 = true ∧
    (u.line 31).trip = false ∧ (base.cmp 31).armed = false := by decide
theorem test_witness_Blanking : let u := advance 10 (put (chIdx 63 0x36) 3 8 (put (lineIdx 255) 2 0x80000000
      (modCmp 255 (fun c => { c with asserted := true }) (modOut 63 (fun o => { o with blankEnd := some 10 }) base))))
    (u.out 63).blankEnd = some 10 ∧ 10 ≤ u.now ∧ (u.out 63).lost = false ∧ bit (u.act (chIdx 63 0x36) 3) 3 = true ∧
    (u.cmp 255).asserted = true ∧ linked u 255 = false ∧ bit (u.act (lineIdx 255) 2) 31 = true ∧
    bit (u.act (chIdx 63 0x36) 3) 0 = false ∧ (u.cmp 255).seenAt = none ∧
    (modCmp 255 (fun c => { c with seenAt := some 10 }) u |>.cmp 255).seenAt = some 10 := by decide
theorem test_witness_TripClear : NewRequest (advance 0 base) (ask 1) ∧ MayWrite (advance 0 base) (ask 1) (lineIdx 255) ∧
    linked base 255 = false ∧ linked (put (pairIdx 254) 2 1 base) 255 = true := by decide
theorem test_witness_TrippedLines : let s := fun (v : Nat) => lineAs (8 * v) (fun l => { l with trip := true }) base
    ((s 0).line 0).trip = true ∧ safeState (s 0) 0 = 0 ∧ safeState (s 1) 0 = 1 ∧ safeState (s 2) 0 = 2 := by decide
/-- Channel 0 at `d` ECLK of a sequence. -/
def inSeq (k : SeqKind) (d : Nat) : State :=
  advance d (modOut 0 (fun o => { o with seq := some { kind := k, start := 0, from_ := o.dac, mode := 0, range := 1, latch := true } }) base)
theorem test_witness_OutputSequences : (∀ d ∈ [800, 1560, 2800, 1200, 1240, 1280, 2000, 3560, 4800],
    ∀ k ∈ [SeqKind.enable, .softPark, .rangeChange],
      seqCount (inSeq k d) 0 = some ({ kind := k, start := 0, from_ := 0x80000, mode := 0, range := 1, latch := true }, d)) ∧
    ((inSeq .enable 800).out 0).rangeNext = false ∧ ((inSeq .enable 800).out 0).rangeSwitchAt = none := by decide
theorem test_witness_OutputTickLatches : let u := advance 40 (modOut 1 (fun o => { o with lost := true }) base)
    u.dev.power.phase = .ready ∧ u.now % u.grid 0 = 0 ∧ (u.out 0).seq = none ∧ (u.out 0).lost = false ∧ (u.out 1).lost = true ∧
    (u.engine 0).takeover = none := by decide
theorem test_witness_OutputTickLatches_seq : let x : Seq := { kind := .softPark, start := 40, from_ := 0x80000, mode := 0, range := 1, latch := true }
    let u := advance 40 (modOut 0 (fun o => { o with seq := some x }) base)
    (u.out 0).seq = some x ∧ x.start = u.now ∧ x.latch = true ∧ u.now % u.grid 0 = 0 ∧ x.start ≠ (advance 60 u).now := by decide
theorem test_witness_Supervision : let u := advance 800 (put (chIdx 0 0) 4 4 (on0 base))
    watched u 0 2 = true ∧ (u.out 0).parkCause = 0 ∧ bit (u.act (chIdx 0 0) 4) 2 = true ∧ bit (base.act (chIdx 0 0) 4) 2 = false ∧
    watched (modOut 0 (fun o => { o with modeIn := 1 }) u) 0 0 = true ∧ watched (modOut 0 (fun o => { o with modeIn := 1 }) u) 0 1 = true ∧
    (u.out 0).parkDue = none := by decide
theorem test_witness_ParkDue : let s := modOut 0 (fun o => { o with parkDue := some (1, 3, 2) }) (on0 base)
    s.dev.clock.numbering = .plain ∧ (s.out 0).parkDue = some (s.now + 1, 3, 2) ∧ (s.out 0).parkCause = 0 ∧ (s.out 0).lost = false := by decide
theorem test_witness_OutRestart : let u := advance 400 (put (chIdx 0 0) 1 1
      (modOut 0 (fun o => { o with parkCause := 3, parkFlag := 2, restartAt := some 400 }) base))
    NewRequest u (ask 1) ∧ MayWrite u (ask 1) (chIdx 0 0) ∧ (u.out 0).parkCause = 3 ∧ (u.out 0).lost = false ∧
    u.act (chIdx 0 0) 1 = 1 ∧ bit (3 % 8) (u.out 0).parkFlag = false ∧ (base.out 0).parkCause ≠ 3 ∧
    (u.out 0).restartAt = some u.now := by decide
theorem test_witness_SupClear : NewRequest (advance 0 base) (ask 1) ∧ MayWrite (advance 0 base) (ask 1) (chIdx 63 0) ∧
    NewRequest (advance 0 base) (ask 2) ∧ isHm (advance 0 base) 2 = false := by decide
theorem test_witness_MonitorSlot : let u := advance 3000 base
    u.now % 200 = 0 ∧ (u.sense 0).conv = none ∧ (u.sense 0).arms = [] ∧ (u.sense 0).checks = [] ∧
    u.act (chIdx 0 0x18) 1 / 2 ^ (4 * (u.now / 200 % 16)) % 16 ≠ 15 ∧
    (put (chIdx 0 0x18) 1 0xFFFFFFFFFFFFFFFF base).act (chIdx 0 0x18) 1 / 2 ^ (4 * (u.now / 200 % 16)) % 16 = 15 := by decide
theorem test_witness_MonitorResult : let v : Conv := { at_ := 200, kind := .check 3, source := 6, value := 100000 }
    let u := advance 400 (put (chIdx 0 0x15) 1 1 (modSense 0 (fun x => { x with conv := some v }) base))
    (u.sense 0).conv = some v ∧ v.at_ + 200 = u.now ∧ cmpEnabled u 3 = true ∧
    16 * (u.act (chIdx 0 0x19) 2) < (v.value - cmpTh u 3).natAbs := by decide
theorem test_witness_ArmEdge : let u := advance 604 (modSense 0 (fun x => { x with edges := [(1, 604)] })
      (modCmp 3 (fun x => { x with arming := true, armFrom := 0 }) base))
    (1, u.now) ∈ (u.sense 0).edges ∧ (u.cmp 3).arming = true ∧ (u.cmp 3).armFrom + 604 ≤ u.now := by decide
theorem test_witness_ThChecks : let u := advance 40000000 (put (chIdx 63 0x15) 1 1 base)
    u.act (chIdx 63 0x19) 1 ≠ 0 ∧ u.now % (u.act (chIdx 63 0x19) 1 * 400000) = 0 ∧ cmpEnabled u 255 = true ∧
    MayWrite u (ask 1) (chIdx 63 0x19) ∧ NewRequest u (ask 1) ∧ (put (chIdx 63 0x19) 1 0 base).act (chIdx 63 0x19) 1 = 0 := by decide
theorem test_witness_CmpClear : let u := advance 0 (put (cmpIdx 0) 5 1 (modCmp 1 (fun x => { x with armed := true, asserted := true }) base))
    NewRequest u (ask 1) ∧ MayWrite u (ask 1) (cmpIdx 255) ∧ bit (u.act (cmpIdx 0) 5) 0 = true ∧ bit (u.act (cmpIdx 1) 5) 0 = false ∧
    cmpSeen u 1 = true ∧ cmpSeen u 2 = false ∧ cmpEnabled (put (cmpIdx 255) 1 1 base) 255 = true := by decide

/-! Clocks, the ring, commits, views and segments -/

def clk (f : Clock → Clock) : State → State := modClock f
theorem test_witness_Clock_sync : let u := advance 0 (clk (fun c => { c with n := 399936, syncSource := 1, realign := true }) base)
    u.dev.clock.syncSource = 1 ∧ u.dev.clock.holdover = false ∧ u.dev.clock.relocking = false ∧ (syncDifference u.now).natAbs ≤ 1 ∧
    u.dev.clock.realign = true ∧ 1 < (syncDifference 399934).natAbs ∧ (advance 399938 base).dev.clock.realign = false ∧
    ((advance 399938 base).now + 62) % 400000 = 0 := by decide
theorem test_witness_Clock_realign : let u := advance 0 (clk (fun c => { c with syncSource := 1 }) base)
    NewRequest u (ask 1) ∧ MayWrite u (ask 1) 0x2001 ∧ u.dev.clock.syncSource = 1 ∧ u.dev.clock.holdover = false ∧ inRing u = false ∧
    (∀ e, e < 64 → engineRests u e = true) ∧
    (clk (fun c => { c with numbering := .realign 64 }) base).dev.clock.numbering = .realign 64 ∧
    (clk (fun c => { c with numbering := .realign 64 }) base).now ≤ 64 := by decide +kernel
/-- ECLK locked at edge 5 of a later start, and SYNC was sampled at `edges`. -/
def watching (edges : List Nat) (epoch : Option Nat) : State → State := clk fun c => { c with numbering := .watch 5 edges epoch, epochSet := false }
theorem test_witness_Clock_watch : let u := advance 800064 (watching [400064, 64] none base)
    u.dev.clock.numbering = .watch 5 [400064, 64] none ∧ u.now ≤ 5 + 2000000 ∧ u.now - 400000 ∈ [400064, 64] ∧
    u.now - 800000 ∈ [400064, 64] ∧ 800000 ≤ u.now ∧ u.dev.ring.masterSync ≠ some false ∧
    (let v := advance 2000064 (watching [1600064] none base)
     v.dev.clock.numbering = .watch 5 [1600064] none ∧ 5 + 2000000 < v.now ∧ v.dev.ring.epochShift = 0) ∧
    (watching [] (some 2000006) base).dev.clock.numbering = .watch 5 [] (some 2000006) ∧ (watching [] (some 2000006) base).now ≤ 2000006 := by
  decide +kernel
theorem test_witness_Clock_syncMiss : let u := fun e => advance 399938 (clk (fun c => { c with syncSource := 1, lastSync := e }) base)
    (u none).dev.clock.syncSource = 1 ∧ (u none).dev.clock.holdover = false ∧ (u none).dev.clock.relocking = false ∧
    ((u none).now + 62) % 400000 = 0 ∧ (u none).dev.clock.lastSync = none ∧ (u (some 399935)).dev.clock.lastSync = some 399935 ∧
    (u (some 399935)).now ≤ 399935 + 3 := by decide
theorem test_witness_Clock_ringSync : let u := advance 0 (clk (fun c => { c with syncSource := 1 })
      (modRing (fun r => { r with st := 3, size := 3, devpos := 1, master := 0, members := 7 }) base))
    u.dev.clock.numbering = .plain ∧ u.dev.clock.realign = false ∧ inRing u = true ∧ u.dev.ring.master ≠ u.dev.ring.devpos := by decide
theorem test_witness_Clock_reference : base.dev.clock.refPresent = true ∧
    (clk (fun c => { c with holdover := true }) base).dev.clock.holdover = true ∧
    (clk (fun c => { c with relocking := true }) base).dev.clock.relocking = true := by decide
theorem test_witness_Clock_ptp : let u := advance 0 (modDict (fun d => { d with rw := putVal 0x1110 1 1 d.rw }) base)
    linkServes u = true ∧ (u.port 0).up = true ∧ (u.port 1).up = true ∧ u.rwv 0x1110 1 = 1 ∧ u.dev.clock.lclkPort = 0 ∧
    u.rwv 0x1110 5 < (u.rwv 0x1110 5 + 1 : Int).natAbs ∧ (u.rwv 0x1110 5 : Int).natAbs ≤ u.rwv 0x1110 5 ∧ 1 ≠ u.rwv 0x1110 2 := by decide

/-- A ring of three modules, this one at position 0, in RING_STATE `st`; both links have both lanes. -/
def ringAt (st : Nat) (f : Ring → Ring) : State :=
  let l : HwLink := { lane0 := true, lane1 := true, neighbour := 1, delayPs := 0, err0 := 0, err1 := 0, run0 := 3, run1 := 0, laneLosses := 0, linkLosses := 0 }
  modRing (fun r => f { r with st := st, size := 3, master := 0, members := 7, east := l, west := l }) base
theorem test_witness_Cells_send : let u := advance 32 (ringAt 3 fun r => { r with window := 1 })
    u.now % 16 = 0 ∧ ringRuns u = true ∧ u.dev.ring.window ≠ u.now / 16 := by decide
/-- A record of module 1's X line 63, registered at the last offset of its window. -/
def rec1 : HwRecord := { xline := 63, offset := 15, src := 1 }
theorem test_witness_Cells_outbound : let u := fun (tx : List HwRecord) => advance 0 (modRing (fun r => { r with st := 3, tx := tx })
      (eventAt 10 1247 5 base))
    (registerInput 1247 (u [])).2 = true ∧ ringRuns (u []) = true ∧ (u []).dev.ring.window = (u []).now / 16 ∧ (u []).dev.ring.tx.length < 2 ∧
    (registerInput 1247 (u [rec1, rec1])).2 = true ∧ (u [rec1, rec1]).dev.ring.tx.length = 2 := by decide
/-- Cell 255 with that record in its first slot and an idle message channel. -/
def body1 : List Byte := [255, 0xFF, 0x27] ++ List.replicate 44 (0 : Byte)
def cell1 : List Byte := cellOf cellStart body1 (crc16 body1)
theorem test_witness_Cells_received : let u := advance 0 (ringAt 2 id)
    ringRuns u = true ∧ (linkOf u true).lane0 = true ∧ (linkOf u false).lane0 = true ∧ u.dev.ring.window = u.now / 16 ∧
    rec1.src ≠ u.dev.ring.devpos ∧ 4 ≤ (linkOf u true).run0 + 1 ∧ (linkOf u false).lane1 = true ∧
    cellOk cell1 = true ∧ cellRecords cell1 = [rec1] ∧ cellSeq cell1 = 255 ∧ pathNamed u true 1 = true ∧
    pathNamed (put 0x2020 6 0 u) true 1 = false ∧ pathNamed (put 0x2020 6 0 u) false 1 = true ∧ cellOk (cellOf 0 (List.replicate 47 0) 0) = false := by decide +kernel
theorem test_witness_Cells_inbound : let u := advance 55 (ringAt 4 fun r => { r with rx := [(55, 15, 63, 1)] })
    (55, 15, 63, 1) ∈ u.dev.ring.rx ∧ 55 = u.now := by decide
theorem test_witness_Cells_laneLost : let u := advance 0 (ringAt 3 fun r => { r with west := { r.west with lane1 := false } })
    (linkOf u true).lane0 = true ∧ u.dev.ring.st = 3 ∧ ringRuns u = true ∧ 2 < u.dev.ring.size := by decide
theorem test_witness_Ring_discovery : let u := watching [] none (modRing (fun r => { r with st := 1 }) base)
    u.dev.ring.st = 1 ∧ u.dev.clock.numbering = .watch 5 [] none ∧ ringError u.dev.ring.devpos found3.positions = 0 ∧
    found3.positions.foldl min 7 = u.dev.ring.devpos ∧ [1, 2, 0].foldl min 7 ≠ 1 ∧ ringError 1 [1, 2, 0] = 0 ∧ ringError 0 [0, 0] = 1 := by decide
theorem test_witness_Ring_unformed : let u := fun t => advance t (modRing (fun r => { r with st := 1 }) base)
    (u 0).dev.ring.st = 1 ∧ joinLate (u 0) = true ∧ joinLate (advance 8000004 (modRing (fun r => { r with st := 1 }) (watching [] none base))) = false := by
  decide +kernel
theorem test_witness_Ring_join : let u := advance 0 base
    ringRuns u = false ∧ u.dev.clock.epochSet = true ∧ 0 < join3.size ∧ (∀ e, e < 64 → engineRests u e = true) := by decide +kernel
theorem test_witness_Ring_tracking : let u := advance 400000 (ringAt 2 id)
    u.now % 400000 = 0 ∧ ringRuns u = true ∧ u.dev.ring.st = 2 ∧ u.dev.ring.east.up = true ∧ u.dev.ring.west.up = true ∧
    (150 : Int).natAbs ≤ 150 ∧ 5000 < 64 * (-79 : Int).natAbs := by decide
theorem test_witness_Ring_master : let u := advance 400000 (ringAt 4 fun r => { r with west := { r.west with lane0 := false, lane1 := false } })
    u.now % 400000 = 0 ∧ ringAligned u = true ∧ (linkOf u true).up = false ∧ bit (setBit (4 % 256) u.dev.ring.devpos) u.dev.ring.master = true ∧
    (let v := modRing (fun r => { r with devpos := 1 }) u
     bit (setBit (4 % 256) v.dev.ring.devpos) v.dev.ring.master = false) := by decide
theorem test_witness_Ring_rejoin : let u := advance 0 (ringAt 4 fun r => { r with lostLinks := [2, 1] })
    ringAligned u = true ∧ 2 ∈ u.dev.ring.lostLinks ∧ ownLink u true = 2 ∧ ownLink u false ≠ 2 := by decide

/-- The mask of a ring commit. -/
def masked (s : State) : State := modDict (fun d => { d with rw := putVal 0x2021 1 6 d.rw }) s
theorem test_witness_RingCommits_request : let u := advance 0 (masked base)
    NewRequest u (ask 1) ∧ MayWrite u (ask 1) 0x2100 ∧ u.dev.dict.commit.st = 0 ∧ u.dev.ring.commit.readySent = false ∧
    u.rwv 0x2021 1 ≠ 0 ∧ u.dev.ring.commit.st = 0 := by decide
theorem test_witness_RingCommits_prepare : let u := advance 0 (ringAt 3 id)
    ringAligned u = true ∧ u.dev.clock.holdover = false ∧ u.dev.dict.commit.st = 0 ∧ u.dev.ring.commit.st = 0 ∧
    u.dev.ring.commit.sent = none ∧ ringRuns u = true ∧ u.dev.ring.commit.id ≠ 9 ∧ ringAligned (ringAt 2 id) = false ∧
    (modCommit (fun c => { c with st := 1 }) u).dev.dict.commit.st ≠ 0 := by decide
/-- A ring commit this module coordinates, in PREPARING since N = 0, for modules 1 and 2. -/
def preparing (f : RingCommit → RingCommit) : State :=
  modRingCommit (fun c => f { c with coordinator := true, st := 1, mask := 6, id := 9 }) (ringAt 3 id)
theorem test_witness_RingCommits_ready : let u := advance 0 (preparing id)
    u.dev.ring.commit.coordinator = true ∧ u.dev.ring.commit.st = 1 ∧ u.dev.ring.commit.ownOk = false ∧ 2 ∈ ringPresent u ∧
    u.dev.ring.commit.reports = [] := by decide
theorem test_witness_RingCommits_fail : let u := preparing fun c => { c with st := 0, result := 0x04940003 }
    u.dev.ring.commit.coordinator = true ∧ u.dev.ring.commit.st = 0 ∧ u.dev.ring.commit.result ≠ 0 ∧ 0x04930002 < u.dev.ring.commit.result ∧
    u.dev.dict.commit.st = 0 ∧ (preparing fun c => { c with st := 0, coordinator := false }).dev.ring.commit.coordinator = false ∧
    (preparing fun c => { c with coordinator := false }).dev.ring.commit.st = 1 := by decide
theorem test_witness_RingCommits_apply : let u := preparing fun c => { c with st := 3, coordinator := false, readySent := true }
    u.dev.ring.commit.readySent = true ∧ u.dev.ring.commit.st = 3 ∧ u.dev.ring.commit.coordinator = false := by decide
theorem test_witness_RingCommits_timeout : let u := advance 20000000 (preparing id)
    u.dev.ring.commit.coordinator = true ∧ u.dev.ring.commit.st = 1 ∧ u.dev.ring.commit.preparedAt + 20000000 ≤ u.now ∧
    1 ∈ ringPresent u ∧ u.dev.ring.commit.reports = [] ∧ ∀ j ∈ ringPresent u, 1 ≤ j := by decide
theorem test_witness_RegisterWrites : let u := advance 0 base
    NewRequest u (ask 1) ∧ isHm u 1 = true ∧ mooring u = false ∧ object (chIdx 63 0) 1 = some { ty := .bool, acc := .rs, dflt := 0 } ∧
    (.rs : Acc) ≠ .ro ∧ leVal [(1 : Byte)] ≤ 1 ∧ tySize .bool = 1 ∧ u.dev.dict.commit.st = 0 ∧ u.dev.ring.commit.readySent = false ∧
    u.dev.dict.changed.length < 32768 ∧ (modCommit (fun c => { c with st := 2 }) base).dev.dict.commit.st = 2 ∧
    memWf 0 u.dev.dict.stepsStaged = true ∧ 33554432 - 256 + 256 ≤ 33554432 := by decide
theorem test_witness_RegisterReads : let u := advance 0 (modDict (fun d => { d with staged := putVal 0x317F 2 1 d.staged }) base)
    NewRequest u (ask 2) ∧ mooring u = false ∧ 0x317F < 0x6000 ∧
    (object 0x317F 2).map (fun o => (o.acc, o.ty)) = some (.rs, .u 1) ∧ u.stg 0x317F 2 = 1 ∧ u.act 0x317F 2 = 0 := by decide
theorem test_witness_CommitReq : let u := advance 0 base
    NewRequest u (ask 1) ∧ MayWrite u (ask 1) 0x2100 ∧ u.dev.dict.commit.st = 0 ∧ u.dev.ring.commit.readySent = false ∧ u.rwv 0x2021 1 = 0 := by
  decide
/-- A commit of this module in CHECKING since N = 0. -/
def checking (s : State) : State := modCommit (fun c => { c with st := 1 }) s
theorem test_witness_CommitCheck_passes : let u := advance 4000 (checking base)
    (runCheck u (tickFails u (refillTargets u).length)).fail = none ∧ u.dev.ring.commit.coordinator = false := by decide +kernel
theorem test_witness_CommitCheck_fails : let u := advance 4000 (modCommit (fun c => { c with reqWhen := 2 }) (checking base))
    (∃ f, (runCheck u (tickFails u (refillTargets u).length)).fail = some f) ∧ harbourmaster u ≠ 0 :=
  ⟨Option.isSome_iff_exists.mp (by decide +kernel), by decide⟩
theorem test_witness_CommitTick : let u := advance 8000 (modCommit (fun c => { c with st := 2, tickN := 8000 })
      (eng .armed id (modDict (fun d => { d with staged := putVal (engIdx 0 0) 3 9 d.staged }) base)))
    u.dev.ring.commit.readySent = false ∧ commitDue u = true ∧ commitDue base = false ∧ (u.core 0).st = .armed ∧
    (u.core 0).pend.cmds = [] ∧ u.stg (engIdx 0 0) 3 = 9 := by decide
theorem test_witness_StageDiscard : let u := fun (st n : Nat) => advance n (modCommit (fun c => { c with st := st, tickN := 8000 }) base)
    NewRequest (u 2 0) (ask 1) ∧ MayWrite (u 2 0) (ask 1) 0x2103 ∧ (u 2 7600).now + 400 ≤ awaitedTick (u 2 7600) ∧
    awaitedTick (u 2 7601) < (u 2 7601).now + 400 ∧ (u 1 0).dev.dict.commit.st = 1 ∧ (u 2 0).dev.ring.commit.st = 0 := by decide
theorem test_witness_Views : let u := advance 400000 (modSession 2 (fun x => { x with
      view0 := { View.closed with st := 2 }, vals := putVal 0x2110 3 1 x.vals }) base)
    NewRequest u (ask 2) ∧ MayUse u (ask 2) 0x2110 ∧ ((u.session 2).view 0).st = 2 ∧ (u.session 2).val 0x2110 3 = 1 ∧
    max ((u.session 2).view 0).v ((u.session 2).view 0).lastRead + 400000 * 1 ≤ u.now ∧
    (modSession 2 (fun x => { x with vals := putVal 0x2110 3 0 x.vals }) base |>.session 2).val 0x2110 3 = 0 := by decide
/-- The definition record of segment 7: SAMPLE, 4 words at block 0. -/
def define7 : List Byte := [0x00010007, 0, 3, 0, 0, 0, 0, 0].flatMap (leBytes 4)
theorem test_witness_SegDefine : let u := advance 0 base
    NewRequest u (ask 1) ∧ MayWrite u (ask 1) 0xA010 ∧ lowest (defineCodes 0 define7 u) = 0 ∧ (defRecord define7).n = 7 ∧
    storedKind (defRecord define7).kind = true ∧ storedKind 4 = false := by decide +kernel
theorem test_witness_SegDelete : let u := advance 0 (seg1 base)
    u.dev.dict.commit.st ≠ 1 ∧ u.dev.ring.commit.readySent = false ∧ lockCount u 65535 = 0 ∧ (u.seg 1).st ≠ 0 ∧
    u.dev.store.verify.length < 17 := by decide +kernel
theorem test_witness_SegmentVerified : let u := advance 0 (modStore (fun x => { x with verify := [1] }) (modSeg 1 (fun g => { g with st := 1 }) (seg1 base)))
    u.dev.store.verify = 1 :: [] ∧ (u.seg 1).st = 1 ∧ judge u (u.seg 1) (some 0) = some (7, 0) ∧
    judge u { u.seg 1 with crc := crc32c (List.replicate 16 0) } none = none := by decide +kernel
theorem test_witness_Observers : let u := advance 0 base
    NewRequest u (ask 2) ∧ isHm u (ask 2).sess = false ∧ ([] : List Byte).length ≤ 256 := by decide

/-! The host link, DRAM, the scratchpad, calibration, faults and power -/

/-- K0 and K1 hold keys; K0 and K1 have rights. -/
def keyed (s : State) : State :=
  modDict (fun d => { d with rw := putVal 0x1400 5 3 d.rw }) (modLink (fun l => { l with keys := [(0, [1]), (1, [2])] }) s)
/-- Number 8 holds a CHALLENGE for K`slot` in `role`. -/
def challenged8 (slot role : Nat) (s : State) : State :=
  modSession 8 (fun x => { x with challenged := true, slot := slot, role := role }) s
theorem test_witness_Sessions_open : let u := keyed State.reset
    linkServes u = true ∧ (u.port 1).up = true ∧ u.keySlot 1 ≠ [] ∧ sessionsOpen u < 8 ∧ u.keySlot 3 = [] ∧
    (∀ j, 1 ≤ j → j ≤ 8 → (u.session j).challenged = false) :=
  ⟨by decide, by decide, by decide, by decide, by decide, fun _ _ _ => rfl⟩
theorem test_witness_Sessions_full : let u := modLink (fun l => { l with
      sessions := [1, 2, 3, 4, 5, 6, 7, 8].map fun k => (k, { Session.free with isOpen := true }) }) (keyed State.reset)
    u.keySlot 0 ≠ [] ∧ sessionsOpen u = 8 := by decide
theorem test_witness_Sessions_confirm : let u := fun (slot role : Nat) (s : State) => challenged8 slot role (keyed s)
    ((u 0 1 base).session 8).challenged = true ∧ ((u 0 1 base).session 8).notices = [] ∧ ((u 3 0 base).session 8).role ≠ 1 ∧
    bit (keyRights (u 0 1 State.reset)) 0 = true ∧ harbourmaster (u 0 1 State.reset) = 0 ∧ bit (keyRights (u 3 1 base)) 3 = false ∧
    bit (keyRights (u 1 1 base)) 1 = true ∧ harbourmaster (u 1 1 base) ≠ 0 := by decide
theorem test_witness_Sessions_frames : Arrives base 1 1 true ∧ isHm base 1 = true ∧ isHm base 2 = false ∧ base.dev.dict.commit.st = 0 ∧
    (checking base).dev.dict.commit.st ≠ 0 ∧ Arrives base 2 0 true := by decide
theorem test_witness_Sessions_timeout : let u := advance 400000 (modSession 1 (fun x => { x with vals := putVal 0x1200 3 1 x.vals }) base)
    (u.session 1).isOpen = true ∧ (u.session 1).lastFrame + 400000 * (u.session 1).val 0x1200 3 ≤ u.now ∧
    base.now < (base.session 1).lastFrame + 400000 * (base.session 1).val 0x1200 3 := by decide

/-- A notice sent as number 5 at N = 0 for the `n`th time. -/
def sent5 (n : Nat) : Notice :=
  { code := 0x10, cls := 1, kind := 0, source := 0, time := 0, n := 0, step := 0, tag := 0, params := [], sent := some (5, 0, n) }
def waits5 (n : Nat) : State := modSession 1 (fun x => { x with notices := [sent5 n], nextSeq := 6 }) base
theorem test_witness_Ack : Arrives (waits5 0) 1 0 true ∧ ∃ n ∈ ((waits5 0).session 1).notices, ∃ q, n.sent = some q ∧ q.1 ≤ 5 ∧ 4 < q.1 :=
  ⟨by decide, sent5 0, by decide, (5, 0, 0), by decide⟩
theorem test_witness_NoticeRetransmit : let u := fun n => advance 400000 (waits5 n)
    ((u 2).session 1).isOpen = true ∧ boundUp (u 2) ((u 2).session 1) = true ∧ ((u 2).session 1).notices = [sent5 2] ∧
    (sent5 2).sent = some (5, 0, 2) ∧ 0 + 400000 ≤ (u 2).now ∧ (sent5 3).sent = some (5, 0, 3) ∧ lostNext (u 3) 1 6 = false ∧
    5 < ((u 3).session 1).nextSeq ∧ ((u 3).session 1).lostRun = none ∧ ((u 3).session 1).notices.length ≤ 256 ∧
    bit (noticeMask ((u 3).session 1)) 1 = true := by decide
theorem test_witness_Ports : let u := modSession 1 (fun x => { x with bound1 := true }) base
    (u.port 0).up = true ∧ u.dev.clock.lclkPort = 0 ∧ u.dev.clock.lclkPort ≠ 1 ∧ (u.session 1).isOpen = true ∧ (u.session 1).activePort = 0 ∧
    (u.port 1).up = true ∧ (u.session 1).bound1 = true ∧ linkServes u = true ∧
    ((modPort 1 (fun p => { p with up := false }) u).port 1).up = false ∧
    (modClock (fun c => { c with lclkPort := 0xFF }) u).dev.clock.lclkPort = 0xFF := by decide
theorem test_witness_Ports_frames : let p := fun (v : Nat) => modPort 0 (fun p => { p with up := false, cfg := { p.cfg with speedSel := v } }) base
    ((p 0).port 0).up = false ∧ ((p 2).port 0).cfg.speedSel = 2 ∧ ((p 1).port 0).cfg.speedSel = 1 ∧ ((p 0).port 0).cfg.speedSel ≠ 2 ∧
    ((p 0).port 0).cfg.speedSel ≠ 1 ∧ linkServes base = true ∧ (base.port 0).up = true ∧ ((waits5 0).session 1).lostRun = none := by decide
theorem test_witness_Keys : let u := advance 0 (keyed base)
    NewRequest u (ask 1) ∧ MayWrite u (ask 1) 0x1400 ∧ (0 < 4 ∧ bit (keyRights u) 0 = true ∧ u.keySlot 0 ≠ []) ∧
    (1 < 4 ∧ bit (keyRights u) 1 = true ∧ u.keySlot 1 ≠ []) ∧ u.dev.power.brace = false ∧ bit 15 3 = true ∧
    (¬ ∃ j, j < 4 ∧ bit 12 j = true ∧ u.keySlot j ≠ []) ∧ (0 : Nat) ≠ 1 := by decide
theorem test_witness_KeyErase : let u := modDict (fun d => { d with rw := putVal 0x1400 5 1 d.rw }) (keyed base)
    ¬ ∃ j, j < 4 ∧ bit (keyRights u) j = true ∧ (if j = 0 then ([] : List Byte) ≠ [] else u.keySlot j ≠ []) := by decide
theorem test_witness_CargoOpens : let u := advance 0 base
    let r := ask 1
    NewRequest u r ∧ lowest (objectCodes r 0xA021 1 u ++ openCodes r 0xA021 1 8192 u ++ openWriteCodes r 0xA021 1 33546240 8192 u) = 0 ∧
    lowest (objectCodes r 0xA021 1 u) = 0 ∧ segSizeOk 1024 = true ∧ isDomain 0xA021 1 = true ∧ (u.session 1).transfers.length < 4 ∧
    openTransfers u < 16 := by decide +kernel
/-- A transfer of 1,024 bytes of object `index`:1. -/
def xfer (index : Nat) (f : Transfer → Transfer) : Transfer := f
  { num := 1, write := true, key := key index 1, offset := 0, total := 1024, segSize := 1024, acked := 0, window := 262144, got := [],
    bytes := [], lastAccepted := 0, lastAdvance := 0, resends := 0, sentTo := 0, lastPort := 0, sends0 := 0, sends1 := 0 }
def moving (a : Transfer) : State := modSession 1 (fun x => { x with transfers := [a] }) base
theorem test_witness_CargoOpens_full : let u := modSession 1 (fun x => { x with transfers := List.replicate 4 (xfer 0xA021 id) }) base
    4 ≤ (u.session 1).transfers.length := by decide
theorem test_witness_CargoOpenRead : let u := advance 0 (put 0x317F 1 0x41 base)
    NewRequest u (ask 1) ∧ mooring u = false ∧ 33554428 + 4 ≤ 33554432 ∧ ∀ b ∈ contentBanks 33554428 4, bankOwner u b = 0x41 := by decide
theorem test_witness_CargoData : let a := xfer 0xA021 id
    let b := xfer 0xA050 id
    Arrives (moving a) 1 0 true ∧ ((moving a).session 1).transfer 1 = some a ∧ segmentFits a 0 1024 = true ∧ 0 ∉ a.got ∧
    memWf 0 a.bytes = true ∧ heldToClose a = true ∧ b.key = key 0xA050 1 ∧ crc32c [] ≠ 1 ∧
    ∀ x ∈ contentBanks (b.offset + 0) 1024, bankOwner (put 0x3100 1 0x41 (moving b)) x = 0x41 := by decide
theorem test_witness_CargoRead : let a := xfer 0xA021 fun a => { a with write := false }
    Arrives (moving a) 1 0 true ∧ ((moving a).session 1).transfer 1 = some a ∧ a.write = false ∧ a.acked < a.total ∧
    a.lastAdvance + 200000 ≤ (advance 200000 (moving a)).now ∧ a.lastAccepted + 400000000 ≤ (advance 400000000 (moving a)).now ∧
    (moving a).now < a.lastAccepted + 400000000 := by decide
theorem test_witness_CargoClose : let a := xfer 0xA021 fun a => { a with acked := 1024 }
    let u := advance 0 (moving a)
    NewRequest u (ask 1) ∧ ((base.session 1).transfer 1 = none) ∧ (u.session 1).transfer 1 = some a ∧ a.acked = a.total ∧
    a.offset % 64 = 0 ∧ a.total % 64 = 0 ∧ u.dev.dict.commit.st = 0 ∧ u.dev.ring.commit.readySent = false ∧
    (xfer 0xA021 id).acked ≠ (xfer 0xA021 id).total := by decide

/-- DRAM channel `m` is changed by `f`. -/
def dram (m : Nat) (f : Dram → Dram) : State := modChan m f base
theorem test_witness_DramReleases : let u := advance 0 (dram 5 fun c => { c with st := 2 })
    NewRequest u (ask 1) ∧ mooring u = false ∧ isHm u 1 = true ∧ isHm u 2 = false ∧ (u.chan 5).st = 2 ∧ (u.chan 0).st ≠ 2 ∧
    (u.chan 0).st ≠ 5 ∧ ((dram 0 fun c => { c with st := 5 }).chan 0).st = 5 := by decide
theorem test_witness_DramAutoRelease : let u := fun n => advance n (modDict (fun d => { d with rw := putVal 0x3000 4 1 d.rw }) (dram 5 fun c => { c with st := 2 }))
    (u 400000000).rwv 0x3000 4 ≠ 0 ∧ ((u 400000000).chan 5).st = 2 ∧
    ((u 400000000).chan 5).frozenAt + (u 400000000).rwv 0x3000 4 * 400000000 ≤ (u 400000000).now ∧
    (u 399999999).now < ((u 399999999).chan 5).frozenAt + (u 399999999).rwv 0x3000 4 * 400000000 ∧ (dram 5 id).rwv 0x3000 4 = 0 := by decide
theorem test_witness_DramFreezes : (base.chan 0).st = 0 ∧ (base.chan (twin 0)).st = 0 ∧ (base.chan 0).freezes < 2 ∧
    ((dram 0 fun c => { c with freezes := 2 }).chan 0).freezes = 2 ∧ ((dram (twin 5) fun c => { c with st := 2 }).chan (twin 5)).st = 2 ∧
    (base.chan 5).st = 0 ∧ (base.chan 5).retry = none ∧ ((dram 1 fun c => { c with st := 3 }).chan 1).st = 3 := by decide
theorem test_witness_DramTraining :
    let c := fun (p : TrainPhase) (after : Bool) => (dram 0 fun c => { c with st := 1, phase := p, afterRelease := after }).chan 0
    (c .drain false).phase = .drain ∧ (c .drain false).changing = false ∧ (c .sweep false).phase = .sweep ∧ (c .retest true).phase = .retest ∧
    (c .retest true).afterRelease = true ∧ (c .retest false).afterRelease = false ∧ (c .oldRetest true).phase = .oldRetest ∧
    (c .replay false).phase = .replay ∧ ((dram 0 fun c => { c with st := 4 }).chan 0).st = 4 := by decide
theorem test_witness_DramQuiet : let u := advance 0 base
    u.dev.dram.due = [] ∧ u.dev.dram.change = none ∧ u.dev.dram.ratePending = 0xFF ∧ (∀ k, k < 6 → (u.chan k).rate = u.act 0x3000 1) ∧
    NewRequest u (ask 1) ∧ MayWrite u (ask 1) 0x3000 ∧ (∀ k, k < 6 → (u.chan k).st = 0) ∧ bit 4 2 = true ∧ bit 4 0 = false ∧
    ((dram 4 fun c => { c with st := 2 }).chan (2 * 2)).st = 2 := by decide
theorem test_witness_DramRefresh : let u := modCore 63 (fun c => { c with src := { c.src with panic := true } }) base
    (base.chan 0).st ≠ 2 ∧ (base.chan 0).st ≠ 3 ∧ (base.chan 0).st ≠ 5 ∧ panicOn base 0 = false ∧ panicOn u 3 = true ∧
    (base.chan 3).work.queue = [] ∧ (7 : Nat) ≠ 6 ∧
    tget 0 15 (u.chan 3).owed < 8 ∧ 8 ≤ tget 0 15 ((dram 3 fun c => { c with owed := [(15, 8)] }).chan 3).owed := by decide +kernel

/-- Berth slot `k` reads and writes bank 127, which belongs to Berth. -/
def docked (k v owner : Nat) (f : Scratch → Scratch) : State := modScratch f (put 0x3050 (k + 1) v (put 0x317F 1 owner base))
theorem test_witness_BerthAccesses : let u := docked 7 0x37F 0x42 id
    let b := berthSlot u 7 % 128
    u.dev.power.phase = .ready ∧ bit (berthSlot u 7) 8 = true ∧ controlSlot u 7 = false ∧ bit (berthSlot u 7) 9 = true ∧ b = 127 ∧
    bankOwner u b = 0x42 ∧ borrowed u b 65535 = false ∧ memWf 0 u.dev.scratch.content = true ∧
    bankOwner (docked 0 0x17F 0x41 id) 127 ≠ 0x42 ∧ bit (berthSlot (docked 0 0x17F 0x41 id) 0) 9 = false ∧
    (advance 3 u).now = 3 ∧ bankOwner (advance 3 u) b = 0x42 := by decide
theorem test_witness_BerthArbitration :
    let x : March := { bank := 127, destructive := false, algorithm := 0, background := 0, row := 1, cur := 0, window := some 0, saved := [],
                       releasedAt := 0, again := [], fail := none, prevOwner := 0x41 }
    let u := fun (owner _ : Nat) => advance 0 (docked 7 0x37F owner fun d => { d with march := some x })
    (u 0x42 0).dev.scratch.march = some x ∧ x.bank = berthSlot (u 0x42 0) 7 % 128 ∧ bankOwner (u 0x42 0) 127 = 0x42 ∧
    borrowed (u 0x42 0) 127 65535 = false ∧ borrowed (u 0x42 0) 127 63 = true ∧ bankOwner (u 0x41 0) 127 = 0x41 ∧
    (portWords { master := 0x40, march := false, word := 65535, op := .write 7 }).any (borrowed (u 0x42 0) 127) = false ∧
    bankOwner (docked 7 0x37F 0x40 id) 127 = 0x40 ∧ (docked 7 0x37F 0x40 id).dev.scratch.march = none := by decide +kernel
theorem test_witness_BerthControl : let u := docked 7 0x700 0x42 fun x => { x with berth := { x.berth with handover := some (127, 0x41) } }
    bit (berthSlot u 7) 8 = true ∧ bit (berthSlot u 7) 10 = true ∧ bit (berthSlot u 7) 9 = true ∧
    bankOwner u (0x437F % 128) = 0x42 ∧ bits 0x437F 15 8 ≤ 0x43 ∧ bankOwner u 126 ≠ 0x42 ∧
    u.dev.scratch.berth.handover = some (127, 0x41) ∧ u.dev.dict.commit.st = 0 ∧ (u.session 2).isOpen = true ∧
    bit (noticeMask (u.session 2)) 3 = true ∧ (u.session 2).notices.length < 256 ∧ key 0x317F 1 ∉ u.dev.dict.changed := by decide
theorem test_witness_BerthDoorbell : let u := advance 0 base
    NewRequest u (ask 1) ∧ MayWrite u (ask 1) 0x3050 ∧ 4294967295 < 2 ^ 32 := by decide
/-- A march run on bank 127. -/
def marching (f : March → March) : State :=
  let x : March := { bank := 127, destructive := false, algorithm := 0, background := 0, row := 1023, cur := 1023, window := none, saved := [],
                     releasedAt := 0, again := [], fail := none, prevOwner := 0x41 }
  docked 0 0 0x41 fun d => { d with march := some (f x) }
theorem test_witness_MarchStarts : let u := advance 0 (put 0x3177 1 0x41 base)
    NewRequest u (ask 1) ∧ MayWrite u (ask 1) 0x3040 ∧ lowest (marchCodes (clearBit 119 8) u) = 0 ∧ lowest (marchCodes (setBit 119 8) u) = 0 ∧
    (marching id).dev.scratch.march.isSome = true := by decide +kernel
theorem test_witness_MarchRuns : let u := advance 4000000 (marching id)
    ∃ x, u.dev.scratch.march = some x ∧ x.destructive = false ∧ x.window = none ∧ x.row < 1024 ∧ x.releasedAt + u.rwv 0x3040 4 ≤ u.now :=
  ⟨_, rfl, by decide⟩
theorem test_witness_MarchWindow : let u := fun n => advance n (marching fun x => { x with window := some 5 })
    (∃ x, (u 1029).dev.scratch.march = some x ∧ x.window = some 5 ∧ 5 + min (642 + 383) 1024 ≤ (u 1029).now ∧
      memWf 0 (u 1029).dev.scratch.content = true) ∧
    ∃ x, (u 646).dev.scratch.march = some x ∧ x.window = some 5 ∧ (u 646).now < 5 + min (642 + 0) 1024 :=
  ⟨⟨_, rfl, by decide⟩, _, rfl, by decide⟩
theorem test_witness_MarchOver : ∃ x, (marching fun x => { x with row := 1024 }).dev.scratch.march = some x ∧ x.destructive = false ∧
    runOver (marching id) x = true := ⟨_, rfl, by decide⟩
theorem test_witness_MarchOver_destructive : let u := advance 40000000000 (marching fun x => { x with destructive := true })
    ∃ x, u.dev.scratch.march = some x ∧ x.destructive = true ∧ runOver u x = true := ⟨_, rfl, by decide⟩
theorem test_witness_Retention : let u := advance 40000 (put 0x317F 2 1 base)
    u.act 0x317F 2 = 1 ∧ (u.bank 127).retention = false ∧ (u.bank 127).waking = false ∧ (u.bank 127).lastAccess + 40000 ≤ u.now ∧
    u.dev.scratch.march = none ∧ base.now < (base.bank 127).lastAccess + 40000 ∧
    ((modBank 127 (fun k => { k with waking := true }) base).bank 127).waking = true := by decide

/-- 8 temperature readings of `v`/1024 °C. -/
def temps8 (v : Int) : List Int := List.replicate 8 v
theorem test_witness_CalDue : let u := advance 4000000 base
    u.now % 4000000 = 0 ∧ u.dev.power.phase = .ready ∧ (temps8 1025).length = 8 ∧ (u.cal 63).pass = none ∧ (u.cal 63).dueAt = none ∧
    passesStopped u 63 = false ∧ 1024 * calDelta u < 100 * (listAt 0 7 (temps8 102400) - (u.cal 63).tCal).natAbs := by decide
theorem test_witness_CalStart : let u := advance 4000000 (put 0x5000 1 1 (modCal 63 (fun x => { x with dueAt := some 0 }) base))
    u.act 0x5000 1 = 1 ∧ (u.cal 63).dueAt ≠ none ∧ passesStopped u 63 = false ∧ (∀ j, j < 8 → (u.cal (8 * 7 + j)).pass = none) ∧
    ∀ j, j < 8 → j ≠ 7 → (u.cal (8 * 7 + j)).dueAt = none ∧ 100 * (listAt 0 j (temps8 0) - (u.cal (8 * 7 + j)).tCal).natAbs ≤ 1024 * calDelta u := by
  decide
/-- A pass of channel 63 since N = 0 at element `k`. -/
def passing (k : Nat) (done : Option Nat) : State := modCal 63 (fun x => { x with
  pass := some { start := 0, tStart := 7, element := k, trims := [], result := done.map fun _ =>
    { k := [], oc := [], thOffset := [], senseCorr := [], monOffset := 0, monGain := 0 }, done := done } }) base
theorem test_witness_CalPass : let p : CalPass := { start := 0, tStart := 7, element := 65, trims := [], result := none, done := none }
    ((passing 65 none).cal 63).pass = some p ∧ p.element < 66 ∧ (advance 792000000 (passing 65 none)).now = p.start + 12000000 * (p.element + 1) ∧
    (advance 800000000 (passing 65 none)).now = p.start + 800000000 ∧
    0 ∈ ((passing 0 none).cal 63).map ∧ (∃ k, k < 66 ∧ k ≠ 0 ∧ k ∉ ((passing 0 none).cal 63).map ∧ k ∉ ((passing 0 none).cal 63).retired) :=
  ⟨by decide, by decide, by decide, by decide, by decide, 65, by decide⟩
theorem test_witness_CalSwap : let u := advance 400000 (passing 66 (some 360000))
    u.now % 400000 = 0 ∧ (u.cal 63).pass.isSome = true ∧ ((u.cal 63).pass.bind (·.done)) = some 360000 ∧ 360000 + 40000 ≤ u.now ∧
    ((u.cal 63).pass.bind (·.result)).isSome = true ∧ (u.cal 63).source ≠ 3 ∧
    ((modCal 0 (fun x => { x with source := 3 }) base).cal 0).source = 3 := by decide
theorem test_witness_CalRecord : let r : CalRec := { good := true, seq := 1, time := 0, temp := 0, table := CalTable.unity, retired := [] }
    let u := modCal 63 (fun x => { x with waiting := some r }) base
    u.dev.power.brace = false ∧ (u.cal 63).waiting = some r ∧ copySeq (u.cal 63).copyB < copySeq (u.cal 63).copyA ∧
    copySeq none ≤ copySeq (some r) := by decide
theorem test_witness_CalReq : let u := advance 0 (put 0x5000 1 1 base)
    NewRequest u (ask 1) ∧ MayWrite u (ask 1) 0x5000 ∧ u.act 0x5000 1 = 1 ∧ (∀ c, c < 64 → bit (2 ^ 63) c = true → passesStopped u c = false) ∧
    bit (2 ^ 63) 63 = true ∧ bit (2 ^ 63) 0 = false ∧ (u.cal 63).dueAt = none ∧ (u.cal 63).pass = none ∧
    passesStopped (modCal 63 (fun x => { x with retired := [1, 2, 3] }) u) 63 = true := by decide
theorem test_witness_Takeover : let u := advance 3200 base
    u.dev.power.phase = .ready ∧ u.now % 3200 = 0 ∧ (u.engine 31).takeover = none ∧ (u.core 31).st ≠ .fault ∧ chooseSlot u 31 = some 64 ∧
    chooseSlot u 32 = some 65 ∧ chooseSlot (modFaults (fun f => { f with pe64 := 3, pe65 := 0xFE }) u) 0 = none ∧
    (u.core 31).lastTick ≠ some u.now ∧ servedAfter u 31 = [] ∧ servedAfter u 32 = [] := by decide +kernel
/-- Engine 31 took standby slot 64 at the edge at which engine 30 is detected too. -/
theorem test_witness_Takeover_tie :
    let y : Takeover := { f := 3200, tr := 15200, slot := 64, tc := 0, held := 0, suppressed := 0, retire := [], boundAt := 3200, block := 0 }
    let u := advance 3200 (modEngine 31 (fun g => { g with takeover := some y }) base)
    u.dev.power.phase = .ready ∧ (u.core 30).st ≠ .fault ∧ (u.engine 31).takeover = some y ∧ y.slot = 64 ∧ y.boundAt = u.now ∧ y.retire = [] ∧
    (∀ z, z < 64 → z ≠ 31 → (u.engine z).takeover = none) ∧ u.dev.faults.pe64 = 0xFF ∧ u.dev.faults.pe65 = 0xFF := by decide +kernel
theorem test_witness_Checkpoint : let k : Checkpoint := { edge := 3200, confirmed := false, core := base.core 0 }
    let u := advance 4800 (modEngine 0 (fun g => { g with checkpoints := [k] }) base)
    k ∈ (u.engine 0).checkpoints ∧ k.edge + 1600 = u.now ∧ (u.engine 0).takeover = none ∧ (u.core 0).st ≠ .fault := by decide
theorem test_witness_TakeoverResume :
    let x : Takeover := { f := 0, tr := 12000, slot := 65, tc := 0, held := 0, suppressed := 0, retire := [0], boundAt := 0, block := 0 }
    let u := fun n => advance n (modEngine 0 (fun g => { g with takeover := some x }) base)
    ((u 12000).engine 0).takeover = some x ∧ x.tr = (u 12000).now ∧ x.tr ≠ (u 0).now ∧ x.slot = 65 := by decide
theorem test_witness_Mgmt : let u := fun k => modFaults (fun f => { f with recovering := some (0, k) }) base
    base.dev.power.phase = .ready ∧ base.dev.faults.recovering = none ∧ (u 0).dev.faults.recovering = some (0, 0) ∧
    (u 1).dev.faults.recovering = some (0, 0 + 1) ∧ (base.out 56).lost = false := by decide
theorem test_witness_Fatal : base.dev.power.phase ≠ .porLow ∧ base.dev.power.phase ≠ .resetWait ∧ base.dev.power.brace = false ∧
    base.dev.faults.queue = [] := by decide
theorem test_witness_Replacement : let u := fun n => advance n (modFaults (fun f => { f with reasons := 2 }) base)
    (u 240000000000).dev.faults.reasons ≠ 0 ∧ (u 0).dev.faults.lastRequest + 240000000000 ≤ (u 240000000000).now ∧
    (u 239999999999).now < (u 0).dev.faults.lastRequest + 240000000000 ∧ base.dev.faults.reasons = 0 ∧
    NewRequest (u 0) (ask 1) ∧ MayWrite (u 0) (ask 1) 0x5400 := by decide
/-- The supply part is changed by `f`. -/
def pow (f : Power → Power) : State := modPower f base
theorem test_witness_Rails : let u := pow fun p => { p with brace := true, below := 2 ^ 10, clearAt := some 40000, analogWait := true }
    base.dev.power.phase ≠ .porLow ∧ base.dev.power.brace = false ∧ u.dev.power.brace = true ∧ u.dev.power.below = 2 ^ 10 ∧
    bit u.dev.power.below 10 = true ∧ u.dev.power.clearAt = some 40000 ∧ 40000 ≤ (advance 40000 u).now ∧ (advance 39999 u).now < 40000 ∧
    u.dev.power.analogWait = true ∧ base.dev.power.phase = .ready := by decide
theorem test_witness_AnalogRail : let u := advance 400 (put (chIdx 63 0) 1 1 (modPower (fun p => { p with analogAt := some 300 })
      (modOut 63 (fun o => { o with parkCause := 5 }) (modOut 0 (fun o => { o with parkCause := 0 }) base))))
    (u.out 0).parkCause = 0 ∧ (u.out 0).lost = false ∧ u.dev.power.analogAt = some 300 ∧ restartTick u 7 300 = u.now ∧ (u.out 0).parkDue = none ∧ u.dev.clock.numbering = .plain ∧
    (u.out 63).parkCause = 5 ∧ (u.out 63).seq = none ∧ (u.out 63).lost = false ∧ u.act (chIdx 63 0) 1 = 1 := by decide
theorem test_witness_Temp : let w := 1024 * (base.rwv 0x2220 1 : Int)
    hottest [(0, 112640)] = some (0, 112640) ∧ hottest [(0, 1), (15, 112641)] = some (15, 112641) ∧ w < w + 1 ∧ w + 1 ≤ 112640 ∧
    base.dev.power.tempWarned = false ∧ (pow fun p => { p with tempWarned := true }).dev.power.tempWarned = true := by decide
theorem test_witness_Porn : let u := fun (f : Power → Power) => pow fun p => f { p with phase := .porLow }
    base.dev.power.phase ≠ .porLow ∧ base.dev.power.keyWait = [] ∧ (u id).dev.power.phase = .porLow ∧ (u id).dev.power.bootNvm < 3 ∧
    imageOk (u id) ((u id).rwv 0x5100 3) = true ∧
    imageOk (u fun p => { p with imageA := false }) ((u id).rwv 0x5100 3) = false ∧
    imageOk (u fun p => { p with imageA := false }) (1 - (u id).rwv 0x5100 3) = true ∧
    imageOk (u fun p => { p with imageA := false, imageB := false }) (1 - (u id).rwv 0x5100 3) = false ∧
    3 ≤ (u fun p => { p with bootNvm := 3 }).dev.power.bootNvm := by decide
theorem test_witness_Starts_engines : let u := fun (a b : Nat) => modFaults (fun f => { f with retired := [9], pe64 := a, pe65 := b }) base
    base.dev.clock.epochSet = true ∧ (watching [] none base).dev.clock.epochSet = false ∧ (9 : Nat) ∈ (u 9 0xFF).dev.faults.retired ∧
    (u 9 0xFF).dev.faults.pe64 = 9 ∧ (u 0xFF 9).dev.faults.pe65 = 9 ∧ (u 0xFF 0xFF).dev.faults.pe64 ≠ 9 := by decide
theorem test_witness_Starts : (pow fun p => { p with phase := .starting 7 }).dev.power.phase = .starting 7 ∧
    (pow fun p => { p with phase := .starting 4 }).dev.power.phase = .starting 4 ∧
    (pow fun p => { p with restart := some (400, true) }).dev.power.restart = some (400, true) ∧ base.now < 400 ∧ 400 ≤ (advance 400 base).now ∧
    (pow fun p => { p with phase := .resetWait, pendingCause := 3 }).dev.power.phase = .resetWait ∧ base.dev.scratch.repairs = [] ∧
    (∀ b, (base.bank b).retired = false) ∧ (∀ m, (base.chan m).st ≠ 5) ∧ NewRequest base (ask 1) ∧ MayWrite base (ask 1) 0x2210 :=
  ⟨by decide, by decide, by decide, by decide, by decide, by decide, by decide, fun _ => rfl, fun _ => (by decide : (0 : Nat) ≠ 5), by decide, by decide⟩

/-! ### Values of the spec's own examples -/

/-- The next state of a command. -/
def after (o : Host.Outcome State Fault Refusal) : State := match o with | .next s => s | _ => State.reset

/-- The word of R41's example: −1,000,000 with markers M0 and M2. -/
theorem test_sample_word : wordSample 0xF0BDC050 = -1000000 ∧ wordMarkers 0xF0BDC050 = 5 := by decide
/-- The example of chapter 7: CH17 at +3.300 V. -/
theorem test_code_map : mapCode 0x400000 0 2703352 = 693248 ∧ mapCode 0x400000 0 2703367 = 693248 ∧ mapCode 0x400000 0 2703351 = 693247 ∧
    mapCode 0x400000 0 2703368 = 693249 ∧ mapCode 0x400000 0 (-3129613) = 328687 := by decide
/-- The carrier example of chapter 6 (P12): rise at t0 + 450 + 577 taps, fall at t0 + 750 + 961 taps, start at t0 + 1,201 + 258 taps. -/
theorem test_carrier_rise : nextCarrier (lineAs 1 (fun l => { l with
    delta := 234327918186, tickAt := 9000, psi := 105447563183700, dw := 4194304, dwFall := 4194304 }) base) 0 = some (64 * 9000 + 577, .rise) := by
  decide +kernel
theorem test_carrier_fall : nextCarrier (lineAs 1 (fun l => { l with
    delta := 234327918186, tickAt := 15000, psi := 175745938639500, dw := 4194304, dwFall := 4194304, rose := true }) base) 0 =
      some (64 * 15000 + 961, .fall) := by decide +kernel
theorem test_carrier_start : nextCarrier (lineAs 1 (fun l => { l with
    delta := 234327918186, tickAt := 24020, psi := 281427829741386, dw := 4194304, dwFall := 4194304, rose := true, fell := true }) base) 0 =
      some (64 * 24020 + 258, .start) := by decide +kernel
/-- R13's example: a rising level on TRIG5 captured at +7 asserts EL1797 at +10. -/
theorem test_trig_latency : lineAt (after (exec (.trigInputTransition 7 5 true) base)) 10 1797 = true := by decide
/-- The ring of chapter 11: hops from position 2 to positions 3 and 6 of eight. -/
theorem test_hops : let at_ := fun p => modRing (fun r => { r with devpos := p, size := 8 }) base
    hopsOf (at_ 3) true 2 = 1 ∧ hopsOf (at_ 6) true 2 = 4 ∧ hopsOf (at_ 6) false 2 = 4 ∧ hopsOf (at_ 5) false 2 = 5 := by decide
/-- FIPS 180-4: the message "abc". -/
theorem test_sha256 : (sha256 [0x61, 0x62, 0x63]).take 8 = [0xBA, 0x78, 0x16, 0xBF, 0x8F, 0x01, 0xCF, 0xEA] := by decide +kernel
/-- The frame of chapter 13's example, with an all-zero MAC: session 3's request 0x105 reads 0x6A07:0B. -/
theorem test_frame : let b := [0x53, 0x4B, 1, 1, 3, 0, 0x10, 0, 5, 1, 0, 0, 0, 0, 0, 0, 1, 0x0B, 7, 0x6A] ++ List.replicate 44 (0 : Byte)
    (parseFrame b).bind (frameCommand 0 0 true true) = some (.registerWrite 0
      { sess := 3, seq := 0x105, port := 0, macOk := true, view := none, staged := false } 0x6A07 0x0B 0 (.read 0)) := by decide +kernel
/-- Its response: success, epoch 18, one underrun. -/
theorem test_response :
    let a : Response := { seq := 0x105, code := 0, epoch := 18, data := [1, 0, 0, 0], port := 0, retransmit := false, at_ := 58 }
    frameBody 2 3 0 0x105 (responsePayload a) = [0x53, 0x4B, 1, 2, 3, 0, 0x14, 0, 5, 1, 0, 0, 0, 0, 0, 0, 0, 0, 0, 0, 0x12, 0, 0, 0, 0, 0, 0, 0,
      0, 0, 0, 0, 1, 0, 0, 0] := by decide
/-- The takeover example of chapter 17: E42, F at N = 10,000,013. -/
theorem test_takeover : ((after (exec (.engineFaultDetected 10000013 42 0 0) base)).engine 42).takeover.map (fun x => (x.tr, x.slot)) =
    some (10012020, 65) := by decide +kernel
/-- Table 18-3: VCORE at or above its threshold at +9,200, the clear edge at +49,200, BRACE_CLEAR at +49,201. -/
theorem test_brace : let s := after (exec (.railRecovery 9200 0 715) (after (exec (.railWarning 0 0 672) base)))
    s.dev.power.clearAt = some 49200 ∧ s.dev.power.brace = true ∧
    (after (exec (.braceClear 49200) s)).dev.power.brace = false ∧ lineAt (after (exec (.braceClear 49200) s)) 49201 2017 = true := by
  decide +kernel
/-- The location of chapter 17's example: SCH2, bank 5, row 0x1_2345, burst 17, DEVPOS 3. -/
theorem test_location : Loc.code 3 { dramLoc 2 with bank := 5, word := 0x12345, bit_ := 17, depth := 7 } = 0x7600002891A2A3E0 := by decide
/-- Table 14-11: a bank in which a read waits behind a write of its row (R373) shows in `DCH_FLAGS[3]`. -/
theorem test_in_order : dchFlags (after (exec
    (.dramReadComplete 0 4 .clean { bank := 6, row := 1, col := 0, addr := 0, syndrome := 0 } none 0
      [{ op := .write, bank := 5, row := 1, bytes := 32 }, { op := .engineRead 3, bank := 5, row := 1, bytes := 32 },
       { op := .controlRead, bank := 6, row := 1, bytes := 32 }]) base)) 4 = 8 := by decide +kernel

end Sys2Proof.Tests
end

/-! PROOFS. The machine after reset: what its tables, memories and dictionary read, and the two statements about it. -/

namespace Sys2Proof.Machine

/-! ### A machine whose tables list nothing reads its reset values -/

@[simp] theorem reset_engine (e : Nat) : State.reset.engine e = Engine.reset e := tget_nil _ e
@[simp] theorem reset_core (e : Nat) : State.reset.core e = EngCore.reset := by
  rw [State.core, reset_engine, Engine.reset]
@[simp] theorem reset_line (p : Nat) : State.reset.line p = Line.reset := tget_nil _ p
@[simp] theorem reset_out (c : Nat) : State.reset.out c = Out.reset := tget_nil _ c
@[simp] theorem reset_cmp (j : Nat) : State.reset.cmp j = Cmp.reset := tget_nil _ j
@[simp] theorem reset_seg (n : Nat) : State.reset.seg n = Seg.empty := tget_nil _ n
@[simp] theorem reset_session (k : Nat) : State.reset.session k = Session.free := tget_nil _ k
@[simp] theorem reset_dict : State.reset.dev.dict = Dict.reset := rfl
@[simp] theorem reset_faults : State.reset.dev.faults = Faults.reset := rfl

/-! ### Byte memories -/

@[simp] theorem memWf_nil (d : Byte) : memWf d [] = true := rfl

/-- Settles O5: the step tables and the scratchpad list no byte after reset. -/
theorem resetMemoriesCanonical : Obligations.ResetMemoriesCanonical := by
  have hActive : State.reset.dev.dict.stepsActive = [] := rfl
  have hStaged : State.reset.dev.dict.stepsStaged = [] := rfl
  have hScratch : State.reset.dev.scratch.content = [] := rfl
  unfold Obligations.ResetMemoriesCanonical MemoriesCanonical
  rw [hActive, hStaged, hScratch]
  exact ⟨memWf_nil 0, memWf_nil 0, memWf_nil 0⟩

/-! ### Defaults of the engine blocks (R8, R316) -/

/-- The blocks of the 64 engines fill 0x6000 to 0x7FFF, 0x80 indices each. -/
theorem rowsOf_engIdx {e off : Nat} (he : e < 64) (ho : off < 0x80) : rowsOf (engIdx e off) = engineRows e off := by
  have hrange : 0x6000 ≤ engIdx e off ∧ engIdx e off < 0x8000 := by unfold engIdx; omega
  have hblock : (engIdx e off - 0x6000) / 0x80 = e := by unfold engIdx; omega
  have hoff : (engIdx e off - 0x6000) % 0x80 = off := by unfold engIdx; omega
  simp only [rowsOf, hrange, hblock, hoff, decide_true, Bool.and_self, if_true]

theorem objDefault_engIdx {e off sub : Nat} {o : Obj} (he : e < 64) (ho : off < 0x80) (hrow : rowAt sub (engineRows e off) = some o) :
    objDefault (engIdx e off) sub = o.dflt := by
  have hobj : object (engIdx e off) sub = some o := by rw [object, rowsOf_engIdx he ho, hrow]
  simp only [objDefault, hobj]

/-- A copy that lists nothing reads the defaults. -/
@[simp] theorem copyVal_nil (index sub : Nat) : copyVal [] index sub = objDefault index sub := tget_nil _ _

theorem partBase_nil {e : Nat} (he : e < 64) : partBase [] e = 8192 * e :=
  calc partBase [] e
    _ = objDefault (engIdx e 1) 1 := copyVal_nil _ _
    _ = e * 8192 := objDefault_engIdx (o := (rs 1 1 (.u 4) (e * 8192)).obj) he (by decide) rfl
    _ = 8192 * e := Nat.mul_comm _ _

theorem partSize_nil {e : Nat} (he : e < 64) : partSize [] e = 8192 :=
  calc partSize [] e
    _ = objDefault (engIdx e 1) 2 := copyVal_nil _ _
    _ = 8192 := objDefault_engIdx (o := (rs 2 2 (.u 4) 8192).obj) he (by decide) rfl

/-! ### The reset values -/

/-- Settles O7: every unit reads its reset record, and the partitions read the defaults of their engine's block. -/
theorem resetValues : Obligations.ResetValues := by
  unfold Obligations.ResetValues
  simp only [reset_core, reset_engine, reset_seg, reset_out, reset_cmp, reset_line, reset_session, reset_dict, reset_faults]
  have hActive : Dict.reset.active = [] := rfl
  refine ⟨fun e he => ?_, fun _ => trivial, fun _ => ⟨rfl, rfl, rfl⟩, fun _ => ⟨rfl, rfl, rfl⟩, fun _ => ⟨rfl, rfl, rfl⟩, fun _ => rfl,
    rfl, rfl, rfl, rfl, rfl⟩
  rw [hActive, partBase_nil he, partSize_nil he]
  exact ⟨rfl, rfl, rfl, rfl, rfl, rfl, rfl, rfl, rfl, rfl, rfl, rfl, rfl, rfl⟩

end Sys2Proof.Machine

/-! PROOFS. Reports: what notices, fault reports and replacement reasons change, said once for the operations that make them. -/

namespace Sys2Proof.Machine

/-! ### Repetition over units -/

/-- In a repetition over distinct units, the pass of unit `x` takes `P` to `Q`, and the passes of the other units keep both. -/
theorem forAll_reaches {α : Type} (P Q : State → Prop) {l : List α} {f : α → State → State} {x : α} (hx : x ∈ l) (hl : l.Nodup)
    (hP : ∀ y s, y ≠ x → P s → P (f y s)) (hf : ∀ s, P s → Q (f x s)) (hQ : ∀ y s, y ≠ x → Q s → Q (f y s)) {s : State} (hs : P s) :
    Q (forAll l f s) := by
  have others : ∀ (R : State → Prop), (∀ y s, y ≠ x → R s → R (f y s)) →
      ∀ (l : List α) (s : State), x ∉ l → R s → R (forAll l f s) := by
    intro R hR l
    induction l with
    | nil => exact fun s _ h => h
    | cons y r ih =>
      intro s hn h
      obtain ⟨hy, hr⟩ := List.ne_and_not_mem_of_not_mem_cons hn
      exact ih _ hr (hR y s (Ne.symm hy) h)
  obtain ⟨a, b, rfl⟩ := List.append_of_mem hx
  have hxa : x ∉ a := fun h => (List.nodup_append.1 hl).2.2 x h x List.mem_cons_self rfl
  have hxb : x ∉ b := (List.nodup_cons.1 (List.nodup_append.1 hl).2.1).1
  have happ : forAll (a ++ x :: b) f s = forAll b f (f x (forAll a f s)) := by simp [forAll]
  rw [happ]
  exact others Q hQ b _ hxb (hf _ (others P hP a s hxa hs))

/-! ### Commands -/

theorem completes_atEdge {t : Nat} {f : State → State} {s : State} {P : State → Prop} (h : P (f (advance t s))) :
    Completes (atEdge t f s) P := ⟨_, rfl, h⟩

theorem completes_occurs {t : Nat} {c : State → Bool} {f : State → State} {s : State} {P : State → Prop} (hc : c (advance t s) = true)
    (h : P (f (advance t s))) : Completes (atEdge t (occurs c f) s) P :=
  completes_atEdge (by rwa [occurs_true _ _ _ hc])

/-! ### Reports -/

/-- The part of the fault state that no report changes: FAULTn, the standby slots and the retired slots. -/
def Faults.standing (f : Faults) : Faults :=
  { Faults.reset with faultnLow := f.faultnLow, pe64 := f.pe64, pe65 := f.pe65, retired := f.retired }

theorem standing_eq_iff {f g : Faults} :
    f.standing = g.standing ↔ f.faultnLow = g.faultnLow ∧ f.pe64 = g.pe64 ∧ f.pe65 = g.pe65 ∧ f.retired = g.retired := by
  simp [Faults.standing]

/-- `s'` is `s` after reports: of the device only the records of faults have changed and producer lines have been added, and no notice reaches
a link without sessions. -/
structure Reported (s s' : State) : Prop where
  rest : unnoticed (modFaults Faults.standing s') = unnoticed (modFaults Faults.standing s)
  lines : ∀ x ∈ s.dev.fabric.sched, x ∈ s'.dev.fabric.sched
  closed : s.link.sessions = [] → s'.link.sessions = []

namespace Reported

variable {s s' s'' : State}

theorem refl (s : State) : Reported s s := ⟨rfl, fun _ h => h, id⟩

theorem trans (h : Reported s s') (g : Reported s' s'') : Reported s s'' :=
  ⟨g.rest.trans h.rest, fun x hx => g.lines x (h.lines x hx), fun hs => g.closed (h.closed hs)⟩

theorem dict (h : Reported s s') : s'.dev.dict = s.dev.dict := congrArg Unnoticed.dict h.rest
theorem engines (h : Reported s s') : s'.dev.engines = s.dev.engines := congrArg Unnoticed.engines h.rest
theorem outs (h : Reported s s') : s'.dev.outs = s.dev.outs := congrArg Unnoticed.outs h.rest
theorem clock (h : Reported s s') : s'.dev.clock = s.dev.clock := congrArg Unnoticed.clock h.rest
theorem power (h : Reported s s') : s'.dev.power = s.dev.power := congrArg Unnoticed.power h.rest
theorem ring (h : Reported s s') : s'.dev.ring = s.dev.ring := congrArg Unnoticed.ring h.rest
theorem standing (h : Reported s s') : s'.dev.faults.standing = s.dev.faults.standing := congrArg Unnoticed.faults h.rest
theorem faultnLow (h : Reported s s') : s'.dev.faults.faultnLow = s.dev.faults.faultnLow := (standing_eq_iff.1 h.standing).1
theorem pe64 (h : Reported s s') : s'.dev.faults.pe64 = s.dev.faults.pe64 := (standing_eq_iff.1 h.standing).2.1
theorem pe65 (h : Reported s s') : s'.dev.faults.pe65 = s.dev.faults.pe65 := (standing_eq_iff.1 h.standing).2.2.1
theorem retired (h : Reported s s') : s'.dev.faults.retired = s.dev.faults.retired := (standing_eq_iff.1 h.standing).2.2.2

theorem engine (h : Reported s s') : s'.engine = s.engine := by funext e; simp only [State.engine, h.engines]
theorem core (h : Reported s s') : s'.core = s.core := by funext e; simp only [State.core, h.engine]
theorem out (h : Reported s s') : s'.out = s.out := by funext c; simp only [State.out, h.outs]
theorem now (h : Reported s s') : s'.now = s.now := by simp only [State.now, h.clock]
theorem gridE (h : Reported s s') : s'.gridE = s.gridE := by funext e; simp only [State.gridE, State.grid, State.act, h.dict]

theorem lineAt (h : Reported s s') {n l : Nat} (hl : lineAt s n l = true) : lineAt s' n l = true := by
  simp only [Machine.lineAt, List.contains_iff_mem] at hl ⊢
  exact h.lines _ hl

end Reported

variable (s : State)

theorem unnoticed_modFaults (f : Faults → Faults) :
    unnoticed (modFaults f s) = { unnoticed s with faults := f (unnoticed s).faults } := rfl

/-- A change of the fault records alone is a report. -/
theorem reported_modFaults (f : Faults → Faults) (h : (f s.dev.faults).standing = s.dev.faults.standing) : Reported s (modFaults f s) :=
  ⟨congrArg (fun x => { unnoticed s with faults := x }) h, fun _ hx => hx, id⟩

theorem reported_assertLine (n l : Nat) : Reported s (assertLine n l s) := ⟨rfl, fun _ => insertAssert_keeps _ _ _, id⟩

theorem reported_forAll {α : Type} (l : List α) (f : α → State → State) (hf : ∀ x s, Reported s (f x s)) : Reported s (forAll l f s) :=
  forAll_keeps (Reported s) l f (fun x t h => h.trans (hf x t)) s (.refl s)

theorem pump_dev (k : Nat) : (pump k s).dev = s.dev := by unfold pump; split <;> rfl

theorem enqueue_closed (k : Nat) (n : Notice) (h : s.link.sessions = []) : enqueue k n s = s := by
  have hf : s.session k = Session.free := by rw [State.session, h, tget_nil]
  simp [enqueue, hf, Session.free]

theorem reported_enqueue (k : Nat) (n : Notice) : Reported s (enqueue k n s) where
  rest := by rw [unnoticed_modFaults (s := enqueue k n s), unnoticed_modFaults (s := s), unnoticed_enqueue]
  lines x hx := by
    simp only [enqueue]
    split
    · split
      · rwa [pump_dev, (modSession_frame ..).1]
      · split
        · rw [pump_dev, (modSession_frame ..).1]; exact insertAssert_keeps _ _ _ hx
        · rw [(modSession_frame ..).1]; exact insertAssert_keeps _ _ _ hx
    · exact hx
  closed h := by rwa [enqueue_closed s k n h]

theorem reported_notify (code cls kind source step tag : Nat) (params : List Nat) :
    Reported s (notify code cls kind source step tag params s) := reported_forAll s _ _ fun k s => reported_enqueue s k _

theorem reported_notice (code cls kind source : Nat) (params : List Nat) : Reported s (notice code cls kind source params s) :=
  reported_notify s _ _ _ _ _ _ _

theorem reported_engineNotice (code cls e : Nat) (params : List Nat) : Reported s (engineNotice code cls e params s) :=
  reported_notify s _ _ _ _ _ _ _

theorem reported_logFault (x : LogEntry) : Reported s (logFault x s) := by
  unfold logFault
  split
  · exact reported_modFaults s _ rfl
  · split
    · exact reported_modFaults s _ rfl
    · split
      · exact reported_modFaults s _ (standing_eq_iff.2 ⟨rfl, rfl, rfl, rfl⟩)
      · split
        · exact reported_modFaults s _ (standing_eq_iff.2 ⟨rfl, rfl, rfl, rfl⟩)
        · exact (reported_modFaults s _ rfl).trans (reported_notice ..)

theorem reported_reportFault (cls kind source cause location p0 p1 : Nat) :
    Reported s (reportFault cls kind source cause location p0 p1 s) := (reported_modFaults s _ rfl).trans (reported_logFault _ _)

theorem reported_requestNotice : Reported s (requestNotice s) := (reported_modFaults s _ rfl).trans (reported_notice _ _ _ _ _ _)

theorem reported_raiseReason (k : Nat) : Reported s (raiseReason k s) := by
  unfold raiseReason
  split
  · exact .refl s
  · exact (reported_modFaults s _ rfl).trans (reported_requestNotice _)

theorem reported_degraded : Reported s (degraded s) := reported_assertLine s _ _

theorem requestNotice_reasons : (requestNotice s).dev.faults.reasons = s.dev.faults.reasons := by
  simp [requestNotice]

theorem bit_setBit_same (v k : Nat) : bit (setBit v k) k = true := by
  unfold setBit
  split
  · assumption
  · rename_i h
    simp only [bit, beq_iff_eq] at h ⊢
    rw [Nat.add_div_right _ (Nat.two_pow_pos k)]
    omega

/-- A reason that is raised shows in `REPLACE_REASONS` (R463). -/
theorem raiseReason_reasons (k : Nat) : bit (raiseReason k s).dev.faults.reasons k = true := by
  unfold raiseReason
  split
  · assumption
  · rw [requestNotice_reasons]; exact bit_setBit_same _ _

/-! ### One channel -/

/-- From `s` to `s'` channel `c` alone has acted, with reports: the other outputs, the engines, the configuration, the clock, power and the
standing fault state are what they were, and no assertion is taken back. -/
structure ChannelOnly (c : Nat) (s s' : State) : Prop where
  out_ne : ∀ x, x ≠ c → s'.out x = s.out x
  dict : s'.dev.dict = s.dev.dict
  engines : s'.dev.engines = s.dev.engines
  clock : s'.dev.clock = s.dev.clock
  power : s'.dev.power = s.dev.power
  standing : s'.dev.faults.standing = s.dev.faults.standing
  lines : ∀ x ∈ s.dev.fabric.sched, x ∈ s'.dev.fabric.sched

namespace ChannelOnly

variable {c : Nat} {s s' s'' : State}

theorem refl (c : Nat) (s : State) : ChannelOnly c s s := ⟨fun _ _ => rfl, rfl, rfl, rfl, rfl, rfl, fun _ h => h⟩

theorem trans (h : ChannelOnly c s s') (g : ChannelOnly c s' s'') : ChannelOnly c s s'' where
  out_ne x hx := (g.out_ne x hx).trans (h.out_ne x hx)
  dict := g.dict.trans h.dict
  engines := g.engines.trans h.engines
  clock := g.clock.trans h.clock
  power := g.power.trans h.power
  standing := g.standing.trans h.standing
  lines x hx := g.lines x (h.lines x hx)

theorem engine (h : ChannelOnly c s s') : s'.engine = s.engine := by funext e; simp only [State.engine, h.engines]
theorem core (h : ChannelOnly c s s') : s'.core = s.core := by funext e; simp only [State.core, h.engine]
theorem retired (h : ChannelOnly c s s') : s'.dev.faults.retired = s.dev.faults.retired := (standing_eq_iff.1 h.standing).2.2.2
theorem now (h : ChannelOnly c s s') : s'.now = s.now := by simp only [State.now, h.clock]

theorem lineAt (h : ChannelOnly c s s') {n l : Nat} (hl : lineAt s n l = true) : lineAt s' n l = true := by
  simp only [Machine.lineAt, List.contains_iff_mem] at hl ⊢
  exact h.lines _ hl

end ChannelOnly

theorem Reported.channelOnly {s s' : State} (h : Reported s s') (c : Nat) : ChannelOnly c s s' :=
  ⟨fun _ _ => by rw [h.out], h.dict, h.engines, h.clock, h.power, h.standing, h.lines⟩

theorem channelOnly_modOut (c : Nat) (f : Out → Out) : ChannelOnly c s (modOut c f s) :=
  ⟨fun _ h => modOut_out_ne s _ _ h f, rfl, rfl, rfl, rfl, rfl, fun _ h => h⟩

theorem channelOnly_modCal (c : Nat) (f : Cal → Cal) : ChannelOnly c s (modCal c f s) :=
  ⟨fun _ _ => rfl, rfl, rfl, rfl, rfl, rfl, fun _ h => h⟩

theorem channelOnly_latchDac (c : Nat) : ChannelOnly c s (latchDac c s) := by
  unfold latchDac
  simp only
  split
  · exact .refl c s
  · split
    · exact channelOnly_modOut s c _
    · split
      · exact channelOnly_modOut s c _
      · exact .refl c s

theorem channelOnly_abandonSeq (n c : Nat) : ChannelOnly c s (abandonSeq n c s) := by
  unfold abandonSeq
  split
  · split <;> exact channelOnly_modOut s c _
  · exact .refl c s

theorem channelOnly_hardPark (n c cause : Nat) : ChannelOnly c s (hardPark n c cause s) := by
  unfold hardPark
  simp only
  split
  · exact channelOnly_modOut s c _
  · split
    · split
      · exact channelOnly_modOut s c _
      · exact .refl c s
    · exact (channelOnly_abandonSeq s n c).trans ((channelOnly_modOut _ c _).trans (channelOnly_modOut _ c _))

theorem channelOnly_lostCopies (c : Nat) (f : Tbl LostCopy → Tbl LostCopy) :
    ChannelOnly c s (modDev (fun d => { d with lostCopies := f d.lostCopies }) s) :=
  ⟨fun _ _ => rfl, rfl, rfl, rfl, rfl, rfl, fun _ h => h⟩

/-- A lost channel alone changes, and is lost (R459). -/
theorem loseChannel_spec (c : Nat) (l : Loc) : ChannelOnly c s (loseChannel c l s) ∧ ((loseChannel c l s).out c).lost = true := by
  unfold loseChannel
  split
  · exact ⟨.refl c s, ‹_›⟩
  · have reports : ∀ v, Reported v (raiseReason 6 (notice 0x0055 0 2 c [locate s l] (reportFault 1 2 c 0x0055 (locate s l) (locate s l) 0 v))) :=
      fun v => ((reported_reportFault v ..).trans (reported_notice ..)).trans (reported_raiseReason ..)
    refine ⟨.trans ?_ ((reports _).channelOnly c), ?_⟩
    · exact (channelOnly_modOut s c _).trans ((channelOnly_modCal _ c _).trans (channelOnly_lostCopies _ c (tset c _)))
    · rw [(reports _).out]
      show (tget Out.reset c (tset c _ s.dev.outs)).lost = true
      rw [tget_tset_same]

end Sys2Proof.Machine

/-! PROOFS. Checkpoints and takeovers (chapter 17): what each operation does, and the statement about them. -/

namespace Sys2Proof.Machine

variable (s : State)

/-! ### Checkpoints -/

/-- From `s` to `s'` only what engines keep for a takeover has changed: their checkpoints and event logs. -/
structure CheckpointsOnly (s s' : State) : Prop where
  dev : s'.dev = { s.dev with engines := s'.dev.engines }
  link : s'.link = s.link
  core : ∀ e, s'.core e = s.core e
  takeover : ∀ e, (s'.engine e).takeover = (s.engine e).takeover

namespace CheckpointsOnly

variable {s s' s'' : State}

theorem refl (s : State) : CheckpointsOnly s s := ⟨rfl, rfl, fun _ => rfl, fun _ => rfl⟩

theorem trans (h : CheckpointsOnly s s') (g : CheckpointsOnly s' s'') : CheckpointsOnly s s'' where
  dev := g.dev.trans (congrArg (fun d : Device => { d with engines := s''.dev.engines }) h.dev)
  link := g.link.trans h.link
  core e := (g.core e).trans (h.core e)
  takeover e := (g.takeover e).trans (h.takeover e)

theorem now (h : CheckpointsOnly s s') : s'.now = s.now := by rw [State.now, h.dev, State.now]

theorem engineSound (h : CheckpointsOnly s s') (e : Nat) : engineSound s' e = engineSound s e := by
  simp only [Machine.engineSound, h.takeover, h.core]

end CheckpointsOnly

theorem checkpointsOnly_modEngine (e : Nat) (f : Engine → Engine) (hc : (f (s.engine e)).core = (s.engine e).core)
    (ht : (f (s.engine e)).takeover = (s.engine e).takeover) : CheckpointsOnly s (modEngine e f s) := by
  refine ⟨rfl, rfl, fun x => ?_, fun x => ?_⟩ <;> rcases eq_or_ne x e with rfl | hx
  · rw [State.core, modEngine_engine, hc, State.core]
  · rw [State.core, modEngine_engine_ne s e x hx, State.core]
  · rw [modEngine_engine, ht]
  · rw [modEngine_engine_ne s e x hx]

theorem engineSound_iff (e : Nat) : engineSound s e = true ↔ (s.engine e).takeover = none ∧ (s.core e).st ≠ .fault := by
  simp [engineSound]

theorem checkpointsOnly_write (e : Nat) : CheckpointsOnly s (writeCheckpoint e s) := by
  unfold writeCheckpoint
  split
  · exact checkpointsOnly_modEngine s e _ rfl rfl
  · exact .refl s

theorem checkpointsOnly_confirm (e : Nat) : CheckpointsOnly s (confirmCheckpoint e s) := by
  unfold confirmCheckpoint
  split
  · exact checkpointsOnly_modEngine s e _ rfl rfl
  · exact .refl s

theorem writeCheckpoint_ne {y e : Nat} (h : y ≠ e) : (writeCheckpoint y s).engine e = s.engine e := by
  unfold writeCheckpoint
  split
  · exact modEngine_engine_ne s y e h.symm _
  · rfl

theorem confirmCheckpoint_ne {y e : Nat} (h : y ≠ e) : (confirmCheckpoint y s).engine e = s.engine e := by
  unfold confirmCheckpoint
  split
  · exact modEngine_engine_ne s y e h.symm _
  · rfl

theorem writeCheckpoint_unsound {e : Nat} (h : engineSound s e = false) : writeCheckpoint e s = s := by
  simp [writeCheckpoint, h]

/-- A written checkpoint is unconfirmed, and an engine holds three at most (R449). -/
theorem writeCheckpoint_spec {e : Nat} (h : engineSound s e = true) :
    ((writeCheckpoint e s).engine e).checkpoints.length ≤ 3 ∧
    { edge := s.now, confirmed := false, core := s.core e } ∈ ((writeCheckpoint e s).engine e).checkpoints := by
  simp only [writeCheckpoint, h, if_true, modEngine_engine, List.length_append, List.length_singleton]
  constructor
  · rw [List.length_drop, List.length_append, List.length_singleton]; omega
  · rw [List.drop_append_of_le_length (by omega)]
    exact List.mem_append_right _ (List.mem_singleton.2 rfl)

theorem confirmCheckpoint_spec {e : Nat} (h : engineSound s e = true) {c : Checkpoint} (hc : c ∈ (s.engine e).checkpoints)
    (hn : c.edge + 1600 = s.now) : { c with confirmed := true } ∈ ((confirmCheckpoint e s).engine e).checkpoints := by
  simp only [confirmCheckpoint, h, if_true, modEngine_engine]
  exact List.mem_map.2 ⟨c, hc, if_pos hn⟩

/-- CHECKPOINT over all engines. -/
def checkpointAll : State → State := forAll (List.range 64) writeCheckpoint

/-- CHECKPOINT_CONFIRMED over all engines. -/
def confirmAll : State → State := forAll (List.range 64) confirmCheckpoint

theorem checkpointsOnly_checkpointAll : CheckpointsOnly s (checkpointAll s) :=
  forAll_keeps (CheckpointsOnly s) _ _ (fun e t h => h.trans (checkpointsOnly_write t e)) s (.refl s)

theorem checkpointsOnly_confirmAll : CheckpointsOnly s (confirmAll s) :=
  forAll_keeps (CheckpointsOnly s) _ _ (fun e t h => h.trans (checkpointsOnly_confirm t e)) s (.refl s)

theorem checkpointAll_sound {e : Nat} (he : e < 64) (hs : engineSound s e = true) :
    ((checkpointAll s).engine e).checkpoints.length ≤ 3 ∧
    { edge := s.now, confirmed := false, core := s.core e } ∈ ((checkpointAll s).engine e).checkpoints := by
  refine forAll_reaches (x := e) (CheckpointsOnly s)
    (fun t => (t.engine e).checkpoints.length ≤ 3 ∧ { edge := s.now, confirmed := false, core := s.core e } ∈ (t.engine e).checkpoints)
    (List.mem_range.2 he) List.nodup_range (fun y t _ h => h.trans (checkpointsOnly_write t y)) (fun t h => ?_) (fun y t hy h => ?_) (.refl s)
  · have hw := writeCheckpoint_spec t ((h.engineSound e).trans hs)
    rwa [h.now, h.core] at hw
  · rwa [writeCheckpoint_ne t hy]

theorem checkpointAll_takeover {e : Nat} (h : (s.engine e).takeover ≠ none) : (checkpointAll s).engine e = s.engine e := by
  refine forAll_keeps (fun t => t.engine e = s.engine e) _ _ (fun y t ht => ?_) s rfl
  rcases eq_or_ne y e with rfl | hy
  · have hu : engineSound t y = false := by
      rw [Bool.eq_false_iff, Ne, engineSound_iff, ht]
      exact fun hs => h hs.1
    rwa [writeCheckpoint_unsound t hu]
  · rwa [writeCheckpoint_ne t hy]

theorem confirmAll_sound {e : Nat} (he : e < 64) (hs : engineSound s e = true) {c : Checkpoint} (hc : c ∈ (s.engine e).checkpoints)
    (hn : c.edge + 1600 = s.now) : { c with confirmed := true } ∈ ((confirmAll s).engine e).checkpoints := by
  refine forAll_reaches (x := e) (fun t => CheckpointsOnly s t ∧ t.engine e = s.engine e)
    (fun t => { c with confirmed := true } ∈ (t.engine e).checkpoints)
    (List.mem_range.2 he) List.nodup_range (fun y t hy h => ?_) (fun t h => ?_) (fun y t hy h => ?_) ⟨.refl s, rfl⟩
  · exact ⟨h.1.trans (checkpointsOnly_confirm t y), by rw [confirmCheckpoint_ne t hy, h.2]⟩
  · exact confirmCheckpoint_spec t ((h.1.engineSound e).trans hs) (h.2 ▸ hc) (hn.trans h.1.now.symm)
  · rwa [confirmCheckpoint_ne t hy]

/-! ### Ticks of a quay -/

theorem gridE_pos (e : Nat) : 0 < s.gridE e := by
  simp [State.gridE, State.grid, gridOf]

theorem alignUp_spec {m : Nat} (hm : 0 < m) (n : Nat) : n ≤ alignUp m n ∧ alignUp m n < n + m ∧ alignUp m n % m = 0 := by
  unfold alignUp
  have h := Nat.div_add_mod (n + m - 1) m
  have hr := Nat.mod_lt (n + m - 1) hm
  rw [Nat.mul_comm] at h
  exact ⟨by omega, by omega, Nat.mul_mod_left _ _⟩

/-! ### Slots -/

theorem slotBusy_iff (k : Nat) :
    slotBusy s k = true ↔ ∃ e, e < 64 ∧ ∃ x, (s.engine e).takeover = some x ∧ (x.slot = k ∨ k ∈ x.retire) := by
  simp only [slotBusy, List.any_eq_true, List.mem_range]
  refine exists_congr fun e => and_congr_right fun _ => ?_
  cases (s.engine e).takeover <;> simp

theorem Reported.slotFree {s s' : State} (h : Reported s s') : slotFree s' = slotFree s := by
  funext k; simp only [Machine.slotFree, slotBusy, h.engine, h.pe64, h.pe65]

theorem Reported.chooseSlot {s s' : State} (h : Reported s s') (e : Nat) : chooseSlot s' e = chooseSlot s e := by
  simp only [Machine.chooseSlot, h.slotFree]

theorem Reported.servedAfter {s s' : State} (h : Reported s s') (e : Nat) : servedAfter s' e = servedAfter s e := by
  simp only [Machine.servedAfter, h.engine, h.now]

/-- The preferred slot is taken unless it is not free (R21). -/
theorem chooseSlot_preferred {e k : Nat} (h : chooseSlot s e = some k) :
    k = (if e < 32 then 64 else 65) ∨ slotFree s (if e < 32 then 64 else 65) = false := by
  unfold chooseSlot at h
  split at h <;> (rename_i he; simp only [he, if_true, if_false, List.find?] at h ⊢)
  all_goals
    split at h
    · exact .inl (Option.some.inj h).symm
    · rename_i hf; exact .inr (by simpa using hf)

theorem mem_foldl_retire {k : Nat} (l : List Nat) : ∀ r : List Nat, k ∈ r ∨ k ∈ l →
    k ∈ l.foldl (fun r k => if r.contains k then r else r ++ [k]) r := by
  induction l with
  | nil => simp
  | cons a l ih =>
    intro r h
    refine ih _ ?_
    by_cases ha : a ∈ r <;> simp only [List.contains_iff_mem, ha, if_true, if_false, List.mem_cons, List.mem_append, List.mem_nil_iff,
      or_false] at h ⊢
    · rcases h with h | rfl | h
      · exact .inl h
      · exact .inl ha
      · exact .inr h
    · exact or_assoc.2 h

theorem retireSlots_retired {k : Nat} {l : List Nat} (h : k ∈ l) : k ∈ (retireSlots l s).dev.faults.retired :=
  mem_foldl_retire l _ (.inr h)

/-! ### The start of a takeover -/

/-- The takeover that a detection edge begins (R451). -/
def newTakeover (e k block : Nat) (s : State) : Takeover :=
  { f := s.now, tr := s.tickAt e (s.now + 12000), slot := k, tc := newestConfirmed (s.engine e),
    held := if (s.core e).lastTick = some s.now then (s.core e).play.codePrev else (s.core e).play.code,
    suppressed := (s.dev.fabric.sched.filter (dueOutputs e s.now)).length, retire := [], boundAt := s.now, block := block }

theorem latchDac_offOuts (c : Nat) : offOuts (latchDac c s) = offOuts s := by
  unfold latchDac
  simp only
  split
  · rfl
  · split
    · rfl
    · split <;> rfl

/-- Off the outputs, a takeover that begins changes its engine's takeover and checkpoints and takes its producer outputs to come out of the
schedule. -/
theorem beginTakeover_offOuts (e k block : Nat) : offOuts (beginTakeover e k block s) =
    offOuts (modEngine e (fun g => { g with
        takeover := some (newTakeover e k block s), checkpoints := g.checkpoints.filter Checkpoint.confirmed })
      (modFabric (fun x => { x with sched := x.sched.filter fun a => !dueOutputs e s.now a }) s)) := by
  by_cases h : (s.core e).lastTick = some s.now
  · simp only [beginTakeover, newTakeover, if_pos h, latchDac_offOuts]; rfl
  · simp only [beginTakeover, newTakeover, if_neg h]; rfl

theorem beginTakeover_fields (e k block : Nat) :
    (beginTakeover e k block s).engine = (modEngine e (fun g => { g with
      takeover := some (newTakeover e k block s), checkpoints := g.checkpoints.filter Checkpoint.confirmed }) s).engine ∧
    (beginTakeover e k block s).dev.fabric.sched = s.dev.fabric.sched.filter (fun a => !dueOutputs e s.now a) ∧
    (beginTakeover e k block s).dev.faults = s.dev.faults ∧ (beginTakeover e k block s).dev.dict = s.dev.dict := by
  obtain ⟨hd, -⟩ := offOuts_fields (beginTakeover_offOuts s e k block)
  refine ⟨?_, ?_, ?_, ?_⟩
  · funext x; rw [State.engine, hd]; rfl
  all_goals rw [hd]; rfl

theorem beginTakeover_engine (e k block : Nat) : ((beginTakeover e k block s).engine e).takeover = some (newTakeover e k block s) := by
  rw [(beginTakeover_fields s e k block).1, modEngine_engine]

theorem beginTakeover_core (e k block : Nat) : (beginTakeover e k block s).core e = s.core e := by
  rw [State.core, (beginTakeover_fields s e k block).1, modEngine_engine, State.core]

theorem beginTakeover_engine_ne (e k block : Nat) {x : Nat} (h : x ≠ e) : (beginTakeover e k block s).engine x = s.engine x := by
  rw [(beginTakeover_fields s e k block).1, modEngine_engine_ne s e x h]

/-- FAULT, output 15, is asserted during a takeover as before it (R452). -/
theorem beginTakeover_lineAt_fault (e k block : Nat) {n : Nat} (h : lineAt s n (16 * e + 15) = true) :
    lineAt (beginTakeover e k block s) n (16 * e + 15) = true := by
  simp only [lineAt, List.contains_iff_mem, (beginTakeover_fields s e k block).2.1] at h ⊢
  refine List.mem_filter.2 ⟨h, ?_⟩
  simp [dueOutputs, Nat.add_mod]

/-- The other outputs of the engine stay low from F on (R452). -/
theorem beginTakeover_lineAt_low (e k block : Nat) {n l : Nat} (hl : l % 16 < 15) (he : l / 16 = e) (hn : s.now ≤ n) :
    lineAt (beginTakeover e k block s) n l = false := by
  rw [Bool.eq_false_iff, Ne]
  simp only [lineAt, List.contains_iff_mem, (beginTakeover_fields s e k block).2.1, List.mem_filter, dueOutputs]
  rintro ⟨-, h⟩
  have h15 : l % 16 ≠ 15 := by omega
  simp [hn, he, h15] at h

/-! ### Engines that no slot serves -/

theorem leaveStep_dropRequests (e : Nat) : ∃ f, leaveStep e (dropRequests e s) = modEngine e f s := by
  have fuse : ∀ f g : Engine → Engine, modEngine e f (modEngine e g s) = modEngine e (f ∘ g) s := fun f g => by
    simp [modEngine, modDev, State.engine]
  simp only [leaveStep, panicCheck, dropRequests, discardAtEnd, ignoreEvents, modSrc_eq, modCore_eq, modPend_eq, modCnt_eq]
  simp only [fuse]
  exact ⟨_, rfl⟩

/-- An engine in FAULT: its takeover is over, its channel is lost and the failed slots are retired; no other engine, no other output and no
configuration changes (R24, R459). -/
theorem engineFault_spec (e failed block : Nat) (gone : List Nat) {s' : State} (h : engineFault e failed block gone s = s') :
    (s'.core e).st = .fault ∧ (s'.engine e).takeover = none ∧ (s'.out e).lost = true ∧ (∀ k ∈ gone, k ∈ s'.dev.faults.retired) ∧
    (∀ n l, lineAt s n l = true → lineAt s' n l = true) ∧ (∀ x, x ≠ e → s'.engine x = s.engine x) ∧
    (∀ x, x ≠ e → s'.out x = s.out x) ∧ s'.dev.dict = s.dev.dict := by
  obtain ⟨f, hf⟩ := leaveStep_dropRequests s e
  simp only [engineFault, hf] at h
  obtain ⟨hl, hlost⟩ := h ▸ loseChannel_spec (hardPark _ e 4 (engineNotice 0x0052 0 e [failed] (retireSlots gone _))) e (slotLoc failed block)
  have hc := ((reported_engineNotice _ _ _ _ _).channelOnly e).trans ((channelOnly_hardPark _ _ e 4).trans hl)
  refine ⟨?_, ?_, hlost, fun k hk => ?_, fun n l hn => hc.lineAt hn, fun x hx => ?_, hc.out_ne, hc.dict⟩
  · rw [hc.core]
    simp [retireSlots, State.core]
  · rw [hc.engine]
    simp [retireSlots]
  · rw [hc.retired]
    exact retireSlots_retired _ hk
  · rw [hc.engine]
    simp [retireSlots, modEngine_engine_ne _ _ _ hx]

/-! ### Detection edges -/

/-- A detection edge in an engine that no slot can serve: reports, and FAULT (R24). -/
theorem detectFault_unserved {e : Nat} (check block : Nat) (ht : (s.engine e).takeover = none) (hs : servedAfter s e = [])
    (hk : chooseSlot s e = none) : ∃ v, Reported s v ∧ lineAt v (s.now + 1) (16 * e + 15) = true ∧
      detectFault e check block s = engineFault e (s.engine e).phys block [(s.engine e).phys] v := by
  let a := assertLine (s.now + 1) (16 * e + 15) s
  let v := engineNotice 0x0050 1 e [check + 1, (s.engine e).phys, locate a (slotLoc (s.engine e).phys block)] a
  have hv : Reported a v := reported_engineNotice ..
  have hsv : Reported s v := (reported_assertLine ..).trans hv
  refine ⟨v, hsv, hv.lineAt (lineAt_assert ..), ?_⟩
  have hsv' := hsv.servedAfter e
  have hkv := hsv.chooseSlot e
  rw [hs] at hsv'
  rw [hk] at hkv
  simp only [v, a] at hsv' hkv
  simp only [detectFault, ht, hsv', forAll_nil, hkv]
  rfl

/-- A detection edge in an engine that a slot can serve: higher-numbered engines served at this edge give their slots back, the takeover
begins, and they are served again (R21). -/
theorem detectFault_served {e k : Nat} (check block : Nat) (ht : (s.engine e).takeover = none)
    (hk : ∀ v, Reported s v → chooseSlot (forAll (servedAfter s e) giveBack v) e = some k) :
    ∃ v w, Reported s v ∧ lineAt v (s.now + 1) (16 * e + 15) = true ∧ Reported (forAll (servedAfter s e) giveBack v) w ∧
      detectFault e check block s = forAll (servedAfter s e) serveAgain (beginTakeover e k block w) := by
  let a := assertLine (s.now + 1) (16 * e + 15) s
  let l := locate a (slotLoc (s.engine e).phys block)
  let v := engineNotice 0x0050 1 e [check + 1, (s.engine e).phys, l] a
  have hv : Reported a v := reported_engineNotice ..
  have hsv : Reported s v := (reported_assertLine ..).trans hv
  refine ⟨v, reportFault 2 1 e 0x0050 l (check + 1) (s.engine e).phys (forAll (servedAfter s e) giveBack v), hsv,
    hv.lineAt (lineAt_assert ..), reported_reportFault .., ?_⟩
  have hsv' := hsv.servedAfter e
  have hkv := hk v hsv
  simp only [v, l, a] at hsv' hkv
  simp only [detectFault, ht, hsv', hkv]
  rfl

/-! ### Two engines detected at one edge (R21) -/

theorem slotBusy_eq_false {k : Nat} (h : ∀ e x, (s.engine e).takeover = some x → x.slot ≠ k ∧ x.retire = []) : slotBusy s k = false := by
  rw [Bool.eq_false_iff, Ne, slotBusy_iff]
  rintro ⟨e, -, x, hx, hk⟩
  obtain ⟨hslot, hr⟩ := h e x hx
  simp [hslot, hr] at hk

/-- Engines E0 to E31 prefer PE64. -/
theorem chooseSlot_pe64 {e : Nat} (he : e < 32) (h : slotFree s 64 = true) : chooseSlot s e = some 64 := by
  simp [chooseSlot, he, h]

theorem chooseSlot_pe65 {e : Nat} (he : e < 32) (h64 : slotFree s 64 = false) (h65 : slotFree s 65 = true) : chooseSlot s e = some 65 := by
  simp [chooseSlot, he, h64, h65]

theorem servedAfter_eq_singleton {e x : Nat} {y : Takeover} (he : e < x) (hx : x < 64) (ht : (s.engine x).takeover = some y)
    (hb : y.boundAt = s.now) (ho : ∀ z, z ≠ x → (s.engine z).takeover = none) : servedAfter s e = [x] := by
  have only : ∀ z, (decide (e < z) && (s.engine z).takeover.any fun k => k.boundAt == s.now) = (z == x) := fun z => by
    rcases eq_or_ne z x with rfl | hz
    · simp [he, ht, hb]
    · simp [ho z hz, hz]
  simp only [servedAfter, only]
  rw [List.filter_beq, List.count_eq_one_of_mem List.nodup_range (List.mem_range.2 hx), List.replicate_one]

theorem serveAgain_some {e k : Nat} {x : Takeover} (ht : (s.engine e).takeover = some x) (hk : chooseSlot s e = some k) :
    serveAgain e s = modEngine e (fun g => { g with takeover := some { x with slot := k } }) s := by
  simp only [serveAgain, ht, hk]

theorem giveBack_engine {x : Nat} {y : Takeover} (ht : (s.engine x).takeover = some y) :
    ((giveBack x s).engine x).takeover = some { y with slot := 0xFF } := by
  simp [giveBack, ht]

theorem giveBack_engine_ne {x z : Nat} (h : z ≠ x) : (giveBack x s).engine z = s.engine z := modEngine_engine_ne s x z h _

/-- The takeover of `x`, the only one, has no slot once it is given back. -/
theorem giveBack_takeover {x z : Nat} {y k : Takeover} (ht : (s.engine x).takeover = some y)
    (ho : ∀ z, z ≠ x → (s.engine z).takeover = none) (hz : ((giveBack x s).engine z).takeover = some k) : k = { y with slot := 0xFF } := by
  rcases eq_or_ne z x with rfl | hzx
  · exact (Option.some.inj ((giveBack_engine s ht).symm.trans hz)).symm
  · rw [giveBack_engine_ne s hzx, ho z hzx] at hz
    cases hz

theorem chooseSlot_giveBack {e x : Nat} {y : Takeover} (he : e < 32) (ht : (s.engine x).takeover = some y) (hr : y.retire = [])
    (ho : ∀ z, z ≠ x → (s.engine z).takeover = none) (h64 : s.dev.faults.pe64 = 0xFF) : chooseSlot (giveBack x s) e = some 64 := by
  have hbusy : slotBusy (giveBack x s) 64 = false := slotBusy_eq_false _ fun z t hz => by
    rw [giveBack_takeover s ht ho hz]
    exact ⟨by simp, hr⟩
  have hpe : (giveBack x s).dev.faults.pe64 = 0xFF := h64
  exact chooseSlot_pe64 _ he (by simp [slotFree, hbusy, hpe])

/-- Engine `x`, whose takeover has no slot, goes on with PE65 once engine `e` has taken PE64. -/
theorem serveAgain_beginTakeover {e x block : Nat} {y : Takeover} (hne : e ≠ x) (he : e < 64) (hx : x < 32)
    (ht : (s.engine x).takeover = some { y with slot := 0xFF }) (hr : y.retire = []) (ho : ∀ z, z ≠ x → (s.engine z).takeover = none)
    (h65 : s.dev.faults.pe65 = 0xFF) : serveAgain x (beginTakeover e 64 block s) =
      modEngine x (fun g => { g with takeover := some { y with slot := 65 } }) (beginTakeover e 64 block s) := by
  obtain ⟨-, -, hfaults, -⟩ := beginTakeover_fields s e 64 block
  have hbe := beginTakeover_engine s e 64 block
  have hbx := beginTakeover_engine_ne s e 64 block hne.symm
  have hbusy : slotBusy (beginTakeover e 64 block s) 64 = true := (slotBusy_iff _ 64).2 ⟨e, he, _, hbe, .inl rfl⟩
  have hfree : slotBusy (beginTakeover e 64 block s) 65 = false := slotBusy_eq_false _ fun z t hz => by
    rcases eq_or_ne z e with rfl | hze
    · obtain rfl := Option.some.inj (hbe.symm.trans hz)
      exact ⟨by simp [newTakeover], rfl⟩
    · rw [beginTakeover_engine_ne s e 64 block hze] at hz
      rcases eq_or_ne z x with rfl | hzx
      · obtain rfl := Option.some.inj (ht.symm.trans hz)
        exact ⟨by simp, hr⟩
      · rw [ho z hzx] at hz
        cases hz
  exact serveAgain_some (x := { y with slot := 0xFF }) _ (hbx ▸ ht)
    (chooseSlot_pe65 _ hx (by simp [slotFree, hbusy]) (by simp [slotFree, hfree, hfaults, h65]))

/-- The lower-numbered engine `e` of E0 to E31 takes PE64 from engine `x`, which was served before it at the same edge, and `x` goes on with
PE65. -/
theorem detectFault_before {e x : Nat} {y : Takeover} (check block : Nat) (hex : e < x) (hx : x < 32)
    (ht : (s.engine x).takeover = some y) (hb : y.boundAt = s.now) (hr : y.retire = []) (ho : ∀ z, z ≠ x → (s.engine z).takeover = none)
    (h64 : s.dev.faults.pe64 = 0xFF) (h65 : s.dev.faults.pe65 = 0xFF) {s' : State} (h : detectFault e check block s = s') :
    (∃ p, (s'.engine e).takeover = some p ∧ p.f = s.now ∧ p.slot = 64) ∧ (s'.engine x).takeover = some { y with slot := 65 } ∧
    (∀ z, z ≠ e → z ≠ x → s'.engine z = s.engine z) ∧ s'.dev.dict = s.dev.dict := by
  have hne : e ≠ x := hex.ne
  have hs : servedAfter s e = [x] := servedAfter_eq_singleton s hex (by omega) ht hb ho
  obtain ⟨v, w, hv, -, hw, heq⟩ := detectFault_served s check block (ho e hne) fun v hv => by
    rw [hs]
    exact chooseSlot_giveBack v (by omega) (hv.engine ▸ ht) hr (fun z hz => hv.engine ▸ ho z hz) (hv.pe64.trans h64)
  rw [hs, forAll_cons, forAll_nil] at hw heq
  have hwx : (w.engine x).takeover = some { y with slot := 0xFF } := by
    rw [hw.engine]
    exact giveBack_engine v (hv.engine ▸ ht)
  have hwz : ∀ z, z ≠ x → w.engine z = s.engine z := fun z hz => by rw [hw.engine, giveBack_engine_ne v hz, hv.engine]
  rw [serveAgain_beginTakeover w hne (by omega) hx hwx hr (fun z hz => by rw [hwz z hz, ho z hz]) (hw.pe65.trans (hv.pe65.trans h65)), h] at heq
  have hnow : w.now = s.now := hw.now.trans hv.now
  refine ⟨⟨newTakeover e 64 block w, ?_, hnow, rfl⟩, ?_, fun z hze hzx => ?_, ?_⟩
  · rw [heq, modEngine_engine_ne _ _ _ hne, beginTakeover_engine]
  · rw [heq, modEngine_engine]
  · rw [heq, modEngine_engine_ne _ _ _ hzx, beginTakeover_engine_ne _ _ _ _ hze, hwz z hzx]
  · rw [heq, (modEngine_frame ..).2.1, (beginTakeover_fields ..).2.2.2, hw.dict]
    exact hv.dict

/-! ### The end of a takeover -/

theorem reported_takeoverNotice (n : Notice) : Reported s (takeoverNotice n s) := by
  unfold takeoverNotice
  split
  · exact reported_modFaults s _ rfl
  · exact reported_forAll s _ _ fun k s => reported_enqueue s k n

/-- At Tr the engine runs on the standby slot, and the slots that failed are retired (R23, R26). -/
theorem resume_spec (e : Nat) (x : Takeover) {s' : State} (h : resume e x s = s') :
    (s'.engine e).takeover = none ∧ (s'.engine e).phys = x.slot ∧ (s'.engine e).takeovers = sat32 ((s.engine e).takeovers + 1) ∧
    s'.core e = s.core e ∧ (s.engine e).phys ∈ s'.dev.faults.retired ∧ lineAt s' (s.now + 1) 2022 = true ∧
    bit s'.dev.faults.reasons 0 = true ∧ (x.slot = 64 → s'.dev.faults.pe64 = e) ∧ (x.slot = 65 → s'.dev.faults.pe65 = e) ∧
    (∀ y, y ≠ e → s'.engine y = s.engine y) ∧ s'.dev.dict = s.dev.dict := by
  simp only [resume] at h
  generalize hm : modEngine e _ _ = m at h
  generalize hv : ite ((m.core e).lastTick = some m.now) (latchDac e m) m = v at h
  have hmv : ChannelOnly e m v := by
    rw [← hv]
    split
    · exact channelOnly_latchDac m e
    · exact .refl e m
  have hr : Reported (assertLine (v.now + 1) 2022 v) s' := h ▸ (reported_takeoverNotice ..).trans (reported_raiseReason ..)
  have hms : ChannelOnly e m s' := hmv.trans (((reported_assertLine ..).trans hr).channelOnly e)
  have hnow : v.now = s.now := by rw [hmv.now, ← hm]; rfl
  obtain ⟨-, h64, h65, hret⟩ := standing_eq_iff.1 hms.standing
  refine ⟨?_, ?_, ?_, ?_, ?_, ?_, ?_, fun hx => ?_, fun hx => ?_, fun y hy => ?_, ?_⟩
  · rw [hms.engine, ← hm]; simp
  · rw [hms.engine, ← hm]; simp
  · rw [hms.engine, ← hm]; simp [retireSlots]
  · rw [hms.core, ← hm]; simp [State.core, retireSlots]
  · rw [hret, ← hm]
    exact retireSlots_retired s List.mem_cons_self
  · rw [← hnow]
    exact hr.lineAt (lineAt_assert ..)
  · rw [← h]
    exact raiseReason_reasons ..
  · rw [h64, ← hm]; simp [hx]
  · rw [h65, ← hm]; simp [hx]
  · rw [hms.engine, ← hm]; simp [modEngine_engine_ne _ _ _ hy, retireSlots]
  · rw [hms.dict, ← hm]; rfl

/-! ### The statement -/

section Commands

variable {s} {t : Nat} {P : State → Prop}

theorem completes_checkpoint (hp : (advance t s).dev.power.phase = .ready) (hn : (advance t s).now % 3200 = 0)
    (h : P (checkpointAll (advance t s))) : Completes (exec (.checkpoint t) s) P :=
  completes_occurs (f := checkpointAll) (by simp [hp, hn]) h

theorem completes_checkpointConfirmed (hp : (advance t s).dev.power.phase = .ready) (h : P (confirmAll (advance t s))) :
    Completes (exec (.checkpointConfirmed t) s) P :=
  completes_occurs (f := confirmAll) (by simp [hp]) h

theorem completes_engineFaultDetected {e : Fin 64} {check : Fin 3} {block : Nat} (hp : (advance t s).dev.power.phase = .ready)
    (hst : ((advance t s).core e).st ≠ .fault) (h : P (detectFault e check (block % 128) (advance t s))) :
    Completes (exec (.engineFaultDetected t e check block) s) P :=
  completes_occurs (f := detectFault e check (block % 128)) (by simp [hp, hst]) h

theorem exec_takeoverResume {e : Fin 64} {x : Takeover} (hx : ((advance t s).engine e).takeover = some x) :
    exec (.takeoverResume t e) s = .next (if x.tr = (advance t s).now then resume e x (advance t s) else advance t s) := by
  show execTakeoverResume t e s = _
  simp only [execTakeoverResume, atEdge_eq, hx]

end Commands

/-- Settles O57: CHECKPOINT and CHECKPOINT_CONFIRMED engine by engine; a detection edge with a slot, without one and before a higher-numbered
engine of the same edge; and the end of a takeover. -/
theorem takeoverByStandbySlot : Obligations.TakeoverByStandbySlot := by
  unfold Obligations.TakeoverByStandbySlot
  refine ⟨?checkpoints, ?served, ?unserved, ?before, ?resumes⟩
  case checkpoints =>
    intro t s u kept hready
    have sound : ∀ e, (u.engine e).takeover = none → (u.core e).st ≠ .fault → engineSound u e = true :=
      fun e ht hst => (engineSound_iff u e).2 ⟨ht, hst⟩
    have keeps : ∀ s', CheckpointsOnly u s' → kept s' := fun s' h => ⟨h.core, h.takeover, h.dev, h.link⟩
    refine ⟨fun hn => completes_checkpoint hready hn ⟨?_, ?_, ?_⟩, completes_checkpointConfirmed hready ⟨?_, ?_⟩⟩
    · exact keeps _ (checkpointsOnly_checkpointAll u)
    · exact fun e he ht hst => checkpointAll_sound u he (sound e ht hst)
    · exact fun e ht => checkpointAll_takeover u ht
    · exact keeps _ (checkpointsOnly_confirmAll u)
    · exact fun e he ht hst c hc hn => confirmAll_sound u he (sound e ht hst) hc hn
  case served =>
    intro t e check block k s u hready hst ht hs hk
    obtain ⟨v, w, hv, hline, hw, heq⟩ := detectFault_served u check (block % 128) ht fun v hv => by
      rw [hs, forAll_nil, hv.chooseSlot, hk]
    rw [hs, forAll_nil] at hw heq
    have hr : Reported u w := hv.trans hw
    obtain ⟨hge, hlt, hgrid⟩ := alignUp_spec (gridE_pos w e) (w.now + 12000)
    have hnow := hr.now
    have hg := congrFun hr.gridE e
    refine completes_engineFaultDetected hready hst ?_
    rw [show detectFault e check (block % 128) (advance t s) = _ from heq]
    refine ⟨chooseSlot_preferred u hk, ⟨_, beginTakeover_engine .., hnow, hnow, rfl, ?_, ?_, ?_, ?_⟩, ?_, ?_, ?_, ?_, ?_⟩
    · exact hnow ▸ hge
    · rw [← hnow, ← hg]; exact hlt
    · rw [← hg]; exact hgrid
    · intro hlast
      rw [← hnow, ← hr.core] at hlast
      rw [← hr.core]
      exact if_neg hlast
    · rw [beginTakeover_core, hr.core]
    · exact beginTakeover_lineAt_fault _ _ _ _ (hw.lineAt hline)
    · exact fun l hl he n hn => beginTakeover_lineAt_low _ _ _ _ hl he (hnow.trans_le hn)
    · exact fun x hx => by rw [beginTakeover_engine_ne _ _ _ _ hx, hr.engine]
    · exact (beginTakeover_fields ..).2.2.2.trans hr.dict
  case unserved =>
    intro t e check block s u hready hst ht hs hk
    obtain ⟨v, hv, hline, heq⟩ := detectFault_unserved u check (block % 128) ht hs hk
    obtain ⟨hfault, hover, hlost, hgone, hlines, hengines, houts, hdict⟩ := engineFault_spec v e _ _ _ heq.symm
    exact completes_engineFaultDetected hready hst ⟨hfault, hover, hlost, hgone _ List.mem_cons_self, hlines _ _ hline,
      fun x hx => (hengines x hx).trans (congrFun hv.engine x), fun x hx => (houts x hx).trans (congrFun hv.out x), hdict.trans hv.dict⟩
  case before =>
    intro t e check block x y s u hready hst hex hx ht _ hb hr ho h64 h65
    exact completes_engineFaultDetected hready hst (detectFault_before u check (block % 128) hex hx ht hb hr ho h64 h65 rfl)
  case resumes =>
    intro t e x s u ht
    refine ⟨fun hn => ?_, fun hn => ?_⟩
    · rw [exec_takeoverResume ht, if_pos hn]
      exact ⟨_, rfl, resume_spec u e x rfl⟩
    · rw [exec_takeoverResume ht, if_neg hn]

end Sys2Proof.Machine

/-! PROOFS. Resets and starts (chapter 18): what a reset leaves, how a start ends, and the statement about them. -/

namespace Sys2Proof.Machine

variable (s : State)

/-! ### Replacement reasons of a start -/

theorem bit_eq_testBit (v k : Nat) : bit v k = v.testBit k := by
  rw [Nat.testBit_eq_decide_div_mod_eq, bit]
  exact (Bool.beq_eq_decide_eq _ _)

theorem reported_raiseReasons (m : Nat) : Reported s (raiseReasons m s) := by
  unfold raiseReasons
  split
  · exact .refl s
  · exact (reported_modFaults s _ rfl).trans (reported_requestNotice _)

/-- Every reason that is raised shows in `REPLACE_REASONS` (R463). -/
theorem raiseReasons_reasons {m k : Nat} (h : bit m k = true) : bit (raiseReasons m s).dev.faults.reasons k = true := by
  rw [bit_eq_testBit] at h ⊢
  unfold raiseReasons
  split
  · rename_i hm
    have hk := congrArg (fun v => v.testBit k) hm
    simpa [clearBits, Nat.testBit_and, Nat.testBit_xor, h] using hk
  · rw [requestNotice_reasons]
    simp [Nat.testBit_or, h]

theorem reported_startReasons : Reported s (startReasons s) :=
  (reported_raiseReasons s _).trans (reported_forAll _ _ _ fun _ s => reported_notice s ..)

theorem reported_writeHeld : Reported s (writeHeld s) := by
  unfold writeHeld
  split
  · exact .refl s
  · exact reported_modFaults s _ (standing_eq_iff.2 ⟨rfl, rfl, rfl, rfl⟩)

/-- A start that finds a bad image raises reason 10 (Table 17-5). -/
theorem startReasons_badImages (h : s.dev.power.badImages ≠ []) : bit (startReasons s).dev.faults.reasons 10 = true := by
  have hnotices : ∀ t, (forAll s.dev.power.badImages (fun i s => notice 0x0066 1 0 0 [i] s) t).dev.faults.reasons = t.dev.faults.reasons :=
    fun t => forAll_proj t (fun t => t.dev.faults.reasons) _ _ fun _ _ => by simp
  rw [startReasons, hnotices]
  refine raiseReasons_reasons _ ?_
  rw [show s.dev.power.badImages.isEmpty = false by simpa using h]
  generalize (!s.dev.faults.retired.isEmpty) = a, (s.dev.power.resetCause == 4) = b
  cases a <;> cases b <;> decide

/-! ### How a start ends -/

/-- The links come up, the waiting log is written and the reasons of the start are raised. -/
def openLinks (s : State) : State := startReasons (writeHeld (linksUp s))

theorem linksUp_dev : (linksUp s).dev = s.dev := rfl

theorem reported_openLinks : Reported (linksUp s) (openLinks s) := (reported_writeHeld _).trans (reported_startReasons _)

theorem openLinks_power : (openLinks s).dev.power = s.dev.power := (reported_openLinks s).power
theorem openLinks_ring : (openLinks s).dev.ring = s.dev.ring := (reported_openLinks s).ring
theorem openLinks_faultnLow : (openLinks s).dev.faults.faultnLow = s.dev.faults.faultnLow := (reported_openLinks s).faultnLow
theorem openLinks_closed (f : Power → Power) (h : s.link.sessions = []) : (openLinks (modPower f s)).link.sessions = [] :=
  (reported_openLinks _).closed h

theorem openLinks_badImages (h : s.dev.power.badImages ≠ []) : bit (openLinks s).dev.faults.reasons 10 = true :=
  startReasons_badImages _ (by rwa [(reported_writeHeld _).power, linksUp_dev])

/-- The boot ROM has entered mooring mode for `reason`. -/
def moored (reason : Nat) (p : Power) : Power := { p with phase := .mooring, mooringReason := reason, running := 0xFF }

/-- Image `i` runs. -/
def imageStarts (i : Nat) (bad : List Nat) (p : Power) : Power := { p with phase := .starting 4, running := i, badImages := bad }

theorem moor_eq (reason : Nat) : moor reason s = openLinks (modPower (moored reason) s) := rfl

theorem runImage_preferred (h : imageOk s (s.rwv 0x5100 3) = true) :
    runImage s = openLinks (modPower (imageStarts (s.rwv 0x5100 3) []) s) := by
  simp only [runImage, h, if_true]; rfl

theorem runImage_other (h : imageOk s (s.rwv 0x5100 3) = false) (ho : imageOk s (1 - s.rwv 0x5100 3) = true) :
    runImage s = openLinks (modPower (imageStarts (1 - s.rwv 0x5100 3) [s.rwv 0x5100 3]) s) := by
  simp only [runImage, h, ho, if_true]; rfl

theorem runImage_none (h : imageOk s (s.rwv 0x5100 3) = false) (ho : imageOk s (1 - s.rwv 0x5100 3) = false) :
    runImage s = openLinks (modPower (fun p => moored 2 { p with badImages := [s.rwv 0x5100 3, 1 - s.rwv 0x5100 3] }) s) := by
  simp only [runImage, h, ho]; rfl

/-! ### Boot attempts (R481) -/

/-- The boot attempts that a start reads. -/
def bootTries (drop : Bool) (p : Power) : Nat := if drop then p.bootNvm else p.bootAlways

/-- A start has begun and has read its boot attempts. -/
def startBegun (drop : Bool) (n : Nat) (p : Power) : Power :=
  { p with phase := .starting 1, resetCause := p.pendingCause, starts := wrap32 (p.starts + 1), startAt := n, bootUsed := bootTries drop p }

/-- It has counted one more. -/
def startCounted (drop : Bool) (n : Nat) (p : Power) : Power :=
  { startBegun drop n p with bootAlways := bootTries drop p + 1, bootNvm := bootTries drop p + 1 }

theorem bootFrom_third (k : Nat) (ok drop : Bool) (h : 3 ≤ bootTries drop s.dev.power) :
    bootFrom (k + 1) ok drop s = openLinks (modPower (fun p => moored 1 (startBegun drop s.now p)) s) := by
  rw [bootFrom]
  exact if_pos h

theorem bootFrom_bootsel (k : Nat) (drop : Bool) (h : bootTries drop s.dev.power < 3) (hs : s.dev.power.bootsel = true) :
    bootFrom (k + 1) true drop s = openLinks (modPower (fun p => moored 3 (startCounted drop s.now p)) s) := by
  rw [bootFrom]
  exact (if_neg (Nat.not_le.2 h)).trans (if_pos hs)

theorem bootFrom_image (k : Nat) (drop : Bool) (h : bootTries drop s.dev.power < 3) (hs : s.dev.power.bootsel = false) :
    bootFrom (k + 1) true drop s = runImage (modPower (startCounted drop s.now) s) := by
  rw [bootFrom]
  exact (if_neg (Nat.not_le.2 h)).trans (if_neg (Bool.eq_false_iff.1 hs))

theorem bootFrom_localFails (k : Nat) (drop : Bool) (h : bootTries drop s.dev.power < 3) :
    bootFrom (k + 1) false drop s = bootFrom k false false (failStart 1 (modPower (startCounted drop s.now) s)) := by
  rw [bootFrom]
  exact if_neg (Nat.not_le.2 h)

/-- With a local memory that fails, starts repeat until the third attempt, and mooring mode follows with reason 1 (R481, R484). -/
theorem bootFrom_localFails_moors (k : Nat) : ∀ s : State, s.dev.power.startFail = 1 → 3 ≤ s.dev.power.bootAlways + k →
    (bootFrom (k + 1) false false s).dev.power.phase = .mooring ∧ (bootFrom (k + 1) false false s).dev.power.mooringReason = 1 ∧
    (bootFrom (k + 1) false false s).dev.power.startFail = 1 := by
  induction k with
  | zero =>
    intro s hf h
    rw [bootFrom_third s 0 false false h, openLinks_power]
    exact ⟨rfl, rfl, hf⟩
  | succ k ih =>
    intro s hf h
    rcases Nat.lt_or_ge (bootTries false s.dev.power) 3 with ht | ht
    · rw [bootFrom_localFails s (k + 1) false ht]
      refine ih _ rfl ?_
      show 3 ≤ s.dev.power.bootAlways + 1 + k
      omega
    · rw [bootFrom_third s (k + 1) false false ht, openLinks_power]
      exact ⟨rfl, rfl, hf⟩

/-- What an image selection leaves of the power state and of a link without sessions. -/
theorem runImage_spec : ∃ ph run bad reason,
    (runImage s).dev.power = { s.dev.power with phase := ph, running := run, badImages := bad, mooringReason := reason } ∧
    (s.link.sessions = [] → (runImage s).link.sessions = []) := by
  cases h : imageOk s (s.rwv 0x5100 3) with
  | true =>
    rw [runImage_preferred s h]
    exact ⟨_, _, _, _, openLinks_power _, openLinks_closed s _⟩
  | false =>
    cases ho : imageOk s (1 - s.rwv 0x5100 3) with
    | true =>
      rw [runImage_other s h ho]
      exact ⟨_, _, _, _, openLinks_power _, openLinks_closed s _⟩
    | false =>
      rw [runImage_none s h ho]
      exact ⟨_, _, _, _, openLinks_power _, openLinks_closed s _⟩

/-- A start with a good local memory takes the cause of its reset and counts (R480). -/
theorem boot_spec (drop : Bool) {s' : State} (h : boot true drop s = s') :
    s'.dev.power.resetCause = s.dev.power.pendingCause ∧ s'.dev.power.starts = wrap32 (s.dev.power.starts + 1) ∧
    s'.dev.power.startFail = s.dev.power.startFail ∧ s'.dev.power.restart = s.dev.power.restart ∧
    (s.link.sessions = [] → s'.link.sessions = []) := by
  subst h
  rcases Nat.lt_or_ge (bootTries drop s.dev.power) 3 with ht | ht
  · cases hs : s.dev.power.bootsel with
    | true =>
      rw [boot, bootFrom_bootsel s 4 drop ht hs, openLinks_power]
      exact ⟨rfl, rfl, rfl, rfl, openLinks_closed s _⟩
    | false =>
      obtain ⟨ph, run, bad, reason, hp, hc⟩ := runImage_spec (modPower (startCounted drop s.now) s)
      rw [boot, bootFrom_image s 4 drop ht hs, hp]
      exact ⟨rfl, rfl, rfl, rfl, hc⟩
  · rw [boot, bootFrom_third s 4 true drop ht, openLinks_power]
    exact ⟨rfl, rfl, rfl, rfl, openLinks_closed s _⟩

/-! ### Resets (R486) -/

/-- A reset clears units, configuration, content and sessions, and keeps N and the keys that NVM holds. -/
theorem resetDevice_cleared (k : Nat) (ph : RunPhase) {s' : State} (h : resetDevice k ph s = s') :
    s'.link.sessions = [] ∧ (∀ e, s'.core e = EngCore.reset) ∧ (∀ c, s'.out c = Out.reset) ∧ (∀ l, s'.line l = Line.reset) ∧
    s'.dev.dict.active = [] ∧ s'.dev.store = Store.reset ∧ s'.now = s.now ∧ (s.dev.power.keyWait = [] → s'.link.keys = s.link.keys) := by
  subst h
  refine ⟨rfl, fun _ => rfl, fun _ => rfl, fun _ => rfl, rfl, rfl, rfl, fun hk => ?_⟩
  show nvmKeys s = s.link.keys
  rw [nvmKeys, hk, List.foldl_nil]

theorem startFails_spec (k : Nat) {s' : State} (h : startFails k s = s') :
    s'.dev.power.resetCause = 5 ∧ s'.dev.power.startFail = k ∧ s'.dev.power.starts = wrap32 (s.dev.power.starts + 1) := by
  obtain ⟨hcause, hstarts, hfail, -, -⟩ := boot_spec (failStart k s) false h
  exact ⟨hcause, hfail, hstarts⟩

/-! ### PORN_RELEASE -/

/-- The state from which PORN_RELEASE starts: DEVPOS and BOOTSEL are sampled, and FAULTn ends (R461). -/
def released (devpos : Nat) (bootsel drop : Bool) (s : State) : State :=
  modPower (fun p => { p with bootsel := bootsel, pendingCause := if drop then 1 else 2 })
    (modFaults (fun f => { f with faultnLow := false }) (modRing (fun r => { r with devpos := devpos }) s))

/-- What every start after PORn holds: DEVPOS, the cause, FAULTn ended, the start counted, the boot attempts read. -/
abbrev ReleasedFine (devpos : Nat) (drop : Bool) (p : Power) (s' : State) : Prop :=
  s'.dev.ring.devpos = devpos ∧ s'.dev.power.resetCause = (if drop then 1 else 2) ∧ s'.dev.faults.faultnLow = false ∧
  s'.dev.power.starts = wrap32 (p.starts + 1) ∧ s'.dev.power.bootUsed = bootTries drop p

theorem released_fine {devpos : Nat} {bootsel drop : Bool} {f : Power → Power}
    (hf : ∀ p, (f p).resetCause = p.pendingCause ∧ (f p).starts = wrap32 (p.starts + 1) ∧ (f p).bootUsed = bootTries drop p) :
    ReleasedFine devpos drop s.dev.power (openLinks (modPower f (released devpos bootsel drop s))) := by
  obtain ⟨hc, hs, hu⟩ := hf (released devpos bootsel drop s).dev.power
  refine ⟨?_, ?_, ?_, ?_, ?_⟩
  · rw [openLinks_ring]; rfl
  · rw [openLinks_power]; exact hc
  · rw [openLinks_faultnLow]; rfl
  · rw [openLinks_power]; exact hs
  · rw [openLinks_power]; exact hu

section Boot

variable {s} {drop : Bool}

theorem boot_preferred (ht : bootTries drop s.dev.power < 3) (hs : s.dev.power.bootsel = false)
    (hi : imageOk s (s.rwv 0x5100 3) = true) :
    boot true drop s = openLinks (modPower (fun p => imageStarts (s.rwv 0x5100 3) [] (startCounted drop s.now p)) s) := by
  rw [boot, bootFrom_image s 4 drop ht hs]
  exact runImage_preferred _ hi

theorem boot_other (ht : bootTries drop s.dev.power < 3) (hs : s.dev.power.bootsel = false)
    (hi : imageOk s (s.rwv 0x5100 3) = false) (ho : imageOk s (1 - s.rwv 0x5100 3) = true) :
    boot true drop s = openLinks (modPower (fun p =>
      imageStarts (1 - s.rwv 0x5100 3) [s.rwv 0x5100 3] (startCounted drop s.now p)) s) := by
  rw [boot, bootFrom_image s 4 drop ht hs]
  exact runImage_other _ hi ho

theorem boot_noImage (ht : bootTries drop s.dev.power < 3) (hs : s.dev.power.bootsel = false)
    (hi : imageOk s (s.rwv 0x5100 3) = false) (ho : imageOk s (1 - s.rwv 0x5100 3) = false) :
    boot true drop s = openLinks (modPower (fun p =>
      moored 2 { startCounted drop s.now p with badImages := [s.rwv 0x5100 3, 1 - s.rwv 0x5100 3] }) s) := by
  rw [boot, bootFrom_image s 4 drop ht hs]
  exact runImage_none _ hi ho

theorem boot_localFails (ht : bootTries drop s.dev.power < 3) {s' : State} (h : boot false drop s = s') :
    s'.dev.power.phase = .mooring ∧ s'.dev.power.mooringReason = 1 ∧ s'.dev.power.startFail = 1 := by
  rw [boot, bootFrom_localFails s 4 drop ht] at h
  subst h
  refine bootFrom_localFails_moors 3 _ rfl ?_
  show 3 ≤ bootTries drop s.dev.power + 1 + 3
  omega

end Boot

/-! ### Channels and engines at a start (R441, R434, R23) -/

theorem channelOnly_selectRecord (c : Nat) : ChannelOnly c s (selectRecord c s) := by
  unfold selectRecord
  split
  · split <;> exact channelOnly_modCal s c _
  · exact channelOnly_modCal s c _
  · exact channelOnly_modCal s c _
  · split
    · exact (channelOnly_modCal s c _).trans (((reported_notice ..).trans (reported_reportFault ..)).channelOnly c)
    · exact (channelOnly_modCal s c _).trans
        ((((reported_notice ..).trans (reported_reportFault ..)).trans ((reported_raiseReason ..).trans (reported_degraded _))).channelOnly c)

theorem ChannelOnly.ite {c : Nat} {s v w : State} {p : Prop} [Decidable p] (hv : ChannelOnly c s v) (hw : ChannelOnly c s w) :
    ChannelOnly c s (if p then v else w) := by
  split
  · exact hv
  · exact hw

theorem channelOnly_startChannel (c : Nat) : ChannelOnly c s (startChannel c s) := by
  have hr := channelOnly_selectRecord s c
  have raised : ∀ v, ChannelOnly c s v → ChannelOnly c s (raiseReason 4 v) := fun v hv => hv.trans ((reported_raiseReason v 4).channelOnly c)
  have lost : ∀ v l, ChannelOnly c s v → ChannelOnly c s (loseChannel c l v) := fun v l hv => hv.trans (loseChannel_spec v c l).1
  have mapped : ∀ f, ChannelOnly c s (modCal c f (selectRecord c s)) := fun f => hr.trans (channelOnly_modCal _ c f)
  have reasoned := fun (p : Prop) (_ : Decidable p) f => ChannelOnly.ite (p := p) (raised _ (mapped f)) (mapped f)
  exact .ite hr (.ite (lost _ _ (reasoned _ _ _)) (reasoned _ _ _))

/-- From `s` to `s'` the start has gone on: the clock, power and the standing fault state are what they were. -/
structure StartKeeps (s s' : State) : Prop where
  clock : s'.dev.clock = s.dev.clock
  power : s'.dev.power = s.dev.power
  standing : s'.dev.faults.standing = s.dev.faults.standing

theorem StartKeeps.trans {s s' s'' : State} (h : StartKeeps s s') (g : StartKeeps s' s'') : StartKeeps s s'' :=
  ⟨g.clock.trans h.clock, g.power.trans h.power, g.standing.trans h.standing⟩

theorem ChannelOnly.startKeeps {c : Nat} {s s' : State} (h : ChannelOnly c s s') : StartKeeps s s' := ⟨h.clock, h.power, h.standing⟩

theorem startChannels_spec : StartKeeps s (forAll (List.range 64) startChannel s) ∧
    (forAll (List.range 64) startChannel s).engine = s.engine :=
  forAll_keeps (fun t => StartKeeps s t ∧ t.engine = s.engine) _ _
    (fun c t h => have hc := channelOnly_startChannel t c; ⟨h.1.trans hc.startKeeps, hc.engine.trans h.2⟩) s ⟨⟨rfl, rfl, rfl⟩, rfl⟩

theorem startEngine_keeps (e : Nat) : StartKeeps s (startEngine e s) := by
  unfold startEngine
  split
  · exact ⟨rfl, rfl, rfl⟩
  · split
    · exact ⟨rfl, rfl, rfl⟩
    · split
      · exact ⟨rfl, rfl, rfl⟩
      · exact StartKeeps.trans (s' := modCore e _ s) ⟨rfl, rfl, rfl⟩ (loseChannel_spec ..).1.startKeeps

/-- The start of one engine leaves the others and their outputs. -/
theorem startEngine_ne {y e : Nat} (h : y ≠ e) : (startEngine y s).engine e = s.engine e ∧ (startEngine y s).out e = s.out e := by
  unfold startEngine
  split
  · exact ⟨rfl, rfl⟩
  · split
    · exact ⟨modEngine_engine_ne s y e h.symm _, rfl⟩
    · split
      · exact ⟨modEngine_engine_ne s y e h.symm _, rfl⟩
      · have hl := (loseChannel_spec (modCore y (fun c => { c with st := .fault }) s) y (slotLoc y 9)).1
        exact ⟨(congrFun hl.engine e).trans (modEngine_engine_ne s y e h.symm _), hl.out_ne e h.symm⟩

theorem startEngine_sound {e : Nat} (h : e ∉ s.dev.faults.retired) : startEngine e s = s := by
  simp [startEngine, h]

/-- An engine whose slot is retired: the standby slot that serves it, else FAULT and a lost channel (R23, R24). -/
theorem startEngine_retired {e : Nat} (h : e ∈ s.dev.faults.retired) :
    (s.dev.faults.pe64 = e → ((startEngine e s).engine e).phys = 64 ∧ (startEngine e s).core e = s.core e) ∧
    (s.dev.faults.pe64 ≠ e → s.dev.faults.pe65 = e → ((startEngine e s).engine e).phys = 65 ∧ (startEngine e s).core e = s.core e) ∧
    (s.dev.faults.pe64 ≠ e → s.dev.faults.pe65 ≠ e → ((startEngine e s).core e).st = .fault ∧ ((startEngine e s).out e).lost = true) := by
  have hret : (!s.dev.faults.retired.contains e) = false := by simpa using h
  refine ⟨fun h64 => ?_, fun h64 h65 => ?_, fun h64 h65 => ?_⟩
  · simp [startEngine, h, h64, State.core]
  · simp [startEngine, h, h64, h65, State.core]
  · obtain ⟨hc, hlost⟩ := loseChannel_spec (modCore e (fun c => { c with st := .fault }) s) e (slotLoc e 9)
    rw [show startEngine e s = _ by simp only [startEngine, hret, h64, h65, if_false, Bool.false_eq_true]; rfl]
    refine ⟨?_, hlost⟩
    rw [hc.core]
    simp [State.core]

/-- How a start maps engine `e`, by the standby slots of `s` (R23, R24). -/
abbrev EngineMapped (e : Nat) (s s' : State) : Prop :=
  (s.dev.faults.pe64 = e → (s'.engine e).phys = 64 ∧ s'.core e = s.core e) ∧
  (s.dev.faults.pe64 ≠ e → s.dev.faults.pe65 = e → (s'.engine e).phys = 65 ∧ s'.core e = s.core e) ∧
  (s.dev.faults.pe64 ≠ e → s.dev.faults.pe65 ≠ e → (s'.core e).st = .fault ∧ (s'.out e).lost = true)

/-- The start of the engines. -/
def startEngines : State → State := forAll (List.range 64) startEngine

theorem startEngines_keeps : StartKeeps s (startEngines s) :=
  forAll_keeps (StartKeeps s) _ _ (fun e t h => h.trans (startEngine_keeps t e)) s ⟨rfl, rfl, rfl⟩

theorem startEngines_sound {e : Nat} (h : e ∉ s.dev.faults.retired) : (startEngines s).engine e = s.engine e := by
  refine (forAll_keeps (fun t => StartKeeps s t ∧ t.engine e = s.engine e) _ _ (fun y t ht => ?_) s ⟨⟨rfl, rfl, rfl⟩, rfl⟩).2
  refine ⟨ht.1.trans (startEngine_keeps t y), ?_⟩
  rcases eq_or_ne y e with rfl | hy
  · rw [startEngine_sound t ((standing_eq_iff.1 ht.1.standing).2.2.2 ▸ h), ht.2]
  · rw [(startEngine_ne t hy).1, ht.2]

theorem startEngines_retired {e : Nat} (he : e < 64) (h : e ∈ s.dev.faults.retired) : EngineMapped e s (startEngines s) := by
  refine forAll_reaches (x := e) (fun t => StartKeeps s t ∧ t.engine e = s.engine e) (EngineMapped e s) (List.mem_range.2 he)
    List.nodup_range (fun y t hy ht => ?_) (fun t ht => ?_) (fun y t hy ht => ?_) ⟨⟨rfl, rfl, rfl⟩, rfl⟩
  · exact ⟨ht.1.trans (startEngine_keeps t y), (startEngine_ne t hy).1.trans ht.2⟩
  · obtain ⟨-, h64, h65, hret⟩ := standing_eq_iff.1 ht.1.standing
    have hcore : t.core e = s.core e := congrArg Engine.core ht.2
    have hm := startEngine_retired t (hret ▸ h)
    rwa [h64, h65, hcore] at hm
  · obtain ⟨heng, hout⟩ := startEngine_ne t hy
    have hcore : (startEngine y t).core e = t.core e := congrArg Engine.core heng
    rwa [EngineMapped, heng, hout, hcore]

/-- DICTIONARY_READY ends the numbering and the boot attempts of the start, and FAULTn. -/
def readied (us : Nat) (s : State) : State :=
  modFaults (fun f => { f with faultnLow := false }) (modPower (fun p => { p with
    phase := .ready, bootAlways := 0, bootNvm := 0, duration := us % 2 ^ 32, mooringReason := 0 })
    (modClock (fun c => { c with numbering := .plain }) s))

/-- The effect of DICTIONARY_READY (R480). -/
def makeReady (us : Nat) (s : State) : State :=
  let v := startEngines (forAll (List.range 64) startChannel (readied us s))
  notice 0x0064 3 0 0 [v.dev.power.resetCause, v.dev.power.bootUsed, us] v

/-- The dictionary is ready: what the start has set stays, and each engine has the slot that serves it. -/
theorem makeReady_spec (us : Nat) {s' : State} (h : makeReady us s = s') :
    StartKeeps (readied us s) s' ∧ (∀ e, e ∉ s.dev.faults.retired → s'.engine e = s.engine e) ∧
    (∀ e, e < 64 → e ∈ s.dev.faults.retired → EngineMapped e s s') := by
  obtain ⟨hchan, heng⟩ := startChannels_spec (readied us s)
  generalize hw : forAll (List.range 64) startChannel (readied us s) = w at hchan heng
  have hr : Reported (startEngines w) s' := by
    rw [← h, makeReady, hw]
    exact reported_notice ..
  obtain ⟨-, h64, h65, hret⟩ := standing_eq_iff.1 hchan.standing
  have hcore : w.core = s.core := by funext e; exact congrArg Engine.core (congrFun heng e)
  refine ⟨hchan.trans ((startEngines_keeps w).trans (hr.channelOnly 0).startKeeps), fun e he => ?_, fun e he hm => ?_⟩
  · rw [hr.engine, startEngines_sound w (hret ▸ he), heng]; rfl
  · have hmap := startEngines_retired w he (hret ▸ hm)
    rw [EngineMapped, h64, h65, hcore] at hmap
    rw [EngineMapped, hr.engine, hr.core, hr.out]
    exact hmap

/-- The end of a start (R480, R481, R461). -/
theorem makeReady_ready (us : Nat) {s' : State} (h : makeReady us s = s') :
    s'.dev.power.phase = .ready ∧ s'.dev.power.bootAlways = 0 ∧ s'.dev.power.bootNvm = 0 ∧ s'.dev.faults.faultnLow = false ∧
    s'.dev.power.duration = us % 2 ^ 32 ∧ s'.now = s.now ∧ s'.dev.clock.numbering = .plain ∧
    (∀ e, e < 64 → e ∉ s.dev.faults.retired → s'.engine e = s.engine e) ∧
    (∀ e, e < 64 → e ∈ s.dev.faults.retired → EngineMapped e s s') := by
  obtain ⟨⟨hclock, hpower, hstanding⟩, hsound, hretired⟩ := makeReady_spec s us h
  obtain ⟨hlow, -⟩ := standing_eq_iff.1 hstanding
  rw [State.now, hclock, hpower, hlow]
  exact ⟨rfl, rfl, rfl, rfl, rfl, rfl, rfl, fun e _ he => hsound e he, hretired⟩

/-! ### ECLK_LOCK (R270, R412) -/

/-- A march test that finds no bad row, with no repair pending, retires nothing. -/
theorem startMarch_clean (h : s.dev.scratch.repairs = []) : startMarch [] s = modScratch (fun x => { x with repairs := [] }) s := by
  simp [startMarch, h, failingRows, forAll]

theorem roleLost_eq_false (h : ∀ b, (s.bank b).retired = false) : roleLost s = false := by
  simp [roleLost, h]

/-! ### RESTART_CMD (R485, R487) -/

/-- What an arriving frame leaves of a session: its role, its request numbers, and that it stays open or closed. -/
def standingOf (x : Session) : Bool × Nat × Nat := (x.isOpen, x.role, x.highest)

theorem standingOf_sendNext (edge : Nat) (x : Session) : standingOf (sendNext edge x) = standingOf x := by
  unfold sendNext
  split
  · split <;> rfl
  · rfl

theorem standingOf_sends (edge : Nat) (l : List Nat) : ∀ x : Session, standingOf (l.foldl (fun x _ => sendNext edge x) x) = standingOf x := by
  induction l with
  | nil => exact fun _ => rfl
  | cons _ l ih => exact fun x => (ih _).trans (standingOf_sendNext edge x)

theorem standingOf_modSession (k j : Nat) (f : Session → Session) (hf : standingOf (f (s.session k)) = standingOf (s.session k)) :
    standingOf ((modSession k f s).session j) = standingOf (s.session j) := by
  rcases eq_or_ne j k with rfl | hj
  · rw [modSession_session, hf]
  · rw [modSession_session_ne s k j hj]

theorem standingOf_pump (k j : Nat) : standingOf ((pump k s).session j) = standingOf (s.session j) := by
  unfold pump
  split
  · exact standingOf_modSession s k j _ (standingOf_sends ..)
  · rfl

theorem standingOf_settleTimers (k j : Nat) : standingOf ((settleTimers k s).session j) = standingOf (s.session j) := by
  unfold settleTimers
  simp only
  split
  · split
    · exact standingOf_modSession s k j _ rfl
    · rfl
  · exact standingOf_modSession s k j _ rfl
  · rfl

theorem standingOf_frameArrives (sess port j : Nat) : standingOf ((frameArrives sess port s).session j) = standingOf (s.session j) := by
  rw [frameArrives, standingOf_pump, standingOf_settleTimers]
  exact standingOf_modSession s sess j _ rfl

theorem isHm_frameArrives (sess port k : Nat) : isHm (frameArrives sess port s) k = isHm s k := by
  have hs := fun j => standingOf_frameArrives s sess port j
  simp only [standingOf, Prod.mk.injEq] at hs
  simp only [isHm, harbourmaster, hs]

theorem highest_frameArrives (sess port k : Nat) : ((frameArrives sess port s).session k).highest = (s.session k).highest :=
  congrArg (fun x => x.2.2) (standingOf_frameArrives s sess port k)

/-- A new request of the harbourmaster session to a CMD object that no further rule refuses is carried out and answered with 0. -/
theorem command_carried {r : Req} {index : Nat} {eff : State → State} (hn : NewRequest s r) (hw : MayWrite s r index) :
    command r index (fun _ => []) eff s = respond r 0 [] (eff (frameArrives r.sess r.port s)) := by
  obtain ⟨⟨hserves, hup, hopen, hmac⟩, hlow, hhigh⟩ := hn
  obtain ⟨hhm, hview, hmoor⟩ := hw
  have hmooring : mooring (frameArrives r.sess r.port s) = mooring s := by simp only [mooring, frameArrives_dev]
  have hcodes : lowest (hmCodes r index (frameArrives r.sess r.port s) ++ []) = 0 := by
    rw [lowest_eq_zero]
    simp only [hmCodes, writeCodes, isHm_frameArrives, hmooring, hhm, hview, failIf]
    cases hm : mooring s with
    | true => simp [hmoor hm]
    | false => simp
  simp only [command, request, requestWith, requestRun, withFrame, hserves, hup, hopen, hmac, Bool.and_self, if_true, highest_frameArrives]
  rw [if_neg (by omega), if_neg (by omega), if_pos hhigh]
  exact execute_ok _ r _ eff _ hcodes

/-! ### The statement -/

section Commands

variable {s} {t : Nat} {P : State → Prop}

theorem completes_pornAssert {ns : Nat} (hn : 1000 ≤ ns) (h : P (resetDevice 2 .porLow (advance t s))) :
    Completes (exec (.pornAssert t ns) s) P :=
  completes_occurs (c := fun _ => decide (1000 ≤ ns)) (f := resetDevice 2 .porLow) (by simp [hn]) h

theorem exec_pornAssert_short {ns : Nat} (hn : ns < 1000) : exec (.pornAssert t ns) s = .next (advance t s) := by
  show execPornAssert t ns s = _
  rw [execPornAssert, atEdge_eq, occurs_false _ _ _ (by simp [hn])]

theorem completes_supplyReset {k : Fin 11} (hk : k.val < 7) (hp : (advance t s).dev.power.phase ≠ .porLow)
    (h : P (resetDevice 3 .resetWait (advance t s))) : Completes (exec (.supplyReset t k) s) P :=
  completes_occurs (f := resetDevice 3 .resetWait) (by simp [hk, hp]) h

theorem completes_pornRelease {devpos : Fin 8} {bootsel ok drop : Bool} (hp : (advance t s).dev.power.phase = .porLow)
    (h : P (boot ok drop (released devpos bootsel drop (advance t s)))) : Completes (exec (.pornRelease t devpos bootsel ok drop) s) P := by
  show Completes (execPornRelease t devpos bootsel ok drop s) P
  unfold execPornRelease
  exact completes_occurs (by simp [hp]) h

/-- Where the start after PORn ends with the links opened over the power state that `f` gives. -/
theorem completes_pornRelease_opened {devpos : Fin 8} {bootsel ok drop : Bool} {f : Power → Power}
    (hp : (advance t s).dev.power.phase = .porLow)
    (hb : boot ok drop (released devpos bootsel drop (advance t s)) = openLinks (modPower f (released devpos bootsel drop (advance t s))))
    (hf : ∀ p, (f p).resetCause = p.pendingCause ∧ (f p).starts = wrap32 (p.starts + 1) ∧ (f p).bootUsed = bootTries drop p)
    (h : ∀ s', ReleasedFine devpos drop (advance t s).dev.power s' → s'.dev.power = f (released devpos bootsel drop (advance t s)).dev.power →
      P s') : Completes (exec (.pornRelease t devpos bootsel ok drop) s) P := by
  refine completes_pornRelease hp ?_
  rw [hb]
  exact h _ (released_fine _ hf) (openLinks_power _)

theorem completes_dictionaryReady {us : Nat} (hp : (advance t s).dev.power.phase = .starting 7) (he : (advance t s).dev.clock.epochSet = true)
    (h : P (makeReady us (advance t s))) : Completes (exec (.dictionaryReady t us) s) P := by
  show Completes (execDictionaryReady t us s) P
  unfold execDictionaryReady
  unfold makeReady startEngines readied at h
  exact completes_occurs (by simp [hp, he]) h

theorem exec_dictionaryReady_early {us : Nat} (he : (advance t s).dev.clock.epochSet = false) :
    exec (.dictionaryReady t us) s = .next (advance t s) := by
  show execDictionaryReady t us s = _
  rw [execDictionaryReady, atEdge_eq, occurs_false _ _ _ (by simp [he])]

theorem completes_refclkWaitTimeout (hp : (advance t s).dev.power.phase = .starting 4) (h : P (startFails 4 (advance t s))) :
    Completes (exec (.refclkWaitTimeout t) s) P := by
  show Completes (execRefclkWaitTimeout t s) P
  exact completes_occurs (by simp [hp]) h

theorem completes_supplyResetRestart {drop ok : Bool} (hp : (advance t s).dev.power.phase = .resetWait)
    (hc : (advance t s).dev.power.pendingCause = 3) (h : P (boot ok drop (advance t s))) :
    Completes (exec (.supplyResetRestart t drop ok) s) P := by
  show Completes (execSupplyResetRestart t drop ok s) P
  exact completes_occurs (by simp [hp, hc]) h

theorem exec_softwareReset {n : Nat} {into : Bool} (h : (advance t s).dev.power.restart = some (n, into)) :
    exec (.softwareReset t) s = .next (if (advance t s).now < n then advance t s else
      if into then moor 4 (beginStart (resetDevice 6 .resetWait (advance t s))) else boot true false (resetDevice 6 .resetWait (advance t s))) := by
  show execSoftwareReset t s = _
  simp only [execSoftwareReset, atEdge_eq, h]

end Commands

/-- The start after a software reset: as any start, or straight into mooring mode with reason 4 (R485, R487). -/
theorem softwareReset_spec (into : Bool) {s' : State}
    (h : (if into then moor 4 (beginStart (resetDevice 6 .resetWait s)) else boot true false (resetDevice 6 .resetWait s)) = s') :
    s'.dev.power.resetCause = 6 ∧ s'.link.sessions = [] ∧ s'.dev.power.restart = none ∧
    (into = true → s'.dev.power.phase = .mooring ∧ s'.dev.power.mooringReason = 4) := by
  cases into with
  | true =>
    rw [if_pos rfl, moor_eq] at h
    subst h
    rw [openLinks_power, openLinks_closed _ _ rfl]
    exact ⟨rfl, rfl, rfl, fun _ => ⟨rfl, rfl⟩⟩
  | false =>
    obtain ⟨hcause, -, -, hrestart, hclosed⟩ := boot_spec _ false h
    exact ⟨hcause, hclosed rfl, hrestart, fun hi => absurd hi (by decide)⟩

/-- ECLK_LOCK on a module with nothing retired and no failing row or channel. -/
theorem eclkLock_clean (t : Nat) (dramClk : Bool) (hp : s.dev.power.phase = .starting 4) (hr : s.dev.scratch.repairs = [])
    (hb : ∀ b, (s.bank b).retired = false) (hm : ∀ m, (s.chan m).st ≠ 5) :
    exec (.eclkLock t dramClk [] []) s = .next (modPower (fun p => { p with phase := .starting 7 })
      (modScratch (fun x => { x with repairs := [] }) (modClock (fun c => { c with
        n := t, numbering := .watch t [] (some (t + watchEdges + 1)), timeAcc := 0, refPresent := true, locked := true,
        dramClkLocked := dramClk }) s))) := by
  show execEclkLock t dramClk [] [] s = _
  have hbank : ∀ f b, ((modScratch (fun x => { x with repairs := [] }) (modClock f s)).bank b).retired = false := fun _ b => hb b
  have hnone : (List.range 6).filter (List.contains []) = [] := List.filter_eq_nil_iff.2 fun _ _ => by simp
  simp only [execEclkLock, hp, startMarch_clean (modClock _ s) hr, roleLost_eq_false _ (hbank _), hnone, forAll_nil]
  simp [hm]

/-- RESTART_CMD is carried out and answered with 0 (R485). -/
theorem restartCmd_carried (into : Bool) {r : Req} (hn : NewRequest s r) (hw : MayWrite s r 0x2210) {s' : State}
    (h : command r 0x2210 (fun _ => []) (restartCmd into) s = s') :
    Answers s' r 0 ∧ s'.dev = { s.dev with power := { s.dev.power with
      restart := some (s.now + 4000000, into), bootAlways := if into then s.dev.power.bootAlways else 0,
      bootNvm := if into then s.dev.power.bootNvm else 0 } } := by
  rw [command_carried s hn hw] at h
  subst h
  refine ⟨⟨_, respond_last .., rfl, rfl, rfl⟩, ?_⟩
  rw [respond_dev, restartCmd, modPower, modDev]
  simp only [State.now, frameArrives_dev]

/-- Settles O60: the resets, the ways in which a start after PORn ends, the end of the start, its restarts, and ECLK_LOCK and RESTART_CMD. -/
theorem resetsAndStarts : Obligations.ResetsAndStarts := by
  unfold Obligations.ResetsAndStarts
  refine ⟨?resets, ?eclk, ?restart⟩
  case resets =>
    intro t s u p cleared
    have hcleared : ∀ k ph, cleared (resetDevice k ph u) := fun k ph => resetDevice_cleared u k ph rfl
    refine ⟨?assert, ?short, ?supply, ?release, ?ready, ?early, ?timeout, ?software, ?supplyRestart⟩
    case assert => exact fun ns hns => completes_pornAssert hns ⟨rfl, hcleared ..⟩
    case short => exact fun ns hns => exec_pornAssert_short hns
    case supply => exact fun k hk hp => completes_supplyReset hk hp ⟨rfl, rfl, hcleared ..⟩
    case release =>
      intro dp drop hp tries fine
      refine ⟨fun ht hi => ?_, fun ht hi ho => ?_, fun ht hi ho => ?_, fun ht => ?_, fun ht sel ok => ?_, fun sel ht => ?_⟩
      · exact completes_pornRelease_opened hp (boot_preferred (s := released dp false drop u) ht rfl hi) (fun _ => ⟨rfl, rfl, rfl⟩)
          fun s' hfine hpow => ⟨hfine, by rw [hpow]; exact ⟨rfl, rfl, rfl⟩⟩
      · refine completes_pornRelease hp ?_
        rw [boot_other (s := released dp false drop u) ht rfl hi ho]
        refine ⟨released_fine u fun _ => ⟨rfl, rfl, rfl⟩, ?_, ?_, openLinks_badImages _ (by simp [imageStarts])⟩ <;>
          rw [openLinks_power] <;> rfl
      · exact completes_pornRelease_opened hp (boot_noImage (s := released dp false drop u) ht rfl hi ho) (fun _ => ⟨rfl, rfl, rfl⟩)
          fun s' hfine hpow => ⟨hfine, by rw [hpow]; exact ⟨rfl, rfl⟩⟩
      · exact completes_pornRelease_opened hp (bootFrom_bootsel (released dp true drop u) 4 drop ht rfl) (fun _ => ⟨rfl, rfl, rfl⟩)
          fun s' hfine hpow => ⟨hfine, by rw [hpow]; exact ⟨rfl, rfl⟩⟩
      · exact completes_pornRelease_opened hp (bootFrom_third (released dp sel drop u) 4 ok drop ht) (fun _ => ⟨rfl, rfl, rfl⟩)
          fun s' hfine hpow => ⟨hfine, by rw [hpow]; exact ⟨rfl, rfl⟩⟩
      · exact completes_pornRelease hp (boot_localFails (s := released dp sel drop u) ht rfl)
    case ready => exact fun us hp he => completes_dictionaryReady hp he (makeReady_ready u us rfl)
    case early => exact fun us _ he => exec_dictionaryReady_early he
    case timeout => exact fun hp => completes_refclkWaitTimeout hp (startFails_spec u 4 rfl)
    case software =>
      intro into n hn
      rw [exec_softwareReset hn]
      refine ⟨fun hlt => by rw [if_pos hlt], fun hle => ?_⟩
      rw [if_neg (Nat.not_lt.2 hle)]
      exact ⟨_, rfl, softwareReset_spec u into rfl⟩
    case supplyRestart =>
      intro drop hp hc
      obtain ⟨hcause, hstarts, -⟩ := boot_spec u drop rfl
      exact completes_supplyResetRestart hp hc ⟨hcause.trans hc, hstarts⟩
  case eclk =>
    intro t dramClk s hp hr hb hm
    rw [eclkLock_clean s t dramClk hp hr hb hm]
    exact ⟨_, rfl, rfl, rfl, rfl, rfl, rfl, rfl, rfl, rfl, rfl⟩
  case restart =>
    intro t r s u hn hw
    exact ⟨⟨_, rfl, restartCmd_carried u false hn hw rfl⟩, ⟨_, rfl, restartCmd_carried u true hn hw rfl⟩⟩

end Sys2Proof.Machine

/-! PROOFS. The byte memories: which operations leave the step tables and the scratchpad alone, what the others write, and the invariant.

Each operation of the model has one fact here: `memories_<operation>` where it leaves the three memories alone, `canonical_<operation>`
where it can write one. A proof follows the operation's body: `memories_if` for a conditional, `memories_each` for a repetition, and the
facts of the operations it calls, which are simp lemmas. -/

namespace Sys2Proof.Machine

/-- The memories of the invariant (R59, R323, R404). -/
structure Memories where
  active : Mem
  staged : Mem
  scratch : Mem

def memories (s : State) : Memories := ⟨s.dev.dict.stepsActive, s.dev.dict.stepsStaged, s.dev.scratch.content⟩

variable (s : State)

/-! ### Updates of a part -/

@[simp] theorem memories_modLink (f : Link → Link) : memories (modLink f s) = memories s := (rfl)
@[simp] theorem memories_modClock (f : Clock → Clock) : memories (modClock f s) = memories s := (rfl)
@[simp] theorem memories_modFabric (f : Fabric → Fabric) : memories (modFabric f s) = memories s := (rfl)
@[simp] theorem memories_modRing (f : Ring → Ring) : memories (modRing f s) = memories s := (rfl)
@[simp] theorem memories_modStore (f : Store → Store) : memories (modStore f s) = memories s := (rfl)
@[simp] theorem memories_modDram (f : DramStore → DramStore) : memories (modDram f s) = memories s := (rfl)
@[simp] theorem memories_modFaults (f : Faults → Faults) : memories (modFaults f s) = memories s := (rfl)
@[simp] theorem memories_modPower (f : Power → Power) : memories (modPower f s) = memories s := (rfl)
@[simp] theorem memories_modEngine (e : Nat) (f : Engine → Engine) : memories (modEngine e f s) = memories s := (rfl)
@[simp] theorem memories_modLine (p : Nat) (f : Line → Line) : memories (modLine p f s) = memories s := (rfl)
@[simp] theorem memories_modOut (c : Nat) (f : Out → Out) : memories (modOut c f s) = memories s := (rfl)
@[simp] theorem memories_modCmp (j : Nat) (f : Cmp → Cmp) : memories (modCmp j f s) = memories s := (rfl)
@[simp] theorem memories_modSense (c : Nat) (f : Sense → Sense) : memories (modSense c f s) = memories s := (rfl)
@[simp] theorem memories_modInput (i : Nat) (f : Input → Input) : memories (modInput i f s) = memories s := (rfl)
@[simp] theorem memories_modTrig (k : Nat) (f : Trig → Trig) : memories (modTrig k f s) = memories s := (rfl)
@[simp] theorem memories_modTimer (k : Nat) (f : Timer → Timer) : memories (modTimer k f s) = memories s := (rfl)
@[simp] theorem memories_modSeg (n : Nat) (f : Seg → Seg) : memories (modSeg n f s) = memories s := (rfl)
@[simp] theorem memories_modStream (n : Nat) (f : Stream → Stream) : memories (modStream n f s) = memories s := (rfl)
@[simp] theorem memories_modBank (b : Nat) (f : Bank → Bank) : memories (modBank b f s) = memories s := (rfl)
@[simp] theorem memories_modChan (m : Nat) (f : Dram → Dram) : memories (modChan m f s) = memories s := (rfl)
@[simp] theorem memories_modCal (c : Nat) (f : Cal → Cal) : memories (modCal c f s) = memories s := (rfl)
@[simp] theorem memories_modPort (p : Nat) (f : Port → Port) : memories (modPort p f s) = memories s := (rfl)
@[simp] theorem memories_modSession (k : Nat) (f : Session → Session) : memories (modSession k f s) = memories s := (rfl)
@[simp] theorem memories_modCore (e : Nat) (f : EngCore → EngCore) : memories (modCore e f s) = memories s := (rfl)
@[simp] theorem memories_modPend (e : Nat) (f : EngPend → EngPend) : memories (modPend e f s) = memories s := (rfl)
@[simp] theorem memories_modPlay (e : Nat) (f : EngPlay → EngPlay) : memories (modPlay e f s) = memories s := (rfl)
@[simp] theorem memories_modSrc (e : Nat) (f : EngSrc → EngSrc) : memories (modSrc e f s) = memories s := (rfl)
@[simp] theorem memories_modVals (e : Nat) (f : EngVals → EngVals) : memories (modVals e f s) = memories s := (rfl)
@[simp] theorem memories_modCnt (e : Nat) (f : EngCnt → EngCnt) : memories (modCnt e f s) = memories s := (rfl)
@[simp] theorem memories_modRingCommit (f : RingCommit → RingCommit) : memories (modRingCommit f s) = memories s := (rfl)

@[simp] theorem memories_modDict (f : Dict → Dict) (hActive : ∀ d, (f d).stepsActive = d.stepsActive)
    (hStaged : ∀ d, (f d).stepsStaged = d.stepsStaged) : memories (modDict f s) = memories s := by
  simp [memories, hActive, hStaged]

@[simp] theorem memories_modScratch (f : Scratch → Scratch) (h : ∀ x, (f x).content = x.content) :
    memories (modScratch f s) = memories s := by
  simp [memories, h]

@[simp] theorem memories_modDev (f : Device → Device) (hDict : (f s.dev).dict = s.dev.dict) (hScratch : (f s.dev).scratch = s.dev.scratch) :
    memories (modDev f s) = memories s := by
  simp [memories, modDev, hDict, hScratch]

@[simp] theorem memories_undefined (n : Nat) : memories { s with undefined := n } = memories s := rfl

/-! ### Branches, repetitions and events -/

@[simp] theorem memories_ite (c : Prop) [Decidable c] (a b : State) :
    memories (if c then a else b) = if c then memories a else memories b := apply_ite ..

/-- Both branches leave the memories as they were. -/
theorem memories_if {c : Prop} [Decidable c] {a b : State} {m : Memories} (ha : memories a = m) (hb : memories b = m) :
    memories (if c then a else b) = m := (apply_ite memories c a b).trans ((congrArg₂ (ite c) ha hb).trans (ite_self m))

/-- A conditional update of a state. -/
theorem memories_update {c : Prop} [Decidable c] {a b : State} {m : Memories} (ha : memories a = memories b) (hb : memories b = m) :
    memories (if c then a else b) = m := memories_if (ha.trans hb) hb

@[simp] theorem memories_forAll {α : Type} (l : List α) (f : α → State → State) (hf : ∀ x s, memories (f x s) = memories s) :
    memories (forAll l f s) = memories s := forAll_proj s memories l f hf

theorem memories_each {s : State} {α : Type} {l : List α} {f : α → State → State} {m : Memories} (hf : ∀ x s, memories (f x s) = memories s)
    (hs : memories s = m) : memories (forAll l f s) = m := (forAll_proj s memories l f hf).trans hs

@[simp] theorem memories_occurs (c : State → Bool) (f : State → State) (hf : ∀ s, memories (f s) = memories s) :
    memories (occurs c f s) = memories s := by
  simp [occurs, hf]

/-! ### Producer lines and notices -/

@[simp] theorem memories_assertLine (at_ l : Nat) : memories (assertLine at_ l s) = memories s := (rfl)

@[simp] theorem memories_engineLine (e o at_ : Nat) : memories (engineLine e o at_ s) = memories s := by
  unfold engineLine
  cases (s.engine e).takeover with
  | none => exact memories_assertLine ..
  | some => exact memories_if rfl (memories_assertLine ..)

@[simp] theorem memories_pump (k : Nat) : memories (pump k s) = memories s := by simp [pump]

@[simp] theorem memories_enqueue (k : Nat) (n : Notice) : memories (enqueue k n s) = memories s := by
  unfold enqueue
  extract_lets x asserted
  refine memories_if (memories_if ((memories_pump ..).trans rfl) ?_) rfl
  cases worstUnsent n.cls x.notices with
  | none => exact memories_assertLine ..
  | some c => exact (memories_pump ..).trans (memories_assertLine ..)

@[simp] theorem memories_notify (code cls kind source step tag : Nat) (params : List Nat) :
    memories (notify code cls kind source step tag params s) = memories s := by
  simp [notify]

@[simp] theorem memories_notice (code cls kind source : Nat) (params : List Nat) : memories (notice code cls kind source params s) = memories s := by
  simp [notice]

@[simp] theorem memories_engineNotice (code cls e : Nat) (params : List Nat) : memories (engineNotice code cls e params s) = memories s := by
  simp [engineNotice]

/-! ### Inputs of engines and timers -/

@[simp] theorem memories_registerInput (i : Nat) : memories (registerInput i s).1 = memories s := by
  unfold registerInput
  dsimp only
  split
  · rfl
  · split <;> simp

/-! ### Renumbering -/

@[simp] theorem memories_renumber (o n : Nat) : memories (renumber o n s) = memories s := (rfl)

/-! ### Time -/

@[simp] theorem memories_abandonSeq (n c : Nat) : memories (abandonSeq n c s) = memories s := by
  unfold abandonSeq
  cases (s.out c).seq with
  | none => rfl
  | some q => exact memories_if rfl rfl

@[simp] theorem memories_settleRange (c : Nat) : memories (settleRange c s) = memories s := (rfl)
@[simp] theorem memories_hardPark (n c cause : Nat) : memories (hardPark n c cause s) = memories s :=
  memories_if rfl (memories_if (memories_if rfl rfl) ((memories_settleRange ..).trans (memories_abandonSeq ..)))

@[simp] theorem memories_parkAt (n c cause flag : Nat) : memories (parkAt n c cause flag s) = memories s := memories_modOut ..

@[simp] theorem memories_takePark (c : Nat) : memories (takePark c s) = memories s := by
  unfold takePark
  extract_lets o s1
  cases o.parkDue with
  | none => rfl
  | some x => exact memories_if rfl (memories_if (memories_hardPark ..) (memories_hardPark ..))

@[simp] theorem memories_keepTicks (n : Nat) : memories (keepTicks n s) = memories s := (rfl)

theorem memories_clockTo (n : Nat) : memories (clockTo n s) = memories s := by
  exact memories_keepTicks s n

theorem memories_advanceTo (t : Nat) : memories (advanceTo t s) = memories s :=
  (memories_clockTo ..).trans <| memories_each (fun _ _ => memories_each (fun _ _ => memories_takePark ..) (memories_clockTo ..)) rfl

@[simp] theorem memories_advance (t : Nat) : memories (advance t s) = memories s := by
  have h : ∀ t v, memories (advanceTo t v) = memories v := fun t v => memories_advanceTo v t
  unfold advance
  cases s.dev.clock.numbering with
  | plain => exact h ..
  | realign e => exact memories_if (h ..) ((h ..).trans ((memories_renumber ..).trans (h ..)))
  | watch lock _ epoch =>
    cases epoch with
    | none => exact h ..
    | some e => exact memories_if (h ..) ((h ..).trans ((memories_renumber ..).trans (h ..)))
  | started => exact h ..

/-! ### Reports -/

@[simp] theorem memories_logFault (e : LogEntry) : memories (logFault e s) = memories s := by
  unfold logFault
  cases mergeEntry e s.dev.faults.queue with
  | some q => rfl
  | none =>
    cases mergeEntry e s.dev.faults.log with
    | some l => rfl
    | none =>
      exact memories_if (memories_modFaults ..) (memories_if (memories_modFaults ..) ((memories_notice ..).trans (memories_modFaults ..)))

@[simp] theorem memories_flushLog : memories (flushLog s) = memories s := (rfl)

@[simp] theorem memories_reportFault (cls kind source cause location p0 p1 : Nat) :
    memories (reportFault cls kind source cause location p0 p1 s) = memories s := by
  simp [reportFault]

@[simp] theorem memories_countCorrected : memories (countCorrected s) = memories s := (rfl)
@[simp] theorem memories_requestNotice : memories (requestNotice s) = memories s := by simp [requestNotice]
@[simp] theorem memories_raiseReason (k : Nat) : memories (raiseReason k s) = memories s := by simp [raiseReason]
@[simp] theorem memories_degraded : memories (degraded s) = memories s := (rfl)

/-! ### Streams and live data -/

@[simp] theorem memories_releaseBelow (e n w : Nat) : memories (releaseBelow e n w s) = memories s := memories_if rfl rfl

@[simp] theorem memories_copyLive (e n : Nat) : memories (copyLive e n s) = memories s := by
  unfold copyLive
  split
  · extract_lets c
    cases copyWords s (s.seg n) (liveIw c n) (sourcePos s e % 2 ^ 32) 4096 c.src.copied c.src.chip
    simp
  · rfl

@[simp] theorem memories_panicCheck (e : Nat) : memories (panicCheck e s) = memories s := memories_modSrc ..

theorem memories_lowCheck (e n : Nat) : memories (lowCheck e n s) = memories s :=
  memories_if rfl (memories_if (memories_engineNotice ..) rfl)

@[simp] theorem memories_fillChecks (e : Nat) : memories (fillChecks e s) = memories s := by
  unfold fillChecks
  cases sourceOf s e with
  | none => exact memories_panicCheck ..
  | some n => exact (memories_panicCheck ..).trans (memories_if (memories_lowCheck ..) rfl)

@[simp] theorem memories_emptySource (e n : Nat) : memories (emptySource e n s) = memories s := memories_if rfl rfl

/-! ### Engines at a tick -/

@[simp] theorem memories_ignoreEvents (e k : Nat) : memories (ignoreEvents e k s) = memories s := (rfl)

@[simp] theorem memories_releasePlayed (e : Nat) : memories (releasePlayed e s) = memories s := by
  unfold releasePlayed
  split <;> simp

@[simp] theorem memories_leaveStep (e : Nat) : memories (leaveStep e s) = memories s := (rfl)
@[simp] theorem memories_discardAtEnd (e : Nat) : memories (discardAtEnd e s) = memories s := (rfl)

@[simp] theorem memories_beginEntry (e : Nat) : memories (beginEntry e s) = memories s :=
  (memories_fillChecks ..).trans (memories_if (memories_copyLive ..) rfl)

@[simp] theorem memories_takeEntry (e : Nat) : memories (takeEntry e s) = memories s := memories_beginEntry ..

@[simp] theorem memories_enterStep (e k : Nat) (late : Bool) : memories (enterStep e k late s) = memories s := by
  unfold enterStep fetchSteps
  extract_lets c isLate s1 s2
  have h2 : memories s2 = memories s := (memories_modCore ..).trans ((memories_modCore ..).trans (memories_ignoreEvents ..))
  clear_value s2
  exact memories_if ((memories_engineNotice ..).trans ((memories_modCnt ..).trans ((memories_modPlay ..).trans ((memories_beginEntry ..).trans h2))))
    ((memories_modPlay ..).trans ((memories_takeEntry ..).trans h2))

@[simp] theorem memories_toIdle (e : Nat) : memories (toIdle e s) = memories s := (rfl)
@[simp] theorem memories_dropRequests (e : Nat) : memories (dropRequests e s) = memories s := (rfl)
@[simp] theorem memories_abortEngine (e cause : Nat) : memories (abortEngine e cause s) = memories s := by simp [abortEngine]

@[simp] theorem memories_commandAct (e : Nat) (late : Bool) (k : EngCmd) : memories (commandAct e late k s) = memories s := by
  unfold commandAct
  refine memories_if ?_ (memories_ignoreEvents ..)
  split
  · rfl
  · exact memories_enterStep ..
  · exact memories_abortEngine ..
  · exact (memories_enterStep ..).trans ((memories_leaveStep ..).trans ((memories_releasePlayed ..).trans (memories_discardAtEnd ..)))
  · exact memories_toIdle ..
  · exact (memories_modSrc ..).trans (memories_toIdle ..)

theorem memories_applyRate (e : Nat) : memories (applyRate e s) = memories s := memories_if rfl (memories_ignoreEvents ..)

@[simp] theorem memories_dueRates (e : Nat) : memories (dueRates e s) = memories s := memories_each (fun _ _ => memories_applyRate ..) rfl

@[simp] theorem memories_underrunAct (e w : Nat) (src : Option Nat) (late : Bool) : memories (underrunAct e w src late s) = memories s := by
  unfold underrunAct
  extract_lets c u latched lined noticed emptied cleared p discarded left k w'
  have hNoticed : memories noticed = memories s := by simp [noticed, lined, latched]
  have hEmptied : memories emptied = memories noticed := by dsimp only [emptied]; split <;> simp
  have hDiscarded : memories discarded = memories emptied := by simp [discarded, cleared]
  have hLeft : memories left = memories discarded := by simp [left]
  have hCleared : memories cleared = memories emptied := by simp [cleared]
  simp [hLeft, hDiscarded, hCleared, hEmptied, hNoticed]

@[simp] theorem memories_startAct (e : Nat) (late : Bool) : memories (startAct e late s) = memories s :=
  memories_if (memories_enterStep ..) (memories_ignoreEvents ..)

@[simp] theorem memories_jumpAct (e k : Nat) (late : Bool) : memories (jumpAct e k late s) = memories s :=
  memories_if
    ((memories_enterStep ..).trans ((memories_leaveStep ..).trans ((memories_releasePlayed ..).trans (memories_discardAtEnd ..))))
    (memories_ignoreEvents ..)

@[simp] theorem memories_waitReleaseAct (e : Nat) (late : Bool) : memories (waitReleaseAct e late s) = memories s :=
  memories_if ((memories_enterStep ..).trans ((memories_leaveStep ..).trans ((memories_releasePlayed ..).trans (memories_modCnt ..))))
    (memories_ignoreEvents ..)

@[simp] theorem memories_unholdAct (e : Nat) : memories (unholdAct e s) = memories s := memories_if rfl (memories_ignoreEvents ..)

@[simp] theorem memories_abortAct (e : Nat) : memories (abortAct e s) = memories s :=
  memories_if (memories_toIdle ..) (memories_if (memories_abortEngine ..) (memories_ignoreEvents ..))

@[simp] theorem memories_dueRequests (e : Nat) (src : Option Nat) (late : Bool) : memories (dueRequests e src late s) = memories s := by
  unfold dueRequests
  extract_lets aborted underrun started jumped released unheld c
  have hAborted : memories aborted = memories s := memories_if (memories_abortAct ..) rfl
  have hUnderrun : memories underrun = memories s := by
    clear_value aborted
    dsimp only [underrun]
    cases (aborted.core e).pend.underrun with
    | none => exact hAborted
    | some u => exact memories_if ((memories_underrunAct ..).trans hAborted) hAborted
  have hStarted : memories started = memories underrun := memories_if (memories_startAct ..) rfl
  have hJumped : memories jumped = memories underrun := by
    clear_value started
    dsimp only [jumped]
    cases (started.core e).pend.jump with
    | none => exact hStarted
    | some j => exact memories_if ((memories_jumpAct ..).trans hStarted) hStarted
  have hReleased : memories released = memories jumped := memories_if (memories_waitReleaseAct ..) rfl
  have hUnheld : memories unheld = memories s :=
    (memories_if (memories_unholdAct ..) rfl).trans (hReleased.trans (hJumped.trans hUnderrun))
  exact memories_if ((memories_ignoreEvents ..).trans ((memories_modPend ..).trans hUnheld)) hUnheld

@[simp] theorem memories_settleAtEnd (e t : Nat) (w : EndWhat) : memories (settleAtEnd e t w s) = memories s := by
  unfold settleAtEnd
  extract_lets s1
  cases eligibleAtEnd (s1.core e) t with
  | none => exact memories_modPlay ..
  | some =>
    cases w with
    | jump => rfl
    | _ => exact memories_ignoreEvents ..

@[simp] theorem memories_assertMarkers (e base m : Nat) : memories (assertMarkers e base m s) = memories s := by simp [assertMarkers]

@[simp] theorem memories_latchSample (e : Nat) : memories (latchSample e s) = memories s := by
  unfold latchSample
  extract_lets f latched
  cases sourceOf latched e with
  | none => exact memories_panicCheck ..
  | some n =>
    exact (memories_fillChecks ..).trans (memories_update (memories_copyLive ..) ((memories_releaseBelow ..).trans (memories_modCore ..)))

@[simp] theorem memories_firstSample (e : Nat) : memories (firstSample e s) = memories s := by simp [firstSample]
@[simp] theorem memories_nextSample (e sum n : Nat) : memories (nextSample e sum n s) = memories s :=
  (memories_assertMarkers ..).trans ((memories_latchSample ..).trans (memories_dueRates ..))

@[simp] theorem memories_rest (e : Nat) (st : EState) (cause : Nat) : memories (rest e st cause s) = memories s := by
  unfold rest
  extract_lets p s1
  have h1 : memories s1 = memories s := by
    dsimp only [s1]
    cases p.atEnd with
    | none => rfl
    | some => exact (memories_ignoreEvents ..).trans (memories_modPend ..)
  exact (memories_leaveStep ..).trans ((memories_modCore ..).trans h1)

@[simp] theorem memories_endAct (e act next branch : Nat) (late : Bool) : memories (endAct e act next branch late s) = memories s := by
  unfold endAct
  split
  · exact memories_if ((memories_enterStep ..).trans ((memories_engineLine ..).trans ((memories_leaveStep ..).trans (memories_modCore ..))))
      ((memories_enterStep ..).trans ((memories_leaveStep ..).trans (memories_modCore ..)))
  · exact (memories_engineLine ..).trans (memories_rest ..)
  · exact memories_rest ..
  · exact (memories_engineLine ..).trans ((memories_modCore ..).trans ((memories_leaveStep ..).trans (memories_discardAtEnd ..)))
  · exact (memories_enterStep ..).trans (memories_leaveStep ..)

@[simp] theorem memories_endEntry (e sum : Nat) : memories (endEntry e sum s) = memories s := by
  unfold endEntry
  extract_lets c g s1
  have h : memories s1 = memories s := memories_if (memories_assertMarkers ..) rfl
  cases sourceOf s1 e with
  | none => exact h
  | some => exact (memories_releaseBelow ..).trans h

@[simp] theorem memories_leaveAt (e sum n : Nat) (w : EndWhat) (late : Bool) : memories (leaveAt e sum n w late s) = memories s := by
  have hleft : memories (leaveStep e (endEntry e sum s)) = memories s := (memories_leaveStep ..).trans (memories_endEntry ..)
  cases w with
  | jump => exact (memories_enterStep ..).trans hleft
  | reenter => exact (memories_enterStep ..).trans hleft
  | action => exact (memories_endAct ..).trans (memories_endEntry ..)
  | goOn => exact memories_nextSample ..

@[simp] theorem memories_holdAct (e : Nat) : memories (holdAct e s) = memories s := by simp [holdAct]

@[simp] theorem memories_sampleTick (e : Nat) (late : Bool) : memories (sampleTick e late s) = memories s := by
  unfold sampleTick
  extract_lets c hold
  cases c.phase with
  | first => exact memories_if (memories_holdAct ..) (memories_firstSample ..)
  | again => exact memories_if (memories_holdAct ..) (memories_nextSample ..)
  | _ =>
    have hheld : ∀ b : Bool, memories (if b then ignoreEvents e 1 (modPend e (fun p => { p with hold := none }) s) else s) = memories s :=
      fun _ => memories_if ((memories_ignoreEvents ..).trans (memories_modPend ..)) rfl
    cases passSum s c with
    | mk sum n =>
      exact memories_if (memories_holdAct ..) <| (memories_leaveAt ..).trans <| memories_if (hheld _) <|
        (memories_modPend ..).trans <| memories_if (hheld _) ((memories_settleAtEnd ..).trans (hheld _))

@[simp] theorem memories_deadTick (e : Nat) : memories (deadTick e s) = memories s := memories_modCore ..

@[simp] theorem memories_playTick (e : Nat) (late : Bool) : memories (playTick e late s) = memories s := by
  unfold playTick
  extract_lets c
  have hsampled : memories (sampleTick e late s) = memories s := memories_sampleTick ..
  refine memories_if rfl ?_
  cases c.phase with
  | still => rfl
  | dead => exact memories_deadTick ..
  | _ => exact memories_if ((memories_deadTick ..).trans hsampled) hsampled

theorem memories_dueCommands (e : Nat) (late : Bool) : memories (dueCommands e late s) = memories s :=
  memories_each (fun _ _ => memories_commandAct ..) rfl

theorem memories_changedAction (e : Nat) (late : Bool) : memories (changedAction e late s) = memories s :=
  memories_if ((memories_endAct ..).trans rfl) rfl

theorem memories_accumulate (e : Nat) : memories (accumulate e s) = memories s := memories_if rfl rfl

@[simp] theorem memories_engineTick (e : Nat) (late : Bool) : memories (engineTick e late s) = memories s :=
  memories_if rfl <| memories_if ((memories_modCore ..).trans ((memories_dueRates ..).trans (memories_dueCommands ..))) <|
    (memories_modCore ..).trans <| (memories_dueRates ..).trans <| (memories_playTick ..).trans <| memories_update (memories_modPlay ..) <|
    (memories_changedAction ..).trans <| (memories_dueRequests ..).trans <| (memories_dueCommands ..).trans <|
    (memories_accumulate ..).trans rfl

@[simp] theorem memories_simTicks (e t : Nat) : memories (simTicks e t s) = memories s := by simp [simTicks]

/-! ### Frames and requests -/

@[simp] theorem memories_settleTimers (sess : Nat) : memories (settleTimers sess s) = memories s := by
  unfold settleTimers
  dsimp only
  cases (s.session sess).timersAt <;> cases boundUp s (s.session sess)
  case none.false => exact memories_if rfl rfl
  all_goals rfl

@[simp] theorem memories_frameArrives (sess port : Nat) : memories (frameArrives sess port s) = memories s := by simp [frameArrives]

@[simp] theorem memories_withFrame (sess port : Nat) (macOk : Bool) (f : State → State) (hf : ∀ s, memories (f s) = memories s) :
    memories (withFrame sess port macOk f s) = memories s := by
  simp [withFrame, hf]

@[simp] theorem memories_respond (r : Req) (code : Nat) (data : List Byte) : memories (respond r code data s) = memories s := memories_modSession ..

@[simp] theorem memories_execute (r : Req) (codes : State → List Nat) (eff : State → State) (data : State → List Byte)
    (hf : memories (eff s) = memories s) : memories (execute r codes eff data s) = memories s := by
  simp [execute, hf]

@[simp] theorem memories_resend (r : Req) (a : Response) : memories (resend r a s) = memories s := (rfl)

@[simp] theorem memories_requestRun (r : Req) (run : State → State) (hf : ∀ s, memories (run s) = memories s) :
    memories (requestRun r run s) = memories s := by
  refine memories_withFrame s _ _ _ _ fun s => ?_
  dsimp only
  split
  · rfl
  · split
    · split <;> simp [hf]
    · simp [hf]

@[simp] theorem memories_requestWith (r : Req) (codes : State → List Nat) (eff : State → State) (data : State → List Byte)
    (hf : ∀ s, memories (eff s) = memories s) : memories (requestWith r codes eff data s) = memories s :=
  memories_requestRun s r _ fun s => memories_execute s r codes eff data (hf s)

@[simp] theorem memories_request (r : Req) (codes : State → List Nat) (eff : State → State) (hf : ∀ s, memories (eff s) = memories s) :
    memories (request r codes eff s) = memories s := memories_requestWith s r codes eff _ hf

@[simp] theorem memories_command (r : Req) (index : Nat) (codes : State → List Nat) (eff : State → State)
    (hf : ∀ s, memories (eff s) = memories s) :
    memories (command r index codes eff s) = memories s := memories_request s r _ eff hf

@[simp] theorem memories_modTransfer (k num : Nat) (f : Transfer → Transfer) : memories (modTransfer k num f s) = memories s := (rfl)

@[simp] theorem memories_sendSegments (k num : Nat) : memories (sendSegments k num s) = memories s := (rfl)
@[simp] theorem memories_sendReads (k : Nat) (fromAcked : Bool) : memories (sendReads k fromAcked s) = memories s := by simp [sendReads]

@[simp] theorem memories_touchView (r : Req) : memories (touchView r s) = memories s := by
  unfold touchView
  split <;> simp

/-! ### Pulse lines -/

@[simp] theorem memories_setTrip (at_ : Option Nat) (p : Nat) : memories (setTrip at_ p s) = memories s := by simp [setTrip]
@[simp] theorem memories_tripLines (at_ : Option Nat) (j : Nat) : memories (tripLines at_ j s) = memories s := by simp [tripLines]
@[simp] theorem memories_seenAssert (at_ : Option Nat) (j : Nat) : memories (seenAssert at_ j s) = memories s :=
  (memories_tripLines ..).trans (memories_if (memories_assertLine ..) rfl)

@[simp] theorem memories_seenDeassert (j : Nat) : memories (seenDeassert j s) = memories s := by simp [seenDeassert]

@[simp] theorem memories_setOutput (at_ : Option Nat) (j : Nat) (v : Bool) : memories (setOutput at_ j v s) = memories s :=
  memories_if (memories_seenAssert ..) (memories_if (memories_seenDeassert ..) rfl)

theorem memories_startBlanking (c i : Nat) : memories (startBlanking c i s) = memories s :=
  memories_if rfl (memories_each (fun _ _ => memories_if rfl (memories_seenDeassert ..)) rfl)

theorem memories_cellEdge (p i : Nat) (v : Bool) : memories (cellEdge p i v s) = memories s := by
  unfold cellEdge
  extract_lets sel s1 s2
  have h2 : memories s2 = memories s := memories_if (memories_assertLine ..) rfl
  exact memories_if ((memories_startBlanking ..).trans h2) h2

@[simp] theorem memories_commandEdge (p i : Nat) (v : Bool) (next : Option Nat) : memories (commandEdge p i v next s) = memories s :=
  memories_if rfl (memories_if rfl (memories_if rfl (memories_cellEdge ..)))

theorem memories_delayedEdge (p i dead : Nat) (v : Bool) (next : Option Nat) : memories (delayedEdge p i dead v next s) = memories s :=
  memories_if (memories_commandEdge ..) (memories_modLine ..)

@[simp] theorem memories_setW (p i : Nat) (v : Bool) : memories (setW p i v s) = memories s := by
  have hedge : ∀ p i v next t, memories (commandEdge p i v next t) = memories t := fun p i v next t => memories_commandEdge t p i v next
  have hdelayed : ∀ p i dead v next t, memories (delayedEdge p i dead v next t) = memories t :=
    fun p i dead v next t => memories_delayedEdge t p i dead v next
  unfold setW
  refine memories_if rfl (memories_if ((hedge ..).trans (memories_modLine ..))
    (memories_if ((hdelayed ..).trans ((hedge ..).trans (memories_modLine ..))) ?_))
  cases v <;> exact (hdelayed ..).trans (hedge ..)

theorem memories_releaseLine (i p : Nat) : memories (releaseLine i p s) = memories s := memories_if rfl rfl

@[simp] theorem memories_releasePoint (i p : Nat) : memories (releasePoint i p s) = memories s :=
  memories_if rfl <| memories_if rfl <| memories_if (memories_if rfl rfl) <|
    memories_each (fun _ _ => memories_releaseLine ..) rfl

@[simp] theorem memories_takeDelayed (p : Nat) : memories (takeDelayed p s) = memories s := by
  unfold takeDelayed
  cases (s.line p).queue with
  | nil => rfl
  | cons => exact memories_commandEdge ..

@[simp] theorem memories_patternStart (p i : Nat) : memories (patternStart p i s) = memories s := by simp [patternStart]

@[simp] theorem memories_patternNext (p : Nat) : memories (patternNext p s) = memories s := by
  unfold patternNext
  cases (s.line p).pat with
  | none => rfl
  | some r => exact memories_if (memories_setW ..) (memories_setW ..)

theorem memories_applyLine (i p : Nat) : memories (applyLine i p s) = memories s := by
  unfold applyLine
  refine memories_if rfl ?_
  extract_lets s1 s2 s3
  have h1 : memories s1 = memories s := memories_if rfl ((memories_setW ..).trans rfl)
  have h3 : memories s3 = memories s := memories_if h1 h1
  exact memories_if ((memories_patternStart ..).trans h3) h3

@[simp] theorem memories_applyPair (i p : Nat) : memories (applyPair i p s) = memories s := by
  unfold applyPair
  extract_lets a s1
  have h1 : memories s1 = memories s := (memories_applyLine ..).trans (memories_applyLine ..)
  exact memories_if h1 (memories_each (fun _ _ => memories_commandEdge ..) h1)

theorem memories_clearCarrierLatches (p : Nat) : memories (clearCarrierLatches p s) = memories s :=
  memories_each (fun _ _ => memories_if rfl rfl) rfl

@[simp] theorem memories_latchPoint (i p : Nat) : memories (latchPoint i p s) = memories s :=
  memories_each (fun _ _ => memories_releasePoint ..) (memories_each (fun _ _ => memories_clearCarrierLatches ..) rfl)

theorem memories_refreshViews : memories (refreshViews s) = memories s :=
  memories_each (fun _ _ => memories_if (memories_each (fun _ _ => memories_if rfl rfl) rfl) rfl) rfl

theorem memories_periodPoint (i p : Nat) : memories (periodPoint i p s) = memories s := by
  unfold periodPoint
  extract_lets ps s1
  have h1 : memories s1 = memories s := memories_each (fun _ _ => memories_if (memories_assertLine ..) rfl) rfl
  exact memories_each (fun _ _ => memories_if rfl rfl) ((memories_latchPoint ..).trans h1)

theorem memories_beginPeriod (i p : Nat) (natural : Bool) : memories (beginPeriod i p natural s) = memories s :=
  memories_if rfl ((memories_periodPoint ..).trans ((memories_setW ..).trans (memories_if rfl rfl)))

@[simp] theorem memories_periodStart (i p : Nat) (natural : Bool) : memories (periodStart i p natural s) = memories s := by
  unfold periodStart
  extract_lets q due s1
  have h1 : memories s1 = memories s := (memories_beginPeriod ..).trans (memories_if (memories_applyPair ..) rfl)
  exact memories_if ((memories_beginPeriod ..).trans h1) h1

@[simp] theorem memories_carrierEvent (p i : Nat) (k : CarrierEvent) : memories (carrierEvent p i k s) = memories s := by
  cases k with
  | rise => exact memories_setW ..
  | fall => exact memories_setW ..
  | apex => rfl
  | start => exact memories_periodStart ..

@[simp] theorem memories_queueRun (p lim n : Nat) : memories (queueRun p lim n s) = memories s := by
  induction n generalizing s with
  | zero => rfl
  | succ n ih =>
    rw [queueRun]
    cases (s.line p).queue with
    | nil => rfl
    | cons => exact memories_if ((ih _).trans (memories_takeDelayed ..)) rfl

@[simp] theorem memories_pairQueues (p lim : Nat) : memories (pairQueues p lim s) = memories s := by simp [pairQueues]

@[simp] theorem memories_carrierRun (p lim k n : Nat) : memories (carrierRun p lim k n s) = memories s := by
  induction n generalizing s with
  | zero => rfl
  | succ n ih =>
    rw [carrierRun]
    cases nextCarrier s p with
    | none => rfl
    | some => exact memories_if ((ih _).trans ((memories_carrierEvent ..).trans (memories_pairQueues ..))) rfl

/-! ### Outputs -/

@[simp] theorem memories_latchDac (c : Nat) : memories (latchDac c s) = memories s := by
  unfold latchDac
  extract_lets o d
  refine memories_if rfl ?_
  cases o.seq with
  | none => rfl
  | some q => exact memories_if rfl rfl

@[simp] theorem memories_startSeq (c : Nat) (k : SeqKind) (latch : Bool) : memories (startSeq c k latch s) = memories s := (rfl)

@[simp] theorem memories_startEnable (c : Nat) : memories (startEnable c s) = memories s := (rfl)
@[simp] theorem memories_endSeq (c : Nat) : memories (endSeq c s) = memories s := memories_if rfl (memories_if (memories_startSeq ..) rfl)
@[simp] theorem memories_enableStep (c d : Nat) : memories (enableStep c d s) = memories s := by
  unfold enableStep
  extract_lets z dt s1
  have h : memories s1 = memories s := memories_if rfl (memories_if rfl (memories_if rfl rfl))
  exact memories_if ((memories_endSeq ..).trans h) h

@[simp] theorem memories_softParkStep (c d : Nat) (q : Seq) : memories (softParkStep c d q s) = memories s :=
  memories_if rfl (memories_if rfl (memories_if (memories_endSeq ..) rfl))

@[simp] theorem memories_rangeStep (c d : Nat) (q : Seq) : memories (rangeStep c d q s) = memories s :=
  memories_if rfl <| memories_if rfl <| memories_if rfl <| memories_if rfl <| memories_if rfl <| memories_if rfl <|
    memories_if (memories_if (memories_endSeq ..) rfl) rfl

@[simp] theorem memories_lateSwitch (c : Nat) : memories (lateSwitch c s) = memories s := by
  unfold lateSwitch
  cases (s.out c).rangeSwitchAt with
  | none => rfl
  | some x => exact memories_if (memories_if rfl rfl) rfl

theorem memories_commitDisable (c : Nat) : memories (commitDisable c s) = memories s :=
  memories_if rfl (memories_if ((memories_startSeq ..).trans (memories_abandonSeq ..)) ((memories_settleRange ..).trans (memories_abandonSeq ..)))

@[simp] theorem memories_commitOutput (c en m r : Nat) : memories (commitOutput c en m r s) = memories s := by
  have hd := memories_commitDisable s c
  exact memories_if rfl <| memories_if (memories_if (memories_startEnable ..) rfl) <|
    memories_if (memories_if hd (memories_if hd hd)) <| memories_if rfl <| memories_if rfl <|
    memories_if (memories_startSeq ..) <| memories_if rfl rfl

@[simp] theorem memories_loseChannel (c : Nat) (l : Loc) : memories (loseChannel c l s) = memories s :=
  memories_if rfl ((memories_raiseReason ..).trans ((memories_notice ..).trans (memories_reportFault ..)))

@[simp] theorem memories_setFlag (c f : Nat) : memories (setFlag c f s) = memories s := by
  unfold setFlag
  extract_lets p s1 s2
  have h : memories s2 = memories s := (memories_notify ..).trans (memories_assertLine ..)
  exact memories_if ((memories_parkAt ..).trans h) h

@[simp] theorem memories_supClear (c v : Nat) : memories (supClear c v s) = memories s := (rfl)
@[simp] theorem memories_setDetectors (c det : Nat) : memories (setDetectors c det s) = memories s := memories_if rfl rfl
@[simp] theorem memories_outRestart (c : Nat) : memories (outRestart c s) = memories s := (rfl)

/-! ### Resets and starts -/

@[simp] theorem memories_linksUp : memories (linksUp s) = memories s := (rfl)
theorem memories_raiseReasons (m : Nat) : memories (raiseReasons m s) = memories s := memories_if rfl (memories_requestNotice ..)

@[simp] theorem memories_startReasons : memories (startReasons s) = memories s :=
  memories_each (fun _ _ => memories_notice ..) (memories_raiseReasons ..)

@[simp] theorem memories_writeHeld : memories (writeHeld s) = memories s := by simp [writeHeld]
@[simp] theorem memories_moor (reason : Nat) : memories (moor reason s) = memories s := by simp [moor]
@[simp] theorem memories_runImage : memories (runImage s) = memories s := by
  have hgo : ∀ f, memories (startReasons (writeHeld (linksUp (modPower f s)))) = memories s :=
    fun _ => (memories_startReasons ..).trans ((memories_writeHeld ..).trans (memories_linksUp ..))
  exact memories_if (hgo _) (memories_if (hgo _) (memories_moor ..))

@[simp] theorem memories_beginStart : memories (beginStart s) = memories s := (rfl)

@[simp] theorem memories_retireBank (b : Nat) : memories (retireBank b s) = memories s := by
  unfold retireBank
  extract_lets x replaced p l reported
  have hReplaced : memories replaced = memories s := by
    clear_value x
    cases x <;> simp [replaced]
  simp [reported, hReplaced]

@[simp] theorem memories_startMarch (badRows : List (Nat × Nat)) : memories (startMarch badRows s) = memories s :=
  memories_each (fun _ _ => memories_retireBank ..) (memories_each (fun _ _ => rfl) rfl)

@[simp] theorem memories_dramOffline (m reason : Nat) : memories (dramOffline m reason s) = memories s := by simp [dramOffline]

@[simp] theorem memories_selectRecord (c : Nat) : memories (selectRecord c s) = memories s := by
  unfold selectRecord
  cases goodCopy (s.cal c).copyA <;> cases goodCopy (s.cal c).copyB
  · refine memories_if ((memories_reportFault ..).trans (memories_notice ..)) ?_
    exact (memories_degraded ..).trans ((memories_raiseReason ..).trans ((memories_reportFault ..).trans (memories_notice ..)))
  · rfl
  · rfl
  · exact memories_if rfl rfl

@[simp] theorem memories_startChannel (c : Nat) : memories (startChannel c s) = memories s := by
  unfold startChannel
  extract_lets s1 ret
  have h : memories s1 = memories s := memories_selectRecord ..
  exact memories_if h <| memories_update (memories_loseChannel ..) <|
    memories_update (memories_raiseReason ..) ((memories_modCal ..).trans h)

@[simp] theorem memories_startEngine (e : Nat) : memories (startEngine e s) = memories s :=
  memories_if rfl (memories_if rfl (memories_if rfl (memories_loseChannel ..)))

@[simp] theorem memories_restartCmd (into : Bool) : memories (restartCmd into s) = memories s := (rfl)

/-! ### Calibration -/

@[simp] theorem memories_discardPass (c : Nat) : memories (discardPass c s) = memories s := by simp [discardPass]

@[simp] theorem memories_readChannel (c : Nat) (temp : Int) : memories (readChannel c temp s) = memories s := by
  unfold readChannel
  extract_lets x
  cases x.pass with
  | none => exact memories_if rfl rfl
  | some p => exact memories_if ((memories_notice ..).trans (memories_discardPass ..)) rfl

@[simp] theorem memories_startPass (q : Nat) (temps : List Int) : memories (startPass q temps s) = memories s := by
  unfold startPass
  refine memories_if rfl ?_
  cases nextPass s q <;> rfl

@[simp] theorem memories_retireElement (c e : Nat) : memories (retireElement c e s) = memories s := by
  unfold retireElement
  extract_lets s1 n s2 l
  have h : memories s2 = memories s := memories_notice ..
  exact memories_if ((memories_loseChannel ..).trans h) <|
    memories_if ((memories_degraded ..).trans ((memories_raiseReason ..).trans ((memories_reportFault ..).trans ((memories_modCal ..).trans h)))) <|
      (memories_reportFault ..).trans h

@[simp] theorem memories_swapChannel (c : Nat) : memories (swapChannel c s) = memories s := by
  unfold swapChannel
  cases (s.cal c).pass with
  | none => rfl
  | some p =>
    dsimp only
    cases p.result with
    | none => rfl
    | some r => exact memories_each (fun _ _ => memories_if rfl rfl) rfl

@[simp] theorem memories_calDue (v : Nat) : memories (calDue v s) = memories s := memories_each (fun _ _ => rfl) rfl

/-! ### Ticks of a quay -/

theorem memories_lineCatchUp (p : Nat) : memories (lineCatchUp p s) = memories s :=
  (memories_pairQueues ..).trans (memories_carrierRun ..)

theorem memories_carrierTick (p : Nat) : memories (carrierTick p s) = memories s := by
  unfold carrierTick
  extract_lets l e c a stop onEdge held
  cases (if held then (stop % 2 ^ 48, l.delta) else carrierAt s p (stop % 2 ^ 48))
  exact memories_if ((memories_periodStart ..).trans rfl) (memories_if ((memories_periodStart ..).trans rfl)
    (memories_if ((memories_latchPoint ..).trans rfl) rfl))

theorem memories_lineTick (p : Nat) : memories (lineTick p s) = memories s := by
  unfold lineTick
  extract_lets c s1 s2 x s3
  have h1 : memories s1 = memories s := memories_if (memories_carrierTick ..) rfl
  have h2 : memories s2 = memories s := memories_if h1 ((memories_releasePoint ..).trans h1)
  have h3 : memories s3 = memories s := memories_if ((memories_patternStart ..).trans h2) h2
  exact memories_if h3 (memories_if h3 h3)

@[simp] theorem memories_quayTick (q late det : Nat) : memories (quayTick q late det s) = memories s :=
  (memories_refreshViews ..).trans <|
    memories_each (fun _ _ => memories_latchDac ..) <| memories_each (fun _ _ => memories_lineTick ..) <|
    memories_each (fun _ _ => memories_engineTick ..) <| memories_each (fun _ _ => memories_lineCatchUp ..) <|
    memories_each (fun _ _ => memories_setDetectors ..) rfl

/-! ### Clocks -/

@[simp] theorem memories_watchSync (lock : Nat) (edges : List Nat) (epoch : Option Nat) : memories (watchSync lock edges epoch s) = memories s := by
  unfold watchSync
  refine memories_if rfl ?_
  cases epoch <;> rfl

@[simp] theorem memories_checkSync : memories (checkSync s) = memories s := memories_if rfl (memories_if rfl (memories_notice ..))
@[simp] theorem memories_acceptRealign : memories (acceptRealign s) = memories s := (rfl)
@[simp] theorem memories_servoMeasures (ns : Int) : memories (servoMeasures ns s) = memories s := memories_if (memories_assertLine ..) rfl

/-! ### Segments -/

@[simp] theorem memories_defineSeg (d : List Byte) : memories (defineSeg d s) = memories s := (rfl)
@[simp] theorem memories_deleteSeg (n : Nat) : memories (deleteSeg n s) = memories s := memories_each (fun _ _ => memories_if rfl rfl) rfl
@[simp] theorem memories_queueVerify (n : Nat) : memories (queueVerify n s) = memories s := (rfl)
@[simp] theorem memories_verifiedNotice (n : Nat) : memories (verifiedNotice n s) = memories s := by simp [verifiedNotice]

@[simp] theorem memories_endVerification (n : Nat) (unreadable : Option Nat) : memories (endVerification n unreadable s) = memories s := by
  unfold endVerification
  extract_lets g s1
  cases judge s1 g unreadable <;> rfl

@[simp] theorem memories_endRecheck (n : Nat) (unreadable : Option Nat) : memories (endRecheck n unreadable s) = memories s := by
  simp [endRecheck]

theorem memories_markWrites (a len : Nat) : memories (markWrites a len s) = memories s :=
  memories_if rfl (memories_each (fun _ _ => memories_if rfl rfl) rfl)

@[simp] theorem memories_writeContent (offset : Nat) (d : List Byte) : memories (writeContent offset d s) = memories s :=
  (memories_markWrites ..).trans rfl

/-! ### DRAM channels -/

@[simp] theorem memories_dramNotice (code cls m : Nat) (params : List Nat) : memories (dramNotice code cls m params s) = memories s := by
  simp [dramNotice]

@[simp] theorem memories_startMember (m : Nat) (changing : Bool) : memories (startMember m changing s) = memories s := (rfl)
@[simp] theorem memories_startRound (p r : Nat) : memories (startRound p r s) = memories s := by simp [startRound]

@[simp] theorem memories_advanceChange (k : Nat) : memories (advanceChange k s) = memories s := by
  induction k generalizing s with
  | zero => rfl
  | succ k ih =>
    rw [advanceChange]
    cases s.dev.dram.change with
    | none => exact memories_if rfl ((ih _).trans (memories_modDram ..))
    | some x =>
      have hstarted : memories (startRound x.1 x.2 s) = memories s := memories_startRound ..
      exact memories_if hstarted (memories_if ((ih _).trans ((memories_modDram ..).trans hstarted))
        ((ih _).trans ((memories_notice ..).trans ((memories_modDram ..).trans hstarted))))

theorem memories_startDue : memories (startDue s) = memories s :=
  memories_each (fun _ _ => memories_if (memories_startMember ..) rfl) rfl

theorem memories_returnedAway : memories (returnedAway s) = memories s := memories_if rfl rfl

@[simp] theorem memories_settleDram : memories (settleDram s) = memories s :=
  (memories_startDue ..).trans ((memories_advanceChange ..).trans (memories_returnedAway ..))

@[simp] theorem memories_rateChanged : memories (rateChanged s) = memories s := by simp [rateChanged]
@[simp] theorem memories_makeDue (m : Nat) : memories (makeDue m s) = memories s := by simp [makeDue]
@[simp] theorem memories_returnMember (m bytes : Nat) : memories (returnMember m bytes s) = memories s :=
  (memories_settleDram ..).trans (memories_dramNotice ..)

@[simp] theorem memories_trained_ (m : Nat) : memories (trained_ m s) = memories s := (rfl)
@[simp] theorem memories_freeze (m cause : Nat) (a : DramAddr) : memories (freeze m cause a s) = memories s :=
  (memories_settleDram ..).trans <| memories_update (memories_dramOffline ..) <|
    (memories_reportFault ..).trans ((memories_dramNotice ..).trans (memories_assertLine ..))

@[simp] theorem memories_abandonTraining (m : Nat) : memories (abandonTraining m s) = memories s := (rfl)

@[simp] theorem memories_loseData (m : Nat) (a : DramAddr) (e : Option (Fin 64)) : memories (loseData m a e s) = memories s := by
  unfold loseData
  extract_lets ns s1 s2 s3 l s4
  have h2 : memories s2 = memories s := memories_each (fun _ _ => rfl) rfl
  have h3 : memories s3 = memories s := by
    dsimp only [s3]
    split
    · exact memories_each (fun _ _ => memories_if rfl rfl) h2
    · exact h2
  exact (memories_degraded ..).trans ((memories_raiseReason ..).trans ((memories_reportFault ..).trans ((memories_dramNotice ..).trans h3)))

@[simp] theorem memories_releaseChannel (m : Nat) : memories (releaseChannel m s) = memories s := (rfl)
@[simp] theorem memories_countNeighbour (m : Nat) : memories (countNeighbour m s) = memories s := (rfl)
theorem memories_countRow (m bank row : Nat) : memories (countRow m bank row s) = memories s := by
  unfold countRow
  extract_lets l own k
  generalize (if own.any (·.1 == k) then _ else _ : Tbl Nat × Nat) = r
  exact memories_if (memories_countNeighbour ..) rfl

@[simp] theorem memories_activate (m : Nat) (a : DramAddr) : memories (activate m a s) = memories s :=
  memories_if rfl (memories_if (memories_if (memories_countNeighbour ..) rfl) (memories_countRow ..))

@[simp] theorem memories_deliver (e : Option (Fin 64)) (words : Nat) : memories (deliver e words s) = memories s := by
  cases e with
  | none => rfl
  | some => exact memories_panicCheck ..

@[simp] theorem memories_issueCmd (m : Nat) (x : DramCmd) : memories (issueCmd m x s) = memories s :=
  memories_if rfl ((memories_activate ..).trans (memories_if rfl rfl))

@[simp] theorem memories_issueUntil (m : Nat) (stop : DramCmd → Bool) (n : Nat) : memories (issueUntil m stop n s) = memories s := by
  induction n generalizing s with
  | zero => rfl
  | succ n ih =>
    unfold issueUntil
    extract_lets q
    cases nextCmd s m (orderedBanks q) 0 [] q with
    | none => rfl
    | some k =>
      dsimp only
      cases q[k.1]? with
      | none => rfl
      | some x => exact memories_if (memories_issueCmd ..) ((ih _).trans (memories_issueCmd ..))

@[simp] theorem memories_serveQueue (m : Nat) (a : DramAddr) (e : Option (Fin 64)) (arrived : List DramCmd) :
    memories (serveQueue m a e arrived s) = memories s := (memories_modChan ..).trans (memories_issueUntil ..)

/-! ### Engine commands and inputs -/

@[simp] theorem memories_logEvent (e k : Nat) : memories (logEvent e k s) = memories s := (rfl)
@[simp] theorem memories_acceptCommand (e k hi : Nat) : memories (acceptCommand e k hi s) = memories s := memories_if rfl rfl

@[simp] theorem memories_engineCmd (r : Req) (e k hi : Nat) : memories (engineCmd r e k hi s) = memories s := by simp [engineCmd]

@[simp] theorem memories_registerReaction (e : Nat) (x : Reaction) : memories (registerReaction e x s) = memories s := by
  have honce : ∀ (o : Option Nat) f, memories (if o.isSome then ignoreEvents e 1 s else modPend e f s) = memories s :=
    fun _ _ => memories_if (memories_ignoreEvents ..) (memories_modPend ..)
  cases x with
  | refilling => rfl
  | jump => exact (memories_ignoreEvents ..).trans (memories_modPend ..)
  | atEnd => exact (memories_ignoreEvents ..).trans (memories_modPend ..)
  | _ => exact honce ..

@[simp] theorem memories_engineInput (e k : Nat) : memories (engineInput e k s) = memories s := by
  unfold engineInput
  have h : memories (registerInput (12 * e + k) s).1 = memories s := memories_registerInput ..
  revert h
  cases registerInput (12 * e + k) s with
  | mk v hit =>
    intro h
    have hlogged : memories (logEvent e k v) = memories s := h
    refine memories_if h ?_
    dsimp only
    generalize logEvent e k v = w at hlogged
    have hignored := (memories_ignoreEvents w e 1).trans hlogged
    cases reaction w e k with
    | none => exact hignored
    | some x =>
      cases x
      case refilling => exact (memories_engineNotice ..).trans hignored
      all_goals exact memories_if ((memories_registerReaction ..).trans hlogged) hignored

@[simp] theorem memories_rateStepInput (e : Nat) : memories (rateStepInput e s) = memories s := by
  unfold rateStepInput
  have h : memories (registerInput (12 * e + 11) s).1 = memories s := memories_registerInput ..
  revert h
  cases registerInput (12 * e + 11) s with
  | mk v hit =>
    intro h
    exact memories_if h (memories_if ((memories_ignoreEvents ..).trans h) h)

@[simp] theorem memories_decide24 (e t : Nat) : memories (decide24 e t s) = memories s :=
  memories_if ((memories_modPend ..).trans (memories_settleAtEnd ..)) rfl

@[simp] theorem memories_form20 (e t : Nat) : memories (form20 e t s) = memories s := by
  unfold form20
  extract_lets y x c
  refine memories_if ?_ (memories_if rfl rfl)
  cases missingWord s y e <;> rfl

@[simp] theorem memories_entryArrives (e : Nat) : memories (entryArrives e s) = memories s := (memories_modCore ..).trans (memories_takeEntry ..)

@[simp] theorem memories_readIndexWord (e n : Nat) : memories (readIndexWord e n s) = memories s :=
  memories_if (memories_emptySource ..) <| memories_if ((memories_fillChecks ..).trans (memories_copyLive ..)) <|
    (memories_fillChecks ..).trans <| (memories_copyLive ..).trans <| memories_if (memories_engineNotice ..) rfl

/-! ### Event fabric -/

@[simp] theorem memories_trigSample (k : Nat) (level : Bool) : memories (trigSample k level s) = memories s :=
  memories_if (memories_assertLine ..) rfl
@[simp] theorem memories_trigOutput (k : Nat) : memories (trigOutput k s) = memories s := by simp [trigOutput]
@[simp] theorem memories_commitTrig (t0 : Tbl Nat) (k : Nat) : memories (commitTrig t0 k s) = memories s := memories_if rfl (memories_if rfl rfl)
@[simp] theorem memories_tmrFire (k : Nat) : memories (tmrFire k s) = memories s := (memories_modTimer ..).trans (memories_assertLine ..)
@[simp] theorem memories_tmrFireDue (k : Nat) : memories (tmrFireDue k s) = memories s := by simp [tmrFireDue]
@[simp] theorem memories_tmrIgnore (k : Nat) : memories (tmrIgnore k s) = memories s := (rfl)
@[simp] theorem memories_tmrDivide (k : Nat) : memories (tmrDivide k s) = memories s := by simp [tmrDivide]
@[simp] theorem memories_tmrStart (k : Nat) : memories (tmrStart k s) = memories s := by
  unfold tmrStart
  have h : memories (registerInput (1056 + k) s).1 = memories s := memories_registerInput ..
  revert h
  cases registerInput (1056 + k) s with
  | mk v hit =>
    intro h
    have hdue := (memories_tmrFireDue v k).trans h
    have hignored := (memories_tmrIgnore (tmrFireDue k v) k).trans hdue
    exact memories_if h <| memories_if hignored <| memories_if ((memories_tmrDivide ..).trans hdue) <|
      memories_if (memories_if hignored hdue) hdue

@[simp] theorem memories_tmrHalt (k : Nat) : memories (tmrHalt k s) = memories s := by simp [tmrHalt]
@[simp] theorem memories_commitTimer (ch : List Nat) (k : Nat) : memories (commitTimer ch k s) = memories s :=
  memories_if rfl (memories_if (memories_tmrFireDue ..) rfl)

@[simp] theorem memories_swEvent (v : Nat) : memories (swEvent v s) = memories s := (rfl)
@[simp] theorem memories_commitSlots (ch : List Nat) (i : Nat) : memories (commitSlots ch i s) = memories s := memories_if rfl rfl

/-! ### Hawser ring -/

@[simp] theorem memories_modLinkOf (west : Bool) (f : HwLink → HwLink) : memories (modLinkOf west f s) = memories s := (rfl)
@[simp] theorem memories_rollWindow : memories (rollWindow s) = memories s := by simp [rollWindow, sendCell]

@[simp] theorem memories_outboundEvent (x : Nat) : memories (outboundEvent x s) = memories s := by
  unfold outboundEvent
  have h : memories (registerInput (1184 + x) s).1 = memories s := memories_registerInput ..
  revert h
  cases registerInput (1184 + x) s with
  | mk v hit =>
    intro h
    refine memories_if h ?_
    have hrolled : memories (rollWindow v) = memories s := (memories_rollWindow ..).trans h
    dsimp only
    generalize rollWindow v = w at hrolled
    generalize placeRecord _ _ = l
    cases l.drop 2 with
    | nil => exact hrolled
    | cons => exact (memories_notice ..).trans hrolled

@[simp] theorem memories_takeRecord (west : Bool) (seq : Nat) (x : HwRecord) : memories (takeRecord west seq x s) = memories s :=
  memories_if rfl rfl

@[simp] theorem memories_loseLink (link : Nat) : memories (loseLink link s) = memories s := memories_modRing ..

@[simp] theorem memories_loseLane (west : Bool) (lane : Nat) : memories (loseLane west lane s) = memories s := by
  have hlost : ∀ f t, memories (modLinkOf west f t) = memories t := fun _ _ => rfl
  exact memories_if rfl <| memories_if ((memories_notice ..).trans ((memories_assertLine ..).trans (hlost ..))) <|
    (memories_loseLink ..).trans ((hlost ..).trans ((memories_notice ..).trans ((memories_assertLine ..).trans (hlost ..))))

@[simp] theorem memories_setLinks (size : Nat) (east west : Option Nat) : memories (setLinks size east west s) = memories s := memories_modRing ..

@[simp] theorem memories_followMaster (f : RingFacts) : memories (followMaster f s) = memories s := by
  unfold followMaster
  extract_lets k s1
  cases s1.dev.clock.numbering <;> rfl

@[simp] theorem memories_formRing (f : RingFacts) : memories (formRing f s) = memories s := by
  unfold formRing
  dsimp only
  split <;> simp

@[simp] theorem memories_joinRing (n master : Nat) (f : JoinFacts) : memories (joinRing n master f s) = memories s :=
  (memories_modClock ..).trans (memories_if rfl (memories_renumber ..))

/-! ### Scratchpad and Berth -/

@[simp] theorem memories_setOwner (b v : Nat) : memories (setOwner b v s) = memories s := (rfl)

@[simp] theorem memories_ownerFault (b master word : Nat) (write : Bool) : memories (ownerFault b master word write s) = memories s := by
  simp [ownerFault]

@[simp] theorem memories_touchBank (b : Nat) : memories (touchBank b s) = memories s := (rfl)
@[simp] theorem memories_recordRow (b row : Nat) : memories (recordRow b row s) = memories s := (rfl)
@[simp] theorem memories_poisonedWord (b word master : Nat) : memories (poisonedWord b word master s) = memories s := by simp [poisonedWord]
@[simp] theorem memories_countConflict (master : Nat) : memories (countConflict master s) = memories s := (rfl)
@[simp] theorem memories_berthBusy (bd : Word) : memories (berthBusy bd s) = memories s := (rfl)
@[simp] theorem memories_berthDone (bd : Word) : memories (berthDone bd s) = memories s := (rfl)
@[simp] theorem memories_berthRefuse : memories (berthRefuse s) = memories s := (rfl)
@[simp] theorem memories_undefinedRead : memories (undefinedRead s) = memories s := (rfl)

@[simp] theorem memories_controlRead (w : Nat) : memories (controlRead w s) = memories s := by
  unfold controlRead
  dsimp only
  split <;> simp

theorem memories_handoverWrite (v : Nat) : memories (handoverWrite v s) = memories s :=
  memories_if ((memories_berthRefuse ..).trans (memories_ownerFault ..)) ((memories_berthDone ..).trans (memories_if rfl rfl))

@[simp] theorem memories_controlWrite (w v : Nat) : memories (controlWrite w v s) = memories s := by
  unfold controlWrite
  split
  · rfl
  · exact memories_handoverWrite ..
  · exact memories_notice ..
  · rfl

@[simp] theorem memories_slot7Write (w v : Nat) : memories (slot7Write w v s) = memories s := by simp [slot7Write]

@[simp] theorem memories_bankRead (b w : Nat) (met : Option (Nat × Bool)) (flipped : List Nat) :
    memories (bankRead b w met flipped s) = memories s := by
  have h : memories (touchBank b s) = memories s := memories_touchBank ..
  have hread : memories (bankRead b w none flipped s) = memories s := by
    cases flipped with
    | nil => exact (memories_berthDone ..).trans h
    | cons x l =>
      cases l with
      | nil => exact (memories_berthDone ..).trans ((memories_countCorrected ..).trans h)
      | cons => exact (memories_berthBusy ..).trans ((memories_poisonedWord ..).trans h)
  cases met with
  | none => exact hread
  | some x =>
    obtain ⟨m, both⟩ := x
    cases both with
    | false => exact hread
    | true => exact (memories_undefinedRead ..).trans ((memories_countConflict ..).trans ((memories_countConflict ..).trans h))

@[simp] theorem memories_ringDoorbell (v : Nat) : memories (ringDoorbell v s) = memories s := (rfl)
@[simp] theorem memories_startRun (v : Nat) : memories (startRun v s) = memories s := by simp [startRun]
@[simp] theorem memories_modMarch (f : March → March) : memories (modMarch f s) = memories s := (rfl)
@[simp] theorem memories_cellFailed (r : March) (f : Nat) : memories (cellFailed r f s) = memories s := by simp [cellFailed]

@[simp] theorem memories_endRun (r : March) (flag : Nat) : memories (endRun r flag s) = memories s := by simp [endRun]

/-! ### Sense inputs -/

@[simp] theorem memories_shortAssert (at_ : Option Nat) (j : Nat) : memories (shortAssert at_ j s) = memories s := by simp [shortAssert]
@[simp] theorem memories_armComparator (j : Nat) (m : Int) : memories (armComparator j m s) = memories s := memories_if rfl (memories_setOutput ..)
@[simp] theorem memories_startArming (c : Nat) : memories (startArming c s) = memories s := memories_if rfl (memories_if rfl (memories_if rfl rfl))

theorem memories_commitCmp (t0 : Tbl Nat) (ch : List Nat) (c k : Nat) : memories (commitCmp t0 ch c k s) = memories s :=
  memories_if (memories_if rfl rfl) (memories_if (memories_setOutput ..) rfl)

@[simp] theorem memories_commitSense (t0 : Tbl Nat) (ch : List Nat) (c : Nat) : memories (commitSense t0 ch c s) = memories s :=
  (memories_startArming ..).trans (memories_each (fun _ _ => memories_commitCmp ..) rfl)

@[simp] theorem memories_quayFault (q mask macro_ : Nat) : memories (quayFault q mask macro_ s) = memories s := by simp [quayFault]
@[simp] theorem memories_queueCheck (c : Nat) (ks : List Nat) : memories (queueCheck c ks s) = memories s := (rfl)

theorem memories_checkFailed (c k : Nat) (m : Int) : memories (checkFailed c k m s) = memories s := by
  unfold checkFailed
  extract_lets j force s1 s2 s3 s4
  have h : memories s4 = memories s := (memories_notice ..).trans (memories_assertLine ..)
  exact memories_if ((memories_setOutput ..).trans h) h

theorem memories_referenceRead (c : Nat) (m : Int) : memories (referenceRead c m s) = memories s :=
  memories_if ((memories_quayFault ..).trans rfl) rfl

@[simp] theorem memories_completeConv (c : Nat) : memories (completeConv c s) = memories s := by
  unfold completeConv
  cases (s.sense c).conv with
  | none => rfl
  | some v =>
    dsimp only
    cases v.kind
    case check => exact memories_if rfl (memories_if (memories_checkFailed ..) rfl)
    all_goals exact memories_if (memories_referenceRead ..) rfl

@[simp] theorem memories_monitorSlot (c : Nat) (sample : Int) : memories (monitorSlot c sample s) = memories s := by
  unfold monitorSlot
  extract_lets s1
  have h1 : memories s1 = memories s := memories_if (memories_completeConv ..) rfl
  cases slotUse s1 c with
  | mk u displaced =>
    cases u <;> exact h1

@[simp] theorem memories_startCheck (c : Nat) : memories (startCheck c s) = memories s := (rfl)

theorem memories_clearLatch (j : Nat) : memories (clearLatch j s) = memories s := memories_if rfl (memories_if rfl rfl)

theorem memories_clearForce (j : Nat) : memories (clearForce j s) = memories s := by
  unfold clearForce
  extract_lets c s1 s2
  have h : memories s2 = memories s := memories_if (memories_setOutput ..) rfl
  exact memories_if h h

@[simp] theorem memories_cmpClear (j v : Nat) : memories (cmpClear j v s) = memories s := by
  unfold cmpClear
  extract_lets s1 s2
  have h1 : memories s1 = memories s := memories_if (memories_clearLatch ..) rfl
  have h2 : memories s2 = memories s := memories_if h1 h1
  exact memories_if ((memories_clearForce ..).trans h2) h2

/-! ### Commits and views -/

@[simp] theorem memories_startCommitCheck (whenSel arg : Nat) : memories (startCommitCheck whenSel arg s) = memories s := (rfl)

@[simp] theorem memories_startRingCommit (v : Nat) : memories (startRingCommit v s) = memories s := by
  unfold startRingCommit
  exact (memories_startCommitCheck ..).trans rfl

@[simp] theorem memories_commitReq (v : Nat) : memories (commitReq v s) = memories s := by simp [commitReq]
@[simp] theorem memories_cancelChecked : memories (cancelChecked s) = memories s := (rfl)
@[simp] theorem memories_ringFail (code pos : Nat) : memories (ringFail code pos s) = memories s := memories_if (memories_notice ..) rfl
@[simp] theorem memories_lowerResult (code pos : Nat) : memories (lowerResult code pos s) = memories s := memories_if (memories_if rfl rfl) rfl

@[simp] theorem memories_ringDecide : memories (ringDecide s) = memories s := by
  unfold ringDecide
  extract_lets c reports
  refine memories_if ?_ rfl
  cases lowestOf (ringFails s reports) with
  | none => rfl
  | some x => exact memories_ringFail ..

@[simp] theorem memories_sendReady : memories (sendReady s) = memories s := memories_if rfl rfl
@[simp] theorem memories_armFirst (e : Nat) : memories (armFirst e s) = memories s := memories_each (fun _ _ => memories_commandAct ..) rfl
@[simp] theorem memories_commitEngine (d0 : Dict) (e : Nat) : memories (commitEngine d0 e s) = memories s :=
  memories_if rfl (memories_if rfl rfl)

@[simp] theorem memories_commitPair (p : Nat) : memories (commitPair p s) = memories s := by
  unfold commitPair
  extract_lets applied shared tripped
  have hApplied : memories applied = memories s := by
    refine memories_if ?_ rfl
    cases pairPoint s p with
    | none => exact memories_applyPair ..
    | some => rfl
  exact memories_each (fun _ _ => memories_if (memories_setTrip ..) rfl) (memories_update (memories_each (fun _ _ => rfl) rfl) hApplied)

@[simp] theorem memories_commitBlanking (c before : Nat) : memories (commitBlanking c before s) = memories s :=
  memories_if rfl <| memories_each
    (fun _ _ => memories_if (memories_seenAssert ..) (memories_if (memories_seenDeassert ..) rfl)) rfl

@[simp] theorem memories_commitBank (d0 : Dict) (b : Nat) : memories (commitBank d0 b s) = memories s :=
  memories_update rfl (memories_if rfl rfl)

@[simp] theorem memories_openPending : memories (openPending s) = memories s := by simp [openPending]
@[simp] theorem memories_countRing : memories (countRing s) = memories s := by simp [countRing]
@[simp] theorem memories_applyMissed : memories (applyMissed s) = memories s := by simp [applyMissed]
@[simp] theorem memories_commitSplit (id : Nat) : memories (commitSplit id s) = memories s := by simp [commitSplit]
@[simp] theorem memories_reportOutcome (code : Nat) : memories (reportOutcome code s) = memories s := (rfl)
@[simp] theorem memories_viewOpen (sess v : Nat) : memories (viewOpen sess v s) = memories s := (rfl)

/-! ### Commands of the pulse lines -/

@[simp] theorem memories_carrierAtInstant (p tap : Nat) (k : CarrierEvent) : memories (carrierAtInstant p tap k s) = memories s := by
  simp [carrierAtInstant]

@[simp] theorem memories_fireEffect (p : Nat) : memories (fireEffect p s) = memories s := memories_if rfl (memories_if rfl rfl)
@[simp] theorem memories_fireInput (p : Nat) : memories (fireInput p s) = memories s := by simp [fireInput]
@[simp] theorem memories_tripClear (p : Nat) : memories (tripClear p s) = memories s := (rfl)

/-! ### Register writes -/

@[simp] theorem memories_writeKey (k : Nat) (d : List Byte) : memories (writeKey k d s) = memories s := by simp [writeKey]
@[simp] theorem memories_setRw (k v : Nat) : memories (setRw k v s) = memories s := by simp [setRw]
@[simp] theorem memories_setOwn (sess k v : Nat) : memories (setOwn sess k v s) = memories s := (rfl)
@[simp] theorem memories_stageValue (index sub v : Nat) : memories (stageValue index sub v s) = memories s := (rfl)
@[simp] theorem memories_clearFaultLog : memories (clearFaultLog s) = memories s := (rfl)

/-! ### Reads -/

@[simp] theorem memories_accessTouch (r : Req) (a : Access) : memories (accessTouch r a s) = memories s := by
  unfold accessTouch
  split <;> simp

/-! ### Cargo transfers -/

@[simp] theorem memories_dropTransfer (k num : Nat) : memories (dropTransfer k num s) = memories s := (rfl)
@[simp] theorem memories_sendAck (k : Nat) (a : Transfer) (code : Nat) : memories (sendAck k a code s) = memories s := (rfl)

@[simp] theorem memories_endTransfer (k : Nat) (a : Transfer) (code : Nat) : memories (endTransfer k a code s) = memories s := (rfl)

@[simp] theorem memories_newTransfer (k p : Nat) (write : Bool) (key_ offset total seg window : Nat) (bytes : Mem) :
    memories (newTransfer k p write key_ offset total seg window bytes s) = memories s := (rfl)

@[simp] theorem memories_imageWritten (i : Nat) : memories (imageWritten i s) = memories s := memories_modPower ..
@[simp] theorem memories_closeRefused (a : Transfer) (code : Nat) : memories (closeRefused a code s) = memories s := by simp [closeRefused]

/-! ### Checkpoints and takeovers -/

@[simp] theorem memories_writeCheckpoint (e : Nat) : memories (writeCheckpoint e s) = memories s := memories_if rfl rfl
@[simp] theorem memories_confirmCheckpoint (e : Nat) : memories (confirmCheckpoint e s) = memories s := by simp [confirmCheckpoint]
@[simp] theorem memories_retireSlots (l : List Nat) : memories (retireSlots l s) = memories s := memories_modFaults ..
@[simp] theorem memories_beginTakeover (e k block : Nat) : memories (beginTakeover e k block s) = memories s := memories_if (memories_latchDac ..) rfl

@[simp] theorem memories_engineFault (e failed block : Nat) (gone : List Nat) : memories (engineFault e failed block gone s) = memories s :=
  (memories_loseChannel ..).trans <| (memories_hardPark ..).trans <| (memories_engineNotice ..).trans <| (memories_retireSlots ..).trans <|
    (memories_modEngine ..).trans <| (memories_leaveStep ..).trans (memories_dropRequests ..)

@[simp] theorem memories_giveBack (e : Nat) : memories (giveBack e s) = memories s := (rfl)

@[simp] theorem memories_serveAgain (e : Nat) : memories (serveAgain e s) = memories s := by
  unfold serveAgain
  cases (s.engine e).takeover with
  | none => rfl
  | some =>
    cases chooseSlot s e with
    | none => exact memories_engineFault ..
    | some => rfl

@[simp] theorem memories_detectFault (e check block : Nat) : memories (detectFault e check block s) = memories s := by
  unfold detectFault
  extract_lets g failed gone asserted l noticed later given reported n served
  have hGiven : memories given = memories s :=
    memories_each (fun _ _ => memories_giveBack ..) ((memories_engineNotice ..).trans (memories_assertLine ..))
  have hReported : memories reported = memories s := (memories_reportFault ..).trans hGiven
  have hServed : memories served = memories s := by
    dsimp only [served]
    clear_value given gone
    cases chooseSlot given e with
    | none => exact (memories_engineFault ..).trans hGiven
    | some k =>
      cases g.takeover with
      | none => exact (memories_beginTakeover ..).trans hReported
      | some x => exact hReported
  exact memories_each (fun _ _ => memories_serveAgain ..) hServed

@[simp] theorem memories_takeoverNotice (n : Notice) : memories (takeoverNotice n s) = memories s := by simp [takeoverNotice]
@[simp] theorem memories_resume (e : Nat) (x : Takeover) : memories (resume e x s) = memories s :=
  (memories_raiseReason ..).trans <| (memories_takeoverNotice ..).trans <| (memories_assertLine ..).trans <|
    memories_update (memories_latchDac ..) rfl

@[simp] theorem memories_recovered (a : Nat) : memories (recovered a s) = memories s := by simp [recovered]

/-! ### Actions that fall due -/

@[simp] theorem memories_dueAction (e : Nat) (q : EngPend → Option Nat) : memories (dueAction e q s) = memories s := by simp [dueAction]

/-! ### Sessions, notices and ports -/

@[simp] theorem memories_refuseOpen (code : Nat) : memories (refuseOpen code s) = memories s := (rfl)
@[simp] theorem memories_macFailed (p : Nat) : memories (macFailed p s) = memories s := (rfl)

theorem memories_openSession (k port : Nat) : memories (openSession k port s) = memories s := by
  unfold openSession
  extract_lets s1
  have h : memories s1 = memories s := memories_frameArrives ..
  exact memories_if ((memories_enqueue ..).trans h) h

@[simp] theorem memories_confirmChallenge (k port : Nat) : memories (confirmChallenge k port s) = memories s :=
  memories_if (memories_openSession ..) (memories_refuseOpen ..)

@[simp] theorem memories_closeRun (k : Nat) : memories (closeRun k s) = memories s := by
  unfold closeRun
  cases (s.session k).lostRun with
  | none => rfl
  | some => exact memories_if rfl ((memories_pump ..).trans (memories_enqueue ..))

@[simp] theorem memories_loseNotice (k seq : Nat) : memories (loseNotice k seq s) = memories s := by simp [loseNotice]
theorem memories_failOver (k lost q : Nat) : memories (failOver k lost q s) = memories s :=
  (memories_notice ..).trans ((memories_assertLine ..).trans ((memories_sendReads ..).trans (memories_closeRun ..)))

@[simp] theorem memories_changeOver (p : Nat) : memories (changeOver p s) = memories s :=
  memories_each (fun _ _ => (memories_settleTimers ..).trans (memories_if (memories_failOver ..) rfl)) rfl

@[simp] theorem memories_moveLclk (q : Nat) : memories (moveLclk q s) = memories s := (rfl)
@[simp] theorem memories_replyOn (f : NetFrame) : memories (replyOn f s) = memories s := by simp [replyOn]

/-! ### Supplies and temperature -/

@[simp] theorem memories_setRail (k : Nat) (mv : Int) : memories (setRail k mv s) = memories s := (rfl)
@[simp] theorem memories_railBelow (k : Nat) (mv : Int) : memories (railBelow k mv s) = memories s :=
  memories_if rfl ((memories_notice ..).trans (memories_assertLine ..))

@[simp] theorem memories_clearBrace : memories (clearBrace s) = memories s := by simp [clearBrace]
@[simp] theorem memories_analogReset (k : Nat) (mv : Int) : memories (analogReset k mv s) = memories s :=
  (memories_notice ..).trans <| (memories_modPower ..).trans <| memories_each (fun _ _ => rfl) <|
    memories_each (fun _ _ => memories_if rfl (memories_update (memories_discardPass ..) rfl)) (memories_railBelow ..)

theorem memories_rearm (c : Nat) : memories (rearm c s) = memories s :=
  (memories_startArming ..).trans (memories_each (fun _ _ => memories_if rfl rfl) rfl)

@[simp] theorem memories_analogRestart (q : Nat) : memories (analogRestart q s) = memories s :=
  memories_each (fun _ _ => memories_if rfl rfl) <| memories_each (fun _ _ => memories_if rfl ((memories_rearm ..).trans
    (memories_if (memories_startEnable ..) rfl))) rfl

/-! ### Canonical memories -/

/-- A memory is canonical where its addresses rise strictly and no entry is what an unlisted byte reads as. -/
theorem memWf_iff (d : Byte) (m : Mem) : memWf d m = true ↔ (∀ x ∈ m, x.2 ≠ d) ∧ m.Pairwise fun x y => x.1 < y.1 := by
  induction m with
  | nil => simp
  | cons x r ih =>
    cases r with
    | nil => simp [memWf]
    | cons y r =>
      have hstep : memWf d (x :: y :: r) = true ↔ (x.2 ≠ d ∧ x.1 < y.1) ∧ memWf d (y :: r) = true := by simp [memWf]
      rw [hstep, ih, List.pairwise_cons (a := x)]
      constructor
      · rintro ⟨⟨hx, hlt⟩, hne, hp⟩
        refine ⟨List.forall_mem_cons.2 ⟨hx, hne⟩, List.forall_mem_cons.2 ⟨hlt, fun z hz => ?_⟩, hp⟩
        exact hlt.trans ((List.pairwise_cons.1 hp).1 z hz)
      · rintro ⟨hne, hlt, hp⟩
        exact ⟨⟨(List.forall_mem_cons.1 hne).1, hlt y List.mem_cons_self⟩, (List.forall_mem_cons.1 hne).2, hp⟩

theorem memWf_filter (d : Byte) (p : Nat × Byte → Bool) (m : Mem) (h : memWf d m = true) : memWf d (m.filter p) = true := by
  obtain ⟨hne, hp⟩ := (memWf_iff d m).1 h
  exact (memWf_iff d _).2 ⟨fun x hx => hne x (List.mem_of_mem_filter hx), hp.filter p⟩

structure Memories.Canonical (m : Memories) : Prop where
  active : memWf 0 m.active = true
  staged : memWf 0 m.staged = true
  scratch : memWf 0 m.scratch = true

theorem memoriesCanonical_iff : MemoriesCanonical s ↔ (memories s).Canonical :=
  ⟨fun ⟨ha, hs, hx⟩ => ⟨ha, hs, hx⟩, fun ⟨ha, hs, hx⟩ => ⟨ha, hs, hx⟩⟩

section Canonical
variable {s}

@[simp] theorem canonical_ite (c : Prop) [Decidable c] (a b : Memories) :
    (if c then a else b).Canonical ↔ if c then a.Canonical else b.Canonical := iff_of_eq (apply_ite ..)

/-- The command completes with canonical memories. -/
abbrev CanonicalNext (o : Host.Outcome State Fault Refusal) : Prop := Completes o fun s' => (memories s').Canonical

theorem canonical_next {t : State} (ht : (memories t).Canonical) : CanonicalNext (.next t) := ⟨t, rfl, ht⟩

theorem canonical_of_memories {t : State} (ht : memories t = memories s) (h : (memories s).Canonical) : (memories t).Canonical := ht ▸ h

theorem canonical_if {c : Prop} [Decidable c] {a b : State} (ha : (memories a).Canonical) (hb : (memories b).Canonical) :
    (memories (if c then a else b)).Canonical := by split <;> assumption

theorem canonical_occurs {c : State → Bool} {f : State → State} (hf : ∀ s, (memories s).Canonical → (memories (f s)).Canonical)
    (h : (memories s).Canonical) : (memories (occurs c f s)).Canonical := by
  simp [occurs, h, hf s h]

theorem canonical_forAll {α : Type} {l : List α} {f : α → State → State} (hf : ∀ x s, (memories s).Canonical → (memories (f x s)).Canonical)
    (h : (memories s).Canonical) : (memories (forAll l f s)).Canonical :=
  forAll_keeps (fun s => (memories s).Canonical) l f hf s h

theorem canonical_withFrame {sess port : Nat} {macOk : Bool} {f : State → State}
    (hf : ∀ s, (memories s).Canonical → (memories (f s)).Canonical) (h : (memories s).Canonical) :
    (memories (withFrame sess port macOk f s)).Canonical := by
  have harrived : (memories (f (frameArrives sess port s))).Canonical := hf _ (by simp [h])
  simp [withFrame, h, harrived]

theorem canonical_requestRun {r : Req} {run : State → State} (hrun : ∀ s, (memories s).Canonical → (memories (run s)).Canonical)
    (h : (memories s).Canonical) : (memories (requestRun r run s)).Canonical := by
  refine canonical_withFrame (fun s h => ?_) h
  have hr := hrun s h
  dsimp only
  split
  · exact h
  · split
    · split <;> simp [h, hr]
    · simp [h, hr]

theorem canonical_command {r : Req} {index : Nat} {codes : State → List Nat} {eff : State → State}
    (heff : ∀ s, (memories s).Canonical → (memories (eff s)).Canonical) (h : (memories s).Canonical) :
    (memories (command r index codes eff s)).Canonical :=
  canonical_requestRun (fun s h => by simp [execute, h, heff s h]) h

/-! ### Operations that write a memory -/

variable (h : (memories s).Canonical)
include h

@[simp] theorem canonical_writeScratch (a : Nat) (d : List Byte) :
    (memories (modScratch (fun x => { x with content := mputs 0 a d x.content }) s)).Canonical :=
  ⟨h.active, h.staged, memWf_mputs _ _ _ _ h.scratch⟩

@[simp] theorem canonical_stageSteps (a : Nat) (d : List Byte) : (memories (stageSteps a d s)).Canonical :=
  ⟨h.active, memWf_mputs _ _ _ _ h.staged, h.scratch⟩

@[simp] theorem canonical_discardStaged : (memories (discardStaged s)).Canonical := ⟨h.active, h.active, h.scratch⟩

@[simp] theorem canonical_switchCopies : (memories (switchCopies s)).Canonical := ⟨h.staged, h.staged, h.scratch⟩

omit h in
@[simp] theorem canonical_resetDevice (k : Nat) (ph : RunPhase) : (memories (resetDevice k ph s)).Canonical :=
  ⟨memWf_nil 0, memWf_nil 0, memWf_nil 0⟩

/-! ### Scratchpad -/

@[simp] theorem canonical_putWord (b w n v : Nat) : (memories (putWord b w n v s)).Canonical := canonical_writeScratch h _ _

@[simp] theorem canonical_restoreRow (r : March) : (memories (restoreRow r s)).Canonical := canonical_writeScratch h _ _

@[simp] theorem canonical_writePilot (e k : Nat) : (memories (writePilot e k s)).Canonical := canonical_writeScratch h _ _

@[simp] theorem canonical_writeBanks (offset : Nat) (d : List Byte) : (memories (writeBanks offset d s)).Canonical :=
  canonical_writeScratch (by simp [h]) _ _

@[simp] theorem canonical_feedWords (n w : Nat) (d : List Byte) : (memories (feedWords n w d s)).Canonical := by
  unfold feedWords
  extract_lets g b k fed x above
  have hfed : (memories fed).Canonical := canonical_forAll (fun i s h => canonical_writeScratch h _ _) h
  split
  simp [hfed]

@[simp] theorem canonical_portEffect (b : Nat) (x : PortA) : (memories (portEffect b x s)).Canonical := by
  unfold portEffect
  dsimp only
  split <;> simp [atomicOp, h]

@[simp] theorem canonical_servePort (b : Nat) (l : List PortA) : (memories (servePort b l s).1).Canonical := by
  unfold servePort
  split
  · exact h
  · split
    · simp [h]
    · split <;> simp [h]

@[simp] theorem canonical_endBarredRun : (memories (endBarredRun s)).Canonical := by
  unfold endBarredRun
  split <;> simp [h]

/-! ### Resets, starts and faults -/

@[simp] theorem canonical_bootFrom (k : Nat) (localOk vioDropped : Bool) : (memories (bootFrom k localOk vioDropped s)).Canonical := by
  induction k generalizing s vioDropped with
  | zero => exact h
  | succ k ih =>
    unfold bootFrom
    extract_lets begun v counted tried
    have hcounted : memories counted = memories s := by simp [counted, begun]
    have hfailed : (memories (bootFrom k localOk false (failStart 1 tried))).Canonical := ih (by simp [failStart]) _
    have htried : memories tried = memories s := by simp [tried, hcounted]
    simp [hfailed, htried, hcounted, h]

@[simp] theorem canonical_boot (localOk vioDropped : Bool) : (memories (boot localOk vioDropped s)).Canonical := canonical_bootFrom h _ _ _

omit h in
@[simp] theorem canonical_startFails (k : Nat) : (memories (startFails k s)).Canonical := by simp [startFails, failStart]

omit h in
@[simp] theorem canonical_declareFatal (cause location : Nat) : (memories (declareFatal cause location s)).Canonical := by
  simp [declareFatal]

@[simp] theorem canonical_readTemp (die : Nat) (v : Int) : (memories (readTemp die v s)).Canonical := by simp [readTemp, h]

@[simp] theorem canonical_dramError (m cause : Nat) (a : DramAddr) (e : Option (Fin 64)) :
    (memories (dramError m cause a e s)).Canonical := by
  simp [dramError, h]

@[simp] theorem canonical_readEnds (m : Nat) (res : ReadEnd) (a : DramAddr) (e : Option (Fin 64)) (words : Nat) :
    (memories (readEnds m res a e words s)).Canonical := by
  cases res <;> simp [readEnds, h]

/-! ### Commits -/

@[simp] theorem canonical_stageDiscard : (memories (stageDiscard s)).Canonical := canonical_discardStaged (by simp [h])

@[simp] theorem canonical_checkFails (f : Fail) : (memories (checkFails f s)).Canonical := by
  unfold checkFails
  extract_lets failed noticed
  have hnoticed : (memories noticed).Canonical := by simp [noticed, failed, h]
  simp [hnoticed]

@[simp] theorem canonical_checkPasses (targets : List (Nat × Nat)) (tick : Nat) : (memories (checkPasses targets tick s)).Canonical :=
  canonical_endBarredRun (by simp [h])

@[simp] theorem canonical_commitCheckDone : (memories (commitCheckDone s)).Canonical := by
  unfold commitCheckDone
  extract_lets ring inRingCommit targets more tick r judged emptied
  have hjudged : (memories judged).Canonical := by simp [judged, h]
  split <;> simp [hjudged, emptied]

@[simp] theorem canonical_applyCommit : (memories (applyCommit s)).Canonical := by simp [applyCommit, h]

theorem canonical_advance (t : Nat) : (memories (advance t s)).Canonical := canonical_of_memories (memories_advance ..) h

@[simp] theorem canonical_reach (t : Nat) : (memories (reach t s)).Canonical := by simp [reach, h]

/-! ### Requests, sessions and transfers -/

@[simp] theorem canonical_endSession (k : Nat) : (memories (endSession k s)).Canonical := by simp [endSession, h]

@[simp] theorem canonical_domainEffect (sess index sub offset : Nat) (d : List Byte) :
    (memories (domainEffect sess index sub offset d s)).Canonical := by
  unfold domainEffect
  split
  case h_7 =>
    dsimp only
    split <;> simp [h]
  all_goals simp [h]

@[simp] theorem canonical_cmdEffect (sess index sub v : Nat) : (memories (cmdEffect sess index sub v s)).Canonical := by
  unfold cmdEffect
  split
  · simp [h]
  · split
    · split <;> simp [h]
    · split
      · simp [h]
      · split <;> simp [h]

@[simp] theorem canonical_registerEffect (sess index sub offset : Nat) (d : List Byte) :
    (memories (registerEffect sess index sub offset d s)).Canonical := by
  unfold registerEffect
  split
  · exact h
  · split
    · simp [h]
    · dsimp only
      split <;> simp [h]

@[simp] theorem canonical_segmentEffect (k : Nat) (a : Transfer) (p : Nat) (d : List Byte) : (memories (segmentEffect k a p d s)).Canonical := by
  unfold segmentEffect
  split <;> simp [h]

@[simp] theorem canonical_takeSegment (k : Nat) (a : Transfer) (p : Nat) (d : List Byte) : (memories (takeSegment k a p d s)).Canonical := by
  simp [takeSegment, h]

@[simp] theorem canonical_closeTransfer (r : Req) (num crc : Nat) (imageOk : Bool) :
    (memories (closeTransfer r num crc imageOk s)).Canonical := by
  unfold closeTransfer
  split
  · simp [h]
  · simp [closeEffect, h]

theorem canonical_execute {r : Req} {codes : State → List Nat} {eff : State → State} {data : State → List Byte}
    (heff : (memories (eff s)).Canonical) : (memories (execute r codes eff data s)).Canonical := by
  unfold execute
  dsimp only
  split <;> simp [h, heff]

theorem canonical_accessEffect (r : Req) (index sub offset : Nat) (a : Access) :
    (memories (accessEffect r index sub offset a s)).Canonical := by
  unfold accessEffect
  split <;> simp [h]

/-! ### Commands -/

theorem canonical_acts {t : Nat} {f : State → State} (hf : ∀ s, memories (f s) = memories s) : CanonicalNext (atEdge t f s) :=
  canonical_next (canonical_of_memories (hf _) (canonical_advance h t))

theorem canonical_event {t : Nat} {c : State → Bool} {f : State → State} (hf : ∀ s, memories (f s) = memories s) :
    CanonicalNext (atEdge t (occurs c f) s) := canonical_acts h fun s => memories_if (hf s) rfl

theorem canonical_framed {t sess port : Nat} {macOk : Bool} {f : State → State} (hf : ∀ s, memories (f s) = memories s) :
    CanonicalNext (atEdge t (withFrame sess port macOk f) s) := canonical_acts h fun s => memories_withFrame s _ _ _ f hf

theorem canonical_registerWrite (t : Nat) (r : Req) (index sub offset : Nat) (a : Access) :
    CanonicalNext (execRegisterWrite t r index sub offset a s) := by
  unfold execRegisterWrite
  have hrun : ∀ v, (memories v).Canonical → (memories (execute r (accessCodes r index sub offset a) (accessEffect r index sub offset a)
      (accessData r index sub offset a) (accessTouch r a v))).Canonical := fun v hv =>
    canonical_execute (by simp [hv]) (canonical_accessEffect (by simp [hv]) _ _ _ _ _)
  split <;> exact canonical_next (canonical_requestRun hrun (by simp [h]))

theorem canonical_eclkLock (t : Nat) (dramClk : Bool) (badRows : List (Nat × Nat)) (badDram : List Nat) :
    CanonicalNext (execEclkLock t dramClk badRows badDram s) := by
  unfold execEclkLock
  extract_lets locked marched ms trained
  have htrained : memories trained = memories s := memories_each (fun _ _ => memories_dramOffline ..)
    ((memories_startMarch ..).trans (memories_modClock ..))
  split
  · exact canonical_next (canonical_advance h t)
  · split
    · exact canonical_next (canonical_startFails ..)
    · split
      · exact canonical_next (canonical_startFails ..)
      · exact canonical_next (canonical_of_memories ((memories_modPower ..).trans htrained) h)

theorem canonical_ptpMessage (t : Nat) (port : Fin 2) (msg : PtpMessage) : CanonicalNext (execPtpMessage t port msg s) :=
  canonical_event h fun v => by
    cases msg with
    | announce => exact memories_if rfl rfl
    | exchange => exact memories_if (memories_servoMeasures ..) rfl

theorem canonical_hawserLaneLost (t : Nat) (west : Bool) (lane : LaneSite) : CanonicalNext (execHawserLaneLost t west lane s) :=
  canonical_acts h fun v => by
    cases lane with
    | own => exact memories_loseLane ..
    | away => exact memories_if (memories_loseLink ..) rfl

theorem canonical_ringDiscovery (t : Nat) (d : Discovery) : CanonicalNext (execRingDiscovery t d s) :=
  canonical_event h fun v => by
    cases d with
    | alone => rfl
    | unformed => exact memories_if rfl rfl
    | found f =>
      refine memories_if (memories_notice ..) ?_
      cases v.dev.clock.numbering
      case watch => exact memories_formRing ..
      all_goals rfl

theorem canonical_syncEdge (t : Nat) : CanonicalNext (execSyncEdge t s) :=
  canonical_acts h fun v => by
    have hother : memories (if v.dev.clock.syncSource != 1 then v
        else if (modClock (fun c => { c with lastSync := some c.n }) (checkSync v)).dev.clock.realign then
          modClock (fun c => { c with realign := false, numbering := .realign (c.n + 64) })
            (modClock (fun c => { c with lastSync := some c.n }) (checkSync v))
        else modClock (fun c => { c with lastSync := some c.n }) (checkSync v)) = memories v :=
      memories_if rfl (memories_if (memories_checkSync ..) (memories_checkSync ..))
    dsimp only
    cases v.dev.clock.numbering
    case watch => exact memories_watchSync ..
    all_goals exact hother

theorem canonical_calElementMeasured (t : Nat) (c : Fin 64) (trim : Int) : CanonicalNext (execCalElementMeasured t c trim s) :=
  canonical_acts h fun v => by
    dsimp only
    cases (v.cal c).pass with
    | none => rfl
    | some => exact memories_if rfl (memories_if (memories_retireElement ..) rfl)

theorem canonical_calPassEnd (t : Nat) (c : Fin 64) (res : CalResult) : CanonicalNext (execCalPassEnd t c res s) :=
  canonical_acts h fun v => by
    dsimp only
    cases (v.cal c).pass with
    | none => rfl
    | some => exact memories_if rfl rfl

theorem canonical_elementSubstitution (t : Nat) (c : Fin 64) : CanonicalNext (execElementSubstitution t c s) :=
  canonical_event h fun v => by
    dsimp only
    cases (v.cal c).pass with
    | none => rfl
    | some p =>
      dsimp only
      generalize (List.range 66).find? _ = spare
      cases spare with
      | none => rfl
      | some => exact memories_if rfl rfl

theorem canonical_calRecordWritten (t : Nat) (c : Fin 64) : CanonicalNext (execCalRecordWritten t c s) :=
  canonical_event h fun v => by
    dsimp only
    cases (v.cal c).waiting <;> rfl

theorem canonical_retrainRetestDone (t : Nat) (m : Fin 6) (pass : Bool) : CanonicalNext (execRetrainRetestDone t m pass s) :=
  canonical_acts h fun v => by
    dsimp only
    cases (v.chan m).phase
    case retest => exact memories_if (memories_trained_ ..) (memories_if rfl rfl)
    case oldRetest =>
      exact memories_if ((memories_dramNotice ..).trans (memories_trained_ ..)) ((memories_settleDram ..).trans (memories_dramOffline ..))
    all_goals rfl

theorem canonical_liveIndexRead (t : Nat) (e : Fin 64) : CanonicalNext (execLiveIndexRead t e s) := by
  refine canonical_next (canonical_of_memories ?_ (canonical_reach h t))
  dsimp only
  cases liveRead (reach t s) e with
  | none => rfl
  | some =>
    cases ((reach t s).core e).src.nextRead with
    | none => rfl
    | some => exact memories_if (memories_readIndexWord ..) rfl

theorem canonical_cargoAck (t : Nat) (port : Fin 2) (sess : Nat) (macOk : Bool) (transfer acked window abort : Nat) :
    CanonicalNext (execCargoAck t port sess macOk transfer acked window abort s) :=
  canonical_framed h fun v => by
    dsimp only
    cases (v.session sess).transfer transfer with
    | none => rfl
    | some =>
      exact memories_if rfl (memories_if (memories_dropTransfer ..) ((memories_sendSegments ..).trans (memories_modTransfer ..)))

theorem canonical_mgmtMismatch (t : Nat) (journalOk : Bool) : CanonicalNext (execMgmtMismatch t journalOk s) := by
  refine canonical_next (canonical_occurs (fun v hv => ?_) (canonical_advance h t))
  dsimp only
  cases v.dev.faults.recovering with
  | none => exact canonical_if hv (canonical_declareFatal ..)
  | some => exact canonical_if hv (canonical_declareFatal ..)

theorem canonical_softwareReset (t : Nat) : CanonicalNext (execSoftwareReset t s) := by
  refine canonical_next ?_
  have hadvanced := canonical_advance h t
  generalize advance t s = v at hadvanced
  dsimp only
  cases v.dev.power.restart with
  | none => exact hadvanced
  | some =>
    exact canonical_if hadvanced (canonical_if
      (canonical_of_memories ((memories_moor ..).trans (memories_beginStart ..)) (canonical_resetDevice ..))
      (canonical_boot (canonical_resetDevice ..) _ _))

theorem canonical_tempRead (t : Nat) (temps : List (Nat × Int)) : CanonicalNext (execTempRead t temps s) := by
  refine canonical_next ?_
  have hadvanced := canonical_advance h t
  dsimp only
  cases hottest temps with
  | none => exact hadvanced
  | some => exact canonical_if hadvanced (canonical_readTemp hadvanced ..)

/-- A destructive run that ends leaves the bytes of its bank unlisted: zero (R415). -/
theorem canonical_eraseBank (b : Nat) :
    (memories (modScratch (fun x => { x with content := x.content.filter fun p => p.1 / 262144 != b }) s)).Canonical :=
  ⟨h.active, h.staged, memWf_filter _ _ _ h.scratch⟩

theorem canonical_marchDone (t : Nat) (failBit : Option Nat) : CanonicalNext (execMarchDone t failBit s) := by
  refine canonical_next ?_
  have hadvanced := canonical_advance h t
  generalize advance t s = v at hadvanced
  dsimp only
  cases v.dev.scratch.march with
  | none => exact hadvanced
  | some r =>
    exact canonical_if hadvanced (canonical_of_memories ((memories_notice ..).trans (memories_endRun ..))
      (canonical_if (canonical_eraseBank hadvanced _) hadvanced))

theorem canonical_marchWindowBorrow (t : Nat) : CanonicalNext (execMarchWindowBorrow t s) :=
  canonical_acts h fun v => by
    dsimp only
    cases v.dev.scratch.march with
    | none => rfl
    | some r =>
      dsimp only
      cases nextRow r with
      | none => rfl
      | some => exact memories_if (memories_modMarch ..) rfl

theorem canonical_marchWindowRelease (t busy : Nat) (failBit : Option Nat) : CanonicalNext (execMarchWindowRelease t busy failBit s) := by
  refine canonical_next ?_
  have hadvanced := canonical_advance h t
  generalize advance t s = v at hadvanced
  dsimp only
  cases v.dev.scratch.march with
  | none => exact hadvanced
  | some r =>
    refine canonical_if hadvanced (canonical_of_memories ?_ (canonical_restoreRow hadvanced r))
    refine (memories_modMarch ..).trans ?_
    cases failBit with
    | none => exact memories_if rfl (memories_modScratch _ _ fun _ => rfl)
    | some => exact (memories_cellFailed ..).trans (memories_if rfl (memories_modScratch _ _ fun _ => rfl))

theorem canonical_berthRead (t : Nat) (slot : Fin 8) (word : Nat) (portA : List PortA) (flipped : List Nat) :
    CanonicalNext (execBerthRead t slot word portA flipped s) := by
  refine canonical_next (canonical_occurs (fun v hv => ?_) (canonical_advance h t))
  have hserved := canonical_servePort hv (berthSlot v slot % 128) portA
  dsimp only
  revert hserved
  cases servePort (berthSlot v slot % 128) portA v with
  | mk w x =>
    intro hserved
    exact canonical_if (canonical_of_memories (memories_berthRefuse ..) hserved) <|
      canonical_if (canonical_of_memories (memories_controlRead ..) hserved) <|
      canonical_if (canonical_of_memories ((memories_berthRefuse ..).trans (memories_ownerFault ..)) hserved) <|
      canonical_if (canonical_of_memories (memories_undefinedRead ..) hserved) <|
      canonical_of_memories (memories_bankRead ..) hserved

theorem canonical_berthWrite (t : Nat) (slot : Fin 8) (word : Nat) (value : Word) (portA : List PortA) (sampled : Nat) :
    CanonicalNext (execBerthWrite t slot word value portA sampled s) := by
  refine canonical_next (canonical_occurs (fun v hv => ?_) (canonical_advance h t))
  have hserved := canonical_servePort hv (berthSlot v slot % 128) portA
  dsimp only
  revert hserved
  cases servePort (berthSlot v slot % 128) portA v with
  | mk w x =>
    intro hserved
    refine canonical_if (canonical_of_memories (memories_berthRefuse ..) hserved) <|
      canonical_if (canonical_of_memories (memories_controlWrite ..) hserved) <|
      canonical_if (canonical_of_memories ((memories_berthRefuse ..).trans (memories_ownerFault ..)) hserved) <|
      canonical_if (canonical_of_memories (memories_berthBusy ..) hserved) ?_
    have hput := canonical_putWord (canonical_of_memories (memories_touchBank w (berthSlot v slot % 128)) hserved)
      (berthSlot v slot % 128) (word % 65536) 4 value.toNat
    dsimp only
    generalize portMeets x (word % 65536) = met
    obtain _ | ⟨m, both⟩ := met
    · exact canonical_of_memories (memories_berthDone ..) hput
    · cases both with
      | false => exact canonical_of_memories ((memories_modScratch _ _ fun _ => rfl).trans ((memories_berthBusy ..).trans
          ((memories_countConflict ..).trans (memories_countConflict ..)))) hput
      | true =>
        exact canonical_of_memories ((memories_berthBusy ..).trans ((memories_countConflict ..).trans ((memories_countConflict ..).trans
          (memories_touchBank ..)))) hserved

theorem canonical_hawserCell (t : Nat) (west : Bool) (lane : Fin 2) (start : Byte) (body : List Byte) (crc : Nat) :
    CanonicalNext (execHawserCell t west lane start body crc s) :=
  canonical_event h fun _ => memories_if rfl <| memories_if (memories_if (memories_each (fun _ _ => memories_takeRecord ..)
    (memories_rollWindow ..)) rfl) (memories_if (memories_loseLane ..) rfl)

theorem canonical_alignTracking (t : Nat) (f : AlignFacts) : CanonicalNext (execAlignTracking t f s) :=
  canonical_event h fun _ => rfl

theorem canonical_apply (t id tick : Nat) : CanonicalNext (execApply t id tick s) := canonical_event h fun _ => rfl

theorem canonical_retrainSweepDone (t : Nat) (m : Fin 6) (set : Option (List Byte)) : CanonicalNext (execRetrainSweepDone t m set s) :=
  canonical_event h fun _ => rfl

theorem canonical_bankRetention (t : Nat) (b : Fin 128) : CanonicalNext (execBankRetention t b s) :=
  canonical_event h fun _ => rfl

theorem canonical_newTimingMaster (t reachable : Nat) : CanonicalNext (execNewTimingMaster t reachable s) :=
  canonical_event h fun _ => rfl

theorem canonical_viewTimeout (t sess : Nat) (view : Fin 4) : CanonicalNext (execViewTimeout t sess view s) :=
  canonical_event h fun _ => rfl

theorem canonical_failReply (t id pos code : Nat) : CanonicalNext (execFailReply t id pos code s) :=
  canonical_event h fun _ => memories_if (memories_ringFail ..) (memories_if (memories_lowerResult ..)
    (memories_if (memories_commitSplit ..) rfl))

theorem canonical_hawserLinkRejoin (t : Nat) (link otherMaster members : Nat) : CanonicalNext (execHawserLinkRejoin t link otherMaster members s) :=
  canonical_event h fun _ => memories_each (fun _ _ => memories_if rfl rfl) rfl

theorem canonical_open_ (t : Nat) (port : Fin 2) (macOk : Bool) (keySlot : Nat) (ask : OpenAsk) :
    CanonicalNext (execOpen t port macOk keySlot ask s) :=
  canonical_event h fun _ => memories_if (memories_macFailed ..) (memories_if (memories_refuseOpen ..) rfl)

theorem canonical_mr4Read (t : Nat) (m : Fin 6) (hot : Bool) (temp : Int) : CanonicalNext (execMr4Read t m hot temp s) :=
  canonical_event h fun _ => memories_update (memories_makeDue ..) (memories_if rfl (memories_dramNotice ..))

theorem canonical_refreshDue (t : Nat) (m : Fin 6) (bank : Nat) : CanonicalNext (execRefreshDue t m bank s) :=
  canonical_event h fun _ => memories_if rfl (memories_if rfl rfl)

theorem canonical_comparatorTransition (t : Nat) (j : Fin 256) (asserted : Bool) (tripAt : Nat) :
    CanonicalNext (execComparatorTransition t j asserted tripAt s) :=
  canonical_acts h fun _ => memories_if rfl <| memories_if (memories_modCmp ..) <| (memories_setOutput ..).trans <|
    memories_if (memories_modCmp ..) ((memories_shortAssert ..).trans (memories_modCmp ..))

theorem canonical_portReturn (t : Nat) (p : Fin 2) (speed25 rsFec : Bool) : CanonicalNext (execPortReturn t p speed25 rsFec s) :=
  canonical_event h fun _ => memories_each (fun _ _ => (memories_sendReads ..).trans ((memories_pump ..).trans (memories_settleTimers ..)))
    (memories_if (memories_if (memories_moveLclk ..) rfl) ((memories_changeOver ..).trans (memories_if (memories_moveLclk ..) rfl)))

theorem canonical_portLoss (t : Nat) (p : Fin 2) : CanonicalNext (execPortLoss t p s) :=
  canonical_event h fun _ => (memories_changeOver ..).trans (memories_if rfl (memories_if (memories_moveLclk ..) rfl))

theorem canonical_swEventAssert (t : Nat) : CanonicalNext (execSwEventAssert t s) :=
  canonical_acts h fun _ => memories_each (fun _ _ => memories_if (memories_assertLine ..) rfl) rfl

theorem canonical_retrainDrainDone (t : Nat) (m : Fin 6) : CanonicalNext (execRetrainDrainDone t m s) :=
  canonical_event h fun _ => memories_if rfl rfl

theorem canonical_armEdge (t : Nat) (c : Fin 64) (i : Fin 2) : CanonicalNext (execArmEdge t c i s) :=
  canonical_event h fun _ => (memories_armComparator ..).trans (memories_armComparator ..)

theorem canonical_blankingEnd (t : Nat) (c : Fin 64) : CanonicalNext (execBlankingEnd t c s) :=
  canonical_event h fun _ => memories_each (fun _ _ => memories_seenAssert ..) rfl

theorem canonical_ready (t id : Nat) (rep : ReadyReport) : CanonicalNext (execReady t id rep s) :=
  canonical_event h fun _ => memories_ringDecide ..

theorem canonical_resilverDone (t : Nat) (m : Fin 6) (bytes : Nat) : CanonicalNext (execResilverDone t m bytes s) :=
  canonical_event h fun _ => (memories_settleDram ..).trans (memories_dramNotice ..)

theorem canonical_noticeRetransmit (t sess seq : Nat) : CanonicalNext (execNoticeRetransmit t sess seq s) :=
  canonical_event h fun _ => memories_if (memories_loseNotice ..) rfl

theorem canonical_dramReinitDone (t : Nat) (m : Fin 6) (ok : Bool) : CanonicalNext (execDramReinitDone t m ok s) :=
  canonical_event h fun _ => memories_if rfl ((memories_settleDram ..).trans (memories_dramOffline ..))

theorem canonical_dictionaryReady (t us : Nat) : CanonicalNext (execDictionaryReady t us s) :=
  canonical_event h fun _ => (memories_notice ..).trans <| memories_each (fun _ _ => memories_startEngine ..) <|
    memories_each (fun _ _ => memories_startChannel ..) rfl

theorem canonical_calSwap (t : Nat) : CanonicalNext (execCalSwap t s) :=
  canonical_event h fun _ => (memories_notice ..).trans <| (memories_assertLine ..).trans <| (memories_modDev _ _ rfl rfl).trans <|
    memories_each (fun _ _ => memories_swapChannel ..) rfl

theorem canonical_railRecovery (t : Nat) (k : Fin 11) (mv : Int) : CanonicalNext (execRailRecovery t k mv s) :=
  canonical_acts h fun _ => memories_update (memories_modPower ..) (memories_setRail ..)

theorem canonical_thCheckPeriodic (t : Nat) : CanonicalNext (execThCheckPeriodic t s) :=
  canonical_acts h fun _ => memories_each (fun _ _ => memories_if (memories_startCheck ..) rfl) rfl

/-- Every command keeps the memories canonical. Most act through one operation, or leave the memories alone where their event occurs. -/
theorem canonical_exec (c : Instr) : CanonicalNext (exec c s) := by
  cases c
  case registerWrite => exact canonical_registerWrite h ..
  case eclkLock => exact canonical_eclkLock h ..
  case ptpMessage => exact canonical_ptpMessage h ..
  case hawserLaneLost => exact canonical_hawserLaneLost h ..
  case ringDiscovery => exact canonical_ringDiscovery h ..
  case syncEdge => exact canonical_syncEdge h ..
  case calElementMeasured => exact canonical_calElementMeasured h ..
  case calPassEnd => exact canonical_calPassEnd h ..
  case elementSubstitution => exact canonical_elementSubstitution h ..
  case calRecordWritten => exact canonical_calRecordWritten h ..
  case retrainRetestDone => exact canonical_retrainRetestDone h ..
  case liveIndexRead => exact canonical_liveIndexRead h ..
  case cargoAck => exact canonical_cargoAck h ..
  case mgmtMismatch => exact canonical_mgmtMismatch h ..
  case softwareReset => exact canonical_softwareReset h ..
  case tempRead => exact canonical_tempRead h ..
  case marchDone => exact canonical_marchDone h ..
  case marchWindowBorrow => exact canonical_marchWindowBorrow h ..
  case marchWindowRelease => exact canonical_marchWindowRelease h ..
  case berthRead => exact canonical_berthRead h ..
  case berthWrite => exact canonical_berthWrite h ..
  case hawserCell => exact canonical_hawserCell h ..
  case alignTracking => exact canonical_alignTracking h ..
  case apply => exact canonical_apply h ..
  case retrainSweepDone => exact canonical_retrainSweepDone h ..
  case bankRetention => exact canonical_bankRetention h ..
  case newTimingMaster => exact canonical_newTimingMaster h ..
  case viewTimeout => exact canonical_viewTimeout h ..
  case failReply => exact canonical_failReply h ..
  case hawserLinkRejoin => exact canonical_hawserLinkRejoin h ..
  case open_ => exact canonical_open_ h ..
  case mr4Read => exact canonical_mr4Read h ..
  case refreshDue => exact canonical_refreshDue h ..
  case comparatorTransition => exact canonical_comparatorTransition h ..
  case portReturn => exact canonical_portReturn h ..
  case portLoss => exact canonical_portLoss h ..
  case swEventAssert => exact canonical_swEventAssert h ..
  case retrainDrainDone => exact canonical_retrainDrainDone h ..
  case armEdge => exact canonical_armEdge h ..
  case blankingEnd => exact canonical_blankingEnd h ..
  case ready => exact canonical_ready h ..
  case resilverDone => exact canonical_resilverDone h ..
  case noticeRetransmit => exact canonical_noticeRetransmit h ..
  case dramReinitDone => exact canonical_dramReinitDone h ..
  case dictionaryReady => exact canonical_dictionaryReady h ..
  case calSwap => exact canonical_calSwap h ..
  case railRecovery => exact canonical_railRecovery h ..
  case thCheckPeriodic => exact canonical_thCheckPeriodic h ..
  all_goals refine canonical_next ?_
  case pornRelease | pornAssert | dramReadComplete | commitCheckDone | sessionTimeout | dramFreeze | scrub | fatal | supplyReset
      | refclkWaitTimeout | supplyResetRestart =>
    exact canonical_occurs (fun v hv => by simp [hv]) (by simp [h])
  case ringCommitTimeout | handoverTakesEffect =>
    exact canonical_occurs (fun v hv => by split <;> simp [hv]) (by simp [h])
  case stageDiscard | outRestart => exact canonical_command (fun v hv => by simp [hv]) (by simp [h])
  case cargoClose => exact canonical_requestRun (fun v hv => by simp [hv]) (by simp [h])
  case close => exact canonical_withFrame (fun v hv => by simp [hv]) (by simp [h])
  case cargoData => exact canonical_withFrame (fun v hv => by split <;> simp [hv]) (by simp [h])
  case takeoverResume | enableSequenceStep | softParkStep | rangeChangeStep | syncRealign | segmentVerified | cargoIdleTimeout
      | mgmtRecovered | analogRailRestart =>
    dsimp only
    split <;> simp [h]
  all_goals simp [h]

end Canonical

/-- Settles O4: each command keeps the memories canonical, and an idle step changes nothing. -/
theorem memoriesStayCanonical : Obligations.MemoriesStayCanonical := by
  unfold Obligations.MemoriesStayCanonical
  intro s s' h hstep
  unfold step at hstep
  split at hstep
  · obtain rfl := Host.Outcome.next.inj hstep
    exact h
  · rename_i c r _
    obtain ⟨s'', hexec, hcanonical⟩ := canonical_exec (s := { s with pending := r }) ((memoriesCanonical_iff s).1 h) c
    obtain rfl := Host.Outcome.next.inj (hstep.symm.trans hexec)
    exact (memoriesCanonical_iff s').2 hcanonical

end Sys2Proof.Machine

/-! PROOFS. The store operations: a request of the harbourmaster as its checks and its effect, and the segments after each operation. -/

namespace Sys2Proof.Machine

/-! ### What the device alone decides -/

/-- A value that the device alone decides: sessions and the link do not enter. -/
def OfDevice {α : Type} (f : State → α) : Prop := ∀ s v : State, v.dev = s.dev → f v = f s

theorem ofDevice_defineCodes (offset : Nat) (d : List Byte) : OfDevice (defineCodes offset d) := fun s v h => by
  cases s; cases v; cases h; rfl

theorem ofDevice_defineSeg (d : List Byte) : OfDevice fun s => (defineSeg d s).dev := fun s v h => by
  cases s; cases v; cases h; rfl

theorem ofDevice_deleteCodes (n : Nat) : OfDevice (deleteCodes n) := fun s v h => by
  cases s; cases v; cases h; rfl

theorem ofDevice_verifyCodes (n : Nat) : OfDevice (verifyCodes n) := fun s v h => by
  cases s; cases v; cases h; rfl

theorem ofDevice_queueVerify (n : Nat) : OfDevice fun s => (queueVerify n s).dev := fun s v h => by
  cases s; cases v; cases h; rfl

variable {s : State}

theorem seg_of_dev {v : State} (h : v.dev = s.dev) : v.seg = s.seg := by
  funext n
  rw [State.seg, h, State.seg]

theorem stream_of_dev {v : State} (h : v.dev = s.dev) : v.stream = s.stream := by
  funext n
  rw [State.stream, h, State.stream]

/-! ### Requests of the harbourmaster (R346, R349) -/

theorem requestRun_new {r : Req} (run : State → State) (hn : NewRequest s r) : requestRun r run s = run (frameArrives r.sess r.port s) := by
  obtain ⟨⟨hserves, hup, hopen, hmac⟩, hlow, hhigh⟩ := hn
  simp only [requestRun, withFrame, hserves, hup, hopen, hmac, Bool.and_self, if_true, highest_frameArrives]
  rw [if_neg (by omega), if_neg (by omega), if_pos hhigh]

/-- A harbourmaster that may write meets the operation's own checks alone. -/
theorem hmCodes_permitted {r : Req} {index : Nat} (hw : MayWrite s r index) (sess port : Nat) (l : List Nat) :
    lowest (hmCodes r index (frameArrives sess port s) ++ l) = lowest l := by
  obtain ⟨hhm, hview, hmoor⟩ := hw
  have hmooring : mooring (frameArrives sess port s) = mooring s := by simp only [mooring, frameArrives_dev]
  have hindex : (mooring s && !inMooringDict index) = false := by
    cases hm : mooring s with
    | true => simp [hmoor hm]
    | false => rfl
  simp [hmCodes, writeCodes, isHm_frameArrives, hmooring, hhm, hview, hindex, failIf, lowest]

variable {r : Req} {index : Nat} {codes : State → List Nat} {eff : State → State}

theorem command_new (hn : NewRequest s r) (hw : MayWrite s r index) (hcodes : OfDevice codes) :
    command r index codes eff s = if lowest (codes s) = 0 then respond r 0 [] (eff (frameArrives r.sess r.port s))
      else respond r (lowest (codes s)) [] (frameArrives r.sess r.port s) := by
  have hlowest : lowest (hmCodes r index (frameArrives r.sess r.port s) ++ codes (frameArrives r.sess r.port s)) = lowest (codes s) := by
    rw [hmCodes_permitted hw, hcodes s _ (frameArrives_dev ..)]
  rw [command, request, requestWith, requestRun_new _ hn, execute, hlowest]

theorem command_accepted (hn : NewRequest s r) (hw : MayWrite s r index) (hcodes : OfDevice codes) (heff : OfDevice fun s => (eff s).dev)
    (hc : lowest (codes s) = 0) {s' : State} (h : command r index codes eff s = s') : Answers s' r 0 ∧ s'.dev = (eff s).dev := by
  rw [command_new hn hw hcodes, if_pos hc] at h
  subst h
  exact ⟨⟨_, respond_last .., rfl, rfl, rfl⟩, heff s _ (frameArrives_dev ..)⟩

theorem command_refused (hn : NewRequest s r) (hw : MayWrite s r index) (hcodes : OfDevice codes) {c : Nat} (hc : lowest (codes s) = c)
    (h0 : c ≠ 0) {s' : State} (h : command r index codes eff s = s') : Answers s' r c ∧ s'.dev = s.dev := by
  subst hc
  rw [command_new hn hw hcodes, if_neg h0] at h
  subst h
  exact ⟨⟨_, respond_last .., rfl, rfl, rfl⟩, frameArrives_dev ..⟩

/-! ### SEG_DEFINE (R51) -/

theorem defineSeg_seg (d : List Byte) : (defineSeg d s).seg (defRecord d).n =
    { kind := (defRecord d).kind, st := if storedKind (defRecord d).kind then 1 else 2, error := 0,
      crcFault := (s.seg (defRecord d).n).crcFault, addr := (defPlace s (defRecord d)).1,
      lengthM1 := if (defRecord d).kind = 4 then (s.seg (bits (defRecord d).addr 15 0)).lengthM1 else (defRecord d).lengthM1,
      items := if (defRecord d).kind = 4 then (s.seg (bits (defRecord d).addr 31 16)).items else (defRecord d).items,
      hint := if (defRecord d).kind = 4 then alloyHint s (defRecord d).addr else 0, crc := (defRecord d).crc } := by
  rw [State.seg, defineSeg, modStore_store, tget_tset_same]

theorem defineSeg_seg_ne (d : List Byte) {n : Nat} (h : n ≠ (defRecord d).n) : (defineSeg d s).seg n = s.seg n := tget_tset_ne _ _ _ _ h _

theorem defineSeg_stream (d : List Byte) : (defineSeg d s).stream (defRecord d).n = Stream.reset := tget_terase_same ..

theorem defineSeg_stream_ne (d : List Byte) {n : Nat} (h : n ≠ (defRecord d).n) : (defineSeg d s).stream n = s.stream n := tget_terase_ne _ _ _ h _

theorem storedKind_ne_alloy {k : Nat} (h : storedKind k = true) : k ≠ 4 := by
  rintro rfl
  exact absurd h (by decide)

/-! ### SEG_DELETE (R58) -/

theorem deleteSeg_dev (n : Nat) : (deleteSeg n s).dev = (modStore (fun x => { x with
    segs := terase n x.segs, streams := terase n x.streams, verify := x.verify.filter (· != n) }) s).dev := by
  rw [deleteSeg, endSegTransfers]
  exact forAll_proj _ State.dev _ _ fun k v => by split <;> rfl

theorem ofDevice_deleteSeg (n : Nat) : OfDevice fun s => (deleteSeg n s).dev := fun s v h => by
  simp only [deleteSeg_dev, modStore, modDev, h]

theorem deleteCodes_idle (n : Nat) (hst : s.dev.dict.commit.st ≠ 1) (hready : s.dev.ring.commit.readySent = false) :
    lowest (deleteCodes n s) = if lockCount s n = 0 then 0 else 0x05010000 + n := by
  by_cases h : lockCount s n = 0 <;> simp [deleteCodes, storeCodes, storeBusy, hst, hready, h, failIf, lowest]

/-! ### SEG_VERIFY (R57) -/

theorem verifyCodes_idle {n : Nat} (hst : s.dev.dict.commit.st ≠ 1) (hready : s.dev.ring.commit.readySent = false)
    (hseg : (s.seg n).st ≠ 0) (hlen : s.dev.store.verify.length < 17) : lowest (verifyCodes n s) = 0 := by
  have h17 : ¬ 17 ≤ s.dev.store.verify.length := by omega
  simp [verifyCodes, storeCodes, storeBusy, hst, hready, hseg, h17, failIf, lowest]

/-! ### SEGMENT_VERIFIED (R53) -/

/-- The store as of another queue of verifications. -/
def requeue (l : List Nat) (n : Nat) (m : Bool) : State → State := modStore fun x => { x with verify := l, verifyLast := n, mismatch := m }

theorem firstOffence_requeue (l : List Nat) (n : Nat) (m : Bool) (g : Seg) (bad : Option Nat) (k i : Nat) :
    firstOffence (requeue l n m s) g bad k i = firstOffence s g bad k i := by
  induction k generalizing i with
  | zero => rfl
  | succ k ih =>
    simp only [firstOffence, ih]
    rfl

theorem storeBytes_requeue (l : List Nat) (n : Nat) (m : Bool) (a k : Nat) : storeBytes (requeue l n m s) a k = storeBytes s a k := by
  induction k generalizing a with
  | zero => rfl
  | succ k ih =>
    simp only [storeBytes, ih]
    rfl

/-- A judgement reads the content and the segment alone, not the queue of verifications. -/
theorem judge_requeue (l : List Nat) (n : Nat) (m : Bool) (g : Seg) (bad : Option Nat) : judge (requeue l n m s) g bad = judge s g bad := by
  simp only [judge, firstOffence_requeue, contentBytes, storeBytes_requeue]
  rfl

/-- What the end of a verification leaves: the outcome in segment `n`, the rest of the queue, and every other segment, the content and
the dictionary as they were. -/
structure Verified (s : State) (n : Nat) (q : List Nat) (bad : Option Nat) (v : State) : Prop where
  valid : judge s (s.seg n) bad = none → (v.seg n).st = 2 ∧ (v.seg n).error = 0
  invalid : ∀ k o, judge s (s.seg n) bad = some (k, o) → (v.seg n).st = 3 ∧ (v.seg n).error = k
  queue : v.dev.store.verify = q
  last : v.dev.store.verifyLast = n
  others : ∀ m, m ≠ n → v.seg m = s.seg m
  content : v.dev.store.content = s.dev.store.content
  dict : v.dev.dict = s.dev.dict

theorem endVerification_spec (n : Nat) (q : List Nat) (bad : Option Nat) :
    Verified s n q bad (endVerification n bad (modStore (fun x => { x with verify := q }) s)) := by
  unfold endVerification
  extract_lets g judged
  rw [show judged = requeue q n false s from rfl, judge_requeue, show g = s.seg n from rfl]
  cases hj : judge s (s.seg n) bad with
  | none =>
    refine ⟨fun _ => ?_, fun k o h => by simp [hj] at h, rfl, rfl, fun m hm => ?_, rfl, rfl⟩
    · rw [modSeg_seg]
      exact ⟨rfl, rfl⟩
    · exact modSeg_seg_ne _ n m hm _
  | some x =>
    refine ⟨fun h => by simp [hj] at h, fun k o h => ?_, rfl, rfl, fun m hm => ?_, rfl, rfl⟩
    · obtain ⟨rfl, rfl⟩ : x.1 = k ∧ x.2 = o := by simpa [hj, Prod.ext_iff] using h
      dsimp only
      rw [modSeg_seg]
      exact ⟨rfl, rfl⟩
    · exact modSeg_seg_ne _ n m hm _

theorem Verified.notice {n : Nat} {q : List Nat} {bad : Option Nat} {v : State} (h : Verified s n q bad v) :
    Verified s n q bad (verifiedNotice n v) := by
  have hseg : (verifiedNotice n v).seg = v.seg := by simp [verifiedNotice]
  obtain ⟨hvalid, hinvalid, hqueue, hlast, hothers, hcontent, hdict⟩ := h
  exact ⟨by rwa [hseg], by rwa [hseg], by simpa [verifiedNotice], by simpa [verifiedNotice], by rwa [hseg], by simpa [verifiedNotice],
    by simpa [verifiedNotice]⟩

theorem exec_segmentVerified {t n : Nat} {q : List Nat} (bad : Option Nat) (hq : (advance t s).dev.store.verify = n :: q)
    (hst : ((advance t s).seg n).st = 1) : exec (.segmentVerified t bad) s =
      .next (verifiedNotice n (endVerification n bad (modStore (fun x => { x with verify := q }) (advance t s)))) := by
  show execSegmentVerified t bad s = _
  simp only [execSegmentVerified, atEdge_eq, hq]
  exact congrArg (fun v => Host.Outcome.next (verifiedNotice n v)) (if_pos hst)

/-! ### The statement -/

/-- Settles O42: each operation is carried out on the state in which its frame arrives, or refused there. -/
theorem segmentCommands : Obligations.SegmentCommands := by
  unfold Obligations.SegmentCommands
  refine ⟨?define, ?delete, ?verify, ?verified⟩
  case define =>
    intro t r d s u x hn hw hc
    refine completes_atEdge ?_
    obtain ⟨hanswers, hdev⟩ := command_accepted hn hw (ofDevice_defineCodes 0 d) (ofDevice_defineSeg d) hc rfl
    refine ⟨hanswers, ?_⟩
    rw [seg_of_dev hdev, stream_of_dev hdev, hdev, defineSeg_seg]
    exact ⟨rfl, rfl, rfl, fun h => ⟨if_pos h, if_neg (storedKind_ne_alloy h), if_neg (storedKind_ne_alloy h)⟩,
      fun h => if_neg (by simp [show storedKind (defRecord d).kind = false from h]), defineSeg_stream d, fun n h => ⟨defineSeg_seg_ne d h, defineSeg_stream_ne d h⟩, rfl, rfl, rfl⟩
  case delete =>
    intro t r n s u hn hw hlt hst hready
    refine completes_atEdge ?_
    rw [Nat.mod_eq_of_lt hlt]
    have hcodes := deleteCodes_idle n hst hready
    by_cases hlock : lockCount u n = 0
    · rw [if_pos hlock] at hcodes
      obtain ⟨hanswers, hdev⟩ := command_accepted hn hw (ofDevice_deleteCodes n) (ofDevice_deleteSeg n) hcodes rfl
      rw [deleteSeg_dev] at hdev
      rw [seg_of_dev hdev, hdev]
      exact ⟨fun _ => ⟨hanswers, tget_terase_same .., fun m hm => tget_terase_ne _ _ _ hm _⟩, fun h => absurd hlock h, rfl, rfl⟩
    · rw [if_neg hlock] at hcodes
      obtain ⟨hanswers, hdev⟩ := command_refused hn hw (ofDevice_deleteCodes n) hcodes (by omega) rfl
      exact ⟨fun h => absurd h hlock, fun _ => ⟨hanswers, hdev⟩, by rw [hdev], by rw [hdev]⟩
  case verify =>
    intro t r n s u hn hw hlt hst hready hseg hlen
    refine completes_atEdge ?_
    rw [Nat.mod_eq_of_lt hlt]
    obtain ⟨hanswers, hdev⟩ := command_accepted hn hw (ofDevice_verifyCodes n) (ofDevice_queueVerify n)
      (verifyCodes_idle hst hready hseg hlen) rfl
    rw [hdev, queueVerify, modStore_store]
    refine ⟨hanswers, ?_, rfl, fun h => if_neg (by simpa using h)⟩
    by_cases h : n ∈ u.dev.store.verify <;> simp [h]
  case verified =>
    intro t n q bad s
    dsimp only
    intro hverify hst
    have h := (endVerification_spec (s := advance t s) n q bad).notice
    exact ⟨_, exec_segmentVerified bad hverify hst, h.valid, h.invalid, h.queue, h.last, h.others, h.content, h.dict⟩

end Sys2Proof.Machine

/-! PROOFS. Cargo transfers: what an arriving frame leaves of them, the open transfers after each operation, and the close of a
transfer into the staged step table. -/

namespace Sys2Proof.Machine

variable {s : State} {k num : Nat}

/-! ### An arriving frame -/

theorem transfers_sendNext (edge : Nat) (x : Session) : (sendNext edge x).transfers = x.transfers := by
  unfold sendNext
  split
  · split <;> rfl
  · rfl

theorem transfers_sends (edge : Nat) (l : List Nat) (x : Session) :
    (l.foldl (fun x _ => sendNext edge x) x).transfers = x.transfers := by
  induction l generalizing x with
  | nil => rfl
  | cons _ l ih => exact (ih _).trans (transfers_sendNext edge x)

section
variable {β : Type} (g : State → β) (hg : ∀ f : Session → Session, (∀ x, (f x).transfers = x.transfers) → ∀ s, g (modSession k f s) = g s)
include hg

/-- What no update of session `k` outside its transfers changes, the sending of notices does not change. -/
theorem pump_proj : g (pump k s) = g s := by
  unfold pump
  split
  · exact hg _ (fun x => transfers_sends s.now (List.range 16) x) s
  · rfl

theorem settleTimers_proj : g (settleTimers k s) = g s := by
  simp only [settleTimers]
  split
  · split
    · exact hg _ (by exact fun _ => rfl) s
    · rfl
  · exact hg _ (by exact fun _ => rfl) s
  · rfl

theorem frameArrives_proj (port : Nat) : g (frameArrives k port s) = g s := by
  rw [frameArrives, pump_proj g hg, settleTimers_proj g hg]
  exact hg _ (by exact fun _ => rfl) s

end

/-! ### What changes sessions alone -/

/-- The state apart from its sessions. -/
def apartFromSessions (s : State) : State := modLink (fun l => { l with sessions := [] }) s

theorem sessionsOnly_of_apart {s' : State} (h : apartFromSessions s' = apartFromSessions s) : SessionsOnly s' s := by
  refine ⟨(congrArg State.dev h :), ?_, (congrArg State.ticked h :), (congrArg State.undefined h :), (congrArg State.pending h :)⟩
  have hlink : { s'.link with sessions := [] } = { s.link with sessions := [] } := congrArg State.link h
  exact congrArg (fun l : Link => { l with sessions := s'.link.sessions }) hlink

theorem apart_modTransfer (f : Transfer → Transfer) : apartFromSessions (modTransfer k num f s) = apartFromSessions s := (rfl)

theorem apart_sendSegments : apartFromSessions (sendSegments k num s) = apartFromSessions s := (rfl)

theorem apart_dropTransfer : apartFromSessions (dropTransfer k num s) = apartFromSessions s := (rfl)

theorem apart_endTransfer (a : Transfer) (code : Nat) : apartFromSessions (endTransfer k a code s) = apartFromSessions s := (rfl)

theorem apart_respond (r : Req) (code : Nat) (data : List Byte) :
    apartFromSessions (respond r code data s) = apartFromSessions s := (rfl)

theorem apart_frameArrives (port : Nat) : apartFromSessions (frameArrives k port s) = apartFromSessions s :=
  frameArrives_proj _ (fun _ _ _ => rfl) port

/-- What changes sessions alone after a frame has arrived changes sessions alone. -/
theorem sessionsOnly_frame {s' : State} (port : Nat) (h : apartFromSessions s' = apartFromSessions (frameArrives k port s)) :
    SessionsOnly s' s := sessionsOnly_of_apart (h.trans (apart_frameArrives port))

theorem cargoBytes_frameArrives (port : Nat) : (frameArrives k port s).link.cargoBytes = s.link.cargoBytes :=
  congrArg (fun s => s.link.cargoBytes) (apart_frameArrives port)

theorem cargoCrcFails_frameArrives (port : Nat) : (frameArrives k port s).link.cargoCrcFails = s.link.cargoCrcFails :=
  congrArg (fun s => s.link.cargoCrcFails) (apart_frameArrives port)

/-! ### The transfers as a frame arrives -/

theorem transfers_modSession {f : Session → Session} (hf : ∀ x, (f x).transfers = x.transfers) (j : Nat) :
    ((modSession k f s).session j).transfers = (s.session j).transfers := by
  rcases eq_or_ne j k with rfl | hj
  · rw [modSession_session, hf]
  · rw [modSession_session_ne s k j hj]

theorem transfers_frameArrives (port j : Nat) : ((frameArrives k port s).session j).transfers = (s.session j).transfers :=
  frameArrives_proj (fun s => (s.session j).transfers) (fun _ hf _ => transfers_modSession hf j) port

theorem transfer_frameArrives (port : Nat) : ((frameArrives k port s).session k).transfer num = (s.session k).transfer num :=
  congrArg (List.find? fun a : Transfer => a.num == num) (transfers_frameArrives port k)

theorem withFrame_arrives {port : Fin 2} {ok : Bool} (f : State → State) (h : Arrives s k port ok) :
    withFrame k port ok f s = f (frameArrives k port s) := by
  obtain ⟨hserves, hup, hopen, hmac⟩ := h
  simp only [withFrame, hserves, hup, hopen, hmac, Bool.and_self, if_true]

/-! ### The open transfers after an update -/

theorem transfer_num {x : Session} {a : Transfer} (h : x.transfer num = some a) : a.num = num := by
  simpa using List.find?_some h

theorem modTransfer_transfer {f : Transfer → Transfer} (hf : ∀ a, a.num = num → (f a).num = num) :
    ((modTransfer k num f s).session k).transfer num = ((s.session k).transfer num).map f := by
  have hkeep : (fun a : Transfer => a.num == num) ∘ (fun a => if a.num = num then f a else a) = fun a => a.num == num := by
    funext a
    by_cases h : a.num = num
    · simp [h, hf a h]
    · simp [h]
  rw [modTransfer, modSession_session, Session.transfer, List.find?_map, hkeep]
  cases hfound : (s.session k).transfers.find? fun a => a.num == num with
  | none => rw [Session.transfer, hfound]; rfl
  | some a =>
    rw [Session.transfer, hfound, Option.map_some, Option.map_some, if_pos (transfer_num hfound)]

theorem modTransfer_some {a : Transfer} (ha : (s.session k).transfer num = some a) (f : Transfer → Transfer)
    (hf : ∀ b, b.num = num → (f b).num = num) : ((modTransfer k num f s).session k).transfer num = some (f a) :=
  (modTransfer_transfer hf).trans (congrArg (Option.map f) ha)

theorem dropTransfer_transfer : ((dropTransfer k num s).session k).transfer num = none := by
  simp [dropTransfer, Session.transfer]

theorem sendAck_transfer (a : Transfer) (code : Nat) : ((sendAck k a code s).session k).transfer a.num =
    ((s.session k).transfer a.num).map fun b => { b with window := grantWindow s a.key a.segSize } := by
  rw [sendAck, modSession_session]
  exact modTransfer_transfer fun _ h => h

theorem sendAck_cargoAck (a : Transfer) (code : Nat) : ((sendAck k a code s).session k).cargoAck =
    some (a.num, a.acked, grantWindow s a.key a.segSize, code) := by
  rw [sendAck, modSession_session]

theorem endTransfer_transfer (a : Transfer) (code : Nat) : ((endTransfer k a code s).session k).transfer a.num = none := by
  rw [endTransfer, sendAck_transfer, dropTransfer_transfer, Option.map_none]

/-- A read that an update `f` changes and whose segments then go out: the sending changes its counts of what was sent alone. -/
theorem sendSegments_transfer {a : Transfer} (ha : (s.session k).transfer num = some a) (f : Transfer → Transfer)
    (hf : ∀ b, b.num = num → (f b).num = num) : ∃ b,
    ((sendSegments k num (modTransfer k num f s)).session k).transfer num = some b ∧ b.acked = (f a).acked ∧ b.window = (f a).window ∧
    b.bytes = (f a).bytes ∧ b.resends = (f a).resends ∧ b.lastAdvance = (f a).lastAdvance := by
  unfold sendSegments
  extract_lets x up0 up1
  refine ⟨_, modTransfer_some (modTransfer_some ha f hf) _ fun b hb => ?num, ?_⟩
  case num => split <;> exact hb
  · split <;> exact ⟨rfl, rfl, rfl, rfl, rfl⟩

/-! ### CARGO_DATA (R359) -/

theorem advanceAcked_ge {seg total : Nat} (n acked : Nat) (got : List Nat) (h : acked ≤ total) :
    acked ≤ advanceAcked seg total n acked got := by
  induction n generalizing acked with
  | zero => exact le_rfl
  | succ n ih =>
    rw [advanceAcked]
    split
    · exact le_trans (by omega) (ih (min (acked + seg) total) (by omega))
    · exact le_rfl

theorem segmentFits_lt {a : Transfer} {p len : Nat} (h : segmentFits a p len = true) : p < a.total := by
  simp only [segmentFits, Bool.and_eq_true, decide_eq_true_eq] at h
  obtain ⟨⟨⟨hgrid, hbelow⟩, hlength⟩, hwindow⟩ := h
  exact hbelow

/-- A segment with a wrong CRC-32C is counted. -/
theorem exec_cargoData_crc {t crc p : Nat} {port : Fin 2} {d : List Byte} {a : Transfer} (harrives : Arrives (advance t s) k port true)
    (ha : ((advance t s).session k).transfer num = some a) (hwrite : a.write = true) (hcrc : crc ≠ crc32c d) :
    exec (.cargoData t port k true num p crc d) s = .next (modLink (fun l => { l with cargoCrcFails := sat32 (l.cargoCrcFails + 1) })
      (frameArrives k port (advance t s))) := by
  show atEdge t (withFrame k port true _) s = _
  rw [atEdge_eq, withFrame_arrives _ harrives]
  simp only [transfer_frameArrives, ha, hwrite, Bool.not_true, bne_iff_ne.2 (Ne.symm hcrc), if_true]
  rfl

/-- A segment that fits and was not accepted before is taken. -/
theorem exec_cargoData_take {t p : Nat} {port : Fin 2} {d : List Byte} {a : Transfer} (harrives : Arrives (advance t s) k port true)
    (ha : ((advance t s).session k).transfer num = some a) (hwrite : a.write = true) (hfits : segmentFits a p d.length = true)
    (hacked : a.acked ≤ p) (hgot : p ∉ a.got) :
    exec (.cargoData t port k true num p (crc32c d) d) s = .next (takeSegment k a p d (frameArrives k port (advance t s))) := by
  show atEdge t (withFrame k port true _) s = _
  rw [atEdge_eq, withFrame_arrives _ harrives]
  simp [transfer_frameArrives, ha, hwrite, hfits, hgot, Nat.not_lt.2 hacked]

theorem takeSegment_accept {a : Transfer} {p : Nat} {d : List Byte} (h : segmentCode a p d.length s = 0) :
    takeSegment k a p d s =
      let v := modLink (fun l => { l with cargoBytes := (l.cargoBytes + d.length) % 2 ^ 64 }) (segmentEffect k a p d s)
      sendAck k (a.accept p v.now d) 0 (modTransfer k a.num (fun _ => a.accept p v.now d) v) := if_pos h

/-- An object held to its close refuses no segment, and takes its bytes at the close. -/
theorem segment_held {a : Transfer} (h : heldToClose a = true) (p : Nat) (d : List Byte) :
    segmentCode a p d.length s = 0 ∧ segmentEffect k a p d s = s := by
  simp only [heldToClose, Bool.not_eq_true', Bool.or_eq_false_iff, beq_eq_false_iff_ne] at h
  obtain ⟨⟨⟨hcontent, hfeed⟩, hbanks⟩, himage⟩ := h
  -- the four facts rule out every case of the two matches but the last
  simp [segmentCode, segmentEffect]

theorem segment_bank {a : Transfer} (h : a.key = key 0xA050 1) (p : Nat) (d : List Byte) :
    segmentCode a p d.length s = lowest (bankContentCodes (a.offset + p) d.length s) ∧
    segmentEffect k a p d s = writeBanks (a.offset + p) d s := by
  have hindex : a.key / 256 = 0xA050 := by rw [h]; rfl
  have hat : a.at_ p = a.offset + p := by rw [Transfer.at_, if_neg (by rw [hindex]; decide)]
  simp only [segmentCode, segmentEffect, hindex, hat]
  exact ⟨trivial, rfl⟩

theorem bankContentCodes_owned {offset len : Nat} (h : ∀ b ∈ contentBanks offset len, bankOwner s b = 0x41) :
    lowest (bankContentCodes offset len s) = 0 := by
  rw [lowest_eq_zero]
  intro c hc
  obtain ⟨b, hb, rfl⟩ := List.mem_map.1 hc
  simp [failIf, h b hb]

/-! ### Writes of the scratchpad (R403) -/

/-- The content of the banks and the parts of the device that no write of them reaches. -/
def besideBanks (s : State) : Mem × Dict × Tbl Engine := (s.dev.scratch.content, s.dev.dict, s.dev.engines)

theorem besideBanks_writeBanks (offset : Nat) (d : List Byte) :
    besideBanks (writeBanks offset d s) = (mputs 0 offset d s.dev.scratch.content, s.dev.dict, s.dev.engines) := by
  have hput : ∀ v, besideBanks (modScratch (fun x => { x with content := mputs 0 offset d x.content }) v) =
      (mputs 0 offset d (besideBanks v).1, (besideBanks v).2) := fun _ => rfl
  unfold writeBanks
  rw [hput, forAll_proj _ besideBanks, forAll_proj _ besideBanks]
  · rfl
  · exact fun _ _ => rfl
  · intro b v
    split <;> rfl

/-! ### CARGO_ACK, CARGO_RESEND and CARGO_IDLE_TIMEOUT (R359) -/

/-- A read with the acknowledgement of the host up to position `p`, at edge `n`. -/
def Transfer.acknowledge (a : Transfer) (n p window : Nat) : Transfer :=
  { a with
    window := window, acked := max a.acked p, sentTo := max a.sentTo p, lastAccepted := if a.acked < p then n else a.lastAccepted,
    lastAdvance := if a.acked < p then n else a.lastAdvance }

theorem completes_cargoAck {t acked window : Nat} {port : Fin 2} {a : Transfer} {P : State → Prop}
    (harrives : Arrives (advance t s) k port true) (ha : ((advance t s).session k).transfer num = some a) (hread : a.write = false)
    (h : P (sendSegments k num (modTransfer k num (·.acknowledge (frameArrives k port (advance t s)).now (min acked a.total) window)
      (frameArrives k port (advance t s))))) :
    Completes (exec (.cargoAck t port k true num acked window 0) s) P := by
  refine completes_atEdge ?_
  rw [withFrame_arrives _ harrives]
  simp only [transfer_frameArrives, ha, hread]
  exact h

theorem completes_cargoAck_abort {t acked window abort : Nat} {port : Fin 2} {a : Transfer} {P : State → Prop}
    (harrives : Arrives (advance t s) k port true) (ha : ((advance t s).session k).transfer num = some a) (hread : a.write = false)
    (habort : abort ≠ 0) (h : P (dropTransfer k num (frameArrives k port (advance t s)))) :
    Completes (exec (.cargoAck t port k true num acked window abort) s) P := by
  refine completes_atEdge ?_
  rw [withFrame_arrives _ harrives]
  simp only [transfer_frameArrives, ha, hread, bne_iff_ne.2 habort, if_true]
  exact h

/-- A read that goes on from ACKED at edge `n`. -/
def Transfer.restart (a : Transfer) (n : Nat) : Transfer := { a with resends := a.resends + 1, lastAdvance := n, sentTo := a.acked }

theorem completes_cargoResend {t : Nat} {a : Transfer} {P : State → Prop} (ha : ((advance t s).session k).transfer num = some a)
    (hread : a.write = false) (hopen : a.acked < a.total) (hdue : a.lastAdvance + 200000 ≤ (advance t s).now)
    (h : P (sendSegments k num (modTransfer k num (fun b => b.restart (advance t s).now) (advance t s)))) :
    Completes (exec (.cargoResend t k num) s) P :=
  completes_occurs (by simp [ha, hread, hopen, hdue]) h

theorem exec_cargoIdleTimeout {t : Nat} {a : Transfer} (ha : ((advance t s).session k).transfer num = some a) :
    exec (.cargoIdleTimeout t k num) s = .next (if a.lastAccepted + 400000000 ≤ (advance t s).now then
      endTransfer k a (0x01140000 + num) (advance t s) else advance t s) := by
  show execCargoIdleTimeout t k num s = _
  rw [execCargoIdleTimeout, atEdge_eq]
  simp only [ha]

/-! ### CARGO_CLOSE (R362) -/

theorem closeCodes_bad {a : Transfer} {crc : Nat} (h : a.acked ≠ a.total ∨ crc32c a.data ≠ crc) (ok : Bool) :
    lowest (closeCodes a crc ok s) = 0x01130000 + a.num := by
  have hbad : (a.acked != a.total || crc32c a.data != crc) = true := by simpa using h
  rw [closeCodes, hbad]
  simp [failIf, lowest]

theorem closeCodes_good {a : Transfer} {crc : Nat} (hacked : a.acked = a.total) (hcrc : crc32c a.data = crc) (ok : Bool) :
    lowest (closeCodes a crc ok s) = lowest (objectCloseCodes a ok s) := by
  simp [closeCodes, hacked, hcrc, failIf, lowest]

variable {r : Req}

theorem closeTransfer_some {a : Transfer} (ha : (s.session r.sess).transfer num = some a) (crc : Nat) (ok : Bool) :
    closeTransfer r num crc ok s =
      let c := lowest (closeCodes a crc ok s)
      respond r c [] (dropTransfer r.sess num (if c = 0 then closeEffect r.sess a s else closeRefused a c s)) := by
  simp only [closeTransfer, ha]

/-- A closed transfer is no longer open, and its close is answered. -/
theorem respond_dropTransfer (c : Nat) : Answers (respond r c [] (dropTransfer r.sess num s)) r c ∧
    ((respond r c [] (dropTransfer r.sess num s)).session r.sess).transfer num = none := by
  refine ⟨⟨_, respond_last .., rfl, rfl, rfl⟩, ?_⟩
  rw [respond, modSession_session]
  exact dropTransfer_transfer

theorem completes_cargoClose {t crc : Nat} {ok : Bool} {P : State → Prop} (hn : NewRequest (advance t s) r) (hnum : num < 65536)
    (h : P (closeTransfer r num crc ok (frameArrives r.sess r.port (advance t s)))) : Completes (exec (.cargoClose t r num crc ok) s) P := by
  refine completes_atEdge ?_
  rwa [Nat.mod_eq_of_lt hnum, requestRun_new _ hn]

/-! ### A transfer into the staged step table (R59, R323) -/

theorem length_mgets (dflt : Byte) (a n : Nat) (m : Mem) : (mgets dflt a n m).length = n := by
  induction n generalizing a with
  | zero => rfl
  | succ n ih => rw [mgets, List.length_cons, ih]

theorem getElem_mgets (dflt : Byte) (a n : Nat) (m : Mem) (i : Nat) (h : i < (mgets dflt a n m).length) :
    (mgets dflt a n m)[i] = mget dflt (a + i) m := by
  induction n generalizing a i with
  | zero => exact absurd h (Nat.not_lt_zero i)
  | succ n ih =>
    cases i with
    | zero => rfl
    | succ i =>
      simp only [mgets, List.getElem_cons_succ, ih]
      congr 1
      omega

/-- A complete transfer of whole steps into a table that no commit holds meets no refusal. -/
theorem objectCloseCodes_steps {a : Transfer} (hkey : a.key = key 0xA021 1) (hoffset : a.offset % 64 = 0) (htotal : a.total % 64 = 0)
    (hend : a.offset + a.total ≤ 33554432) (hst : s.dev.dict.commit.st = 0) (hready : s.dev.ring.commit.readySent = false) (ok : Bool) :
    lowest (objectCloseCodes a ok s) = 0 := by
  have hindex : a.key / 256 = 0xA021 := by rw [hkey]; rfl
  have hcodes : domainCodes (0x01120000 + a.num) 0xA021 (a.key % 256) a.offset a.total s =
      [failIf (a.offset % 64 != 0 || a.total % 64 != 0 || stepTableBytes < a.offset + a.total) (0x01120000 + a.num),
        failIf (stageBusy s) 0x06030000] := rfl
  have hshape : ¬ stepTableBytes < a.offset + a.total := by rw [stepTableBytes]; omega
  cases hwrite : a.write with
  | false => simp [objectCloseCodes, hwrite, lowest]
  | true => simp [objectCloseCodes, hwrite, heldToClose, hindex, hcodes, hoffset, htotal, hshape, stageBusy, hst, hready, failIf, lowest]

theorem closeEffect_steps {a : Transfer} (hkey : a.key = key 0xA021 1) (hwrite : a.write = true) :
    closeEffect k a s = stageSteps a.offset a.data s := by
  have hindex : a.key / 256 = 0xA021 := by rw [hkey]; rfl
  simp only [closeEffect, hwrite, heldToClose, hindex]
  rfl

/-- The staged table with a transfer's bytes at its offset, and every other byte as it was. -/
theorem stageSteps_data {a : Transfer} (h : memWf 0 s.dev.dict.stepsStaged = true) :
    (∀ i, i < a.total → mget 0 (a.offset + i) (stageSteps a.offset a.data s).dev.dict.stepsStaged = mget 0 i a.bytes) ∧
    (∀ x, x < a.offset ∨ a.offset + a.total ≤ x →
      mget 0 x (stageSteps a.offset a.data s).dev.dict.stepsStaged = mget 0 x s.dev.dict.stepsStaged) := by
  have hlen : a.data.length = a.total := length_mgets ..
  refine ⟨fun i hi => ?_, fun x hx => mget_mputs_ne 0 a.offset x a.data _ h (by rwa [hlen])⟩
  have hread := mget_mputs_in 0 a.offset a.data _ h i (by rwa [hlen])
  rw [show a.data[i] = mget 0 i a.bytes by simp only [Transfer.data, getElem_mgets, Nat.zero_add]] at hread
  exact hread

/-! ### Segments taken and transfers closed -/

/-- A segment of an object held to its close stands in the transfer alone. -/
theorem takeSegment_held {a : Transfer} {p : Nat} {d : List Byte} (ha : (s.session k).transfer num = some a) (hheld : heldToClose a = true)
    (hfits : segmentFits a p d.length = true) (hacked : a.acked ≤ p) (hwf : memWf 0 a.bytes = true) :
    (∃ b, ((takeSegment k a p d s).session k).transfer num = some b ∧ a.acked ≤ b.acked ∧
      ((takeSegment k a p d s).session k).cargoAck = some (num, b.acked, b.window, 0) ∧
      ∀ (i : Nat) (h : i < d.length), mget 0 (p + i) b.bytes = d[i]) ∧
    (takeSegment k a p d s).link.cargoBytes = (s.link.cargoBytes + d.length) % 2 ^ 64 ∧ (takeSegment k a p d s).dev = s.dev := by
  obtain ⟨hcode, heffect⟩ := segment_held (s := s) (k := k) hheld p d
  obtain rfl := transfer_num ha
  have hbelow := segmentFits_lt hfits
  rw [takeSegment_accept hcode, heffect]
  extract_lets v
  have hb : ((modTransfer k a.num (fun _ => a.accept p v.now d) v).session k).transfer a.num = some (a.accept p v.now d) :=
    modTransfer_some ha _ fun _ _ => rfl
  refine ⟨⟨_, (sendAck_transfer (a.accept p v.now d) 0).trans (congrArg (Option.map _) hb), ?_, sendAck_cargoAck .., ?_⟩, rfl, rfl⟩
  · exact advanceAcked_ge _ _ _ (by omega)
  · exact fun i hi => mget_mputs_in 0 p d a.bytes hwf i hi

/-- A segment of BANK_CONTENT stands in the banks at once. -/
theorem takeSegment_bank {a : Transfer} {p : Nat} {d : List Byte} (hkey : a.key = key 0xA050 1)
    (howned : ∀ b ∈ contentBanks (a.offset + p) d.length, bankOwner s b = 0x41) :
    besideBanks (takeSegment k a p d s) = (mputs 0 (a.offset + p) d s.dev.scratch.content, s.dev.dict, s.dev.engines) := by
  obtain ⟨hcode, heffect⟩ := segment_bank (s := s) (k := k) hkey p d
  rw [takeSegment_accept (hcode.trans (bankContentCodes_owned howned)), heffect]
  exact besideBanks_writeBanks (a.offset + p) d

/-- The step table takes a complete transfer at its close. -/
theorem closeTransfer_steps {a : Transfer} {crc : Nat} (ha : (s.session r.sess).transfer num = some a) (hacked : a.acked = a.total)
    (hcrc : crc32c a.data = crc) (hwrite : a.write = true) (hkey : a.key = key 0xA021 1) (hoffset : a.offset % 64 = 0)
    (htotal : a.total % 64 = 0) (hend : a.offset + a.total ≤ 33554432) (hst : s.dev.dict.commit.st = 0)
    (hready : s.dev.ring.commit.readySent = false) (ok : Bool) :
    closeTransfer r num crc ok s = respond r 0 [] (dropTransfer r.sess num (stageSteps a.offset a.data s)) := by
  rw [closeTransfer_some ha, closeCodes_good hacked hcrc, objectCloseCodes_steps hkey hoffset htotal hend hst hready,
    closeEffect_steps hkey hwrite]
  rfl

/-- A complete read meets no refusal at its close. -/
theorem closeTransfer_read {a : Transfer} {crc : Nat} (ha : (s.session r.sess).transfer num = some a) (hacked : a.acked = a.total)
    (hcrc : crc32c a.data = crc) (hread : a.write = false) (ok : Bool) :
    closeTransfer r num crc ok s = respond r 0 [] (dropTransfer r.sess num s) := by
  have hcodes : lowest (objectCloseCodes a ok s) = 0 := by simp [objectCloseCodes, hread, lowest]
  rw [closeTransfer_some ha, closeCodes_good hacked hcrc, hcodes]
  simp [closeEffect, hread]

/-- A transfer that lacks bytes, or whose bytes differ, ends without effect. -/
theorem closeTransfer_bad {a : Transfer} {crc : Nat} (ha : (s.session r.sess).transfer num = some a) (hnum : num < 65536)
    (hbad : a.acked ≠ a.total ∨ crc32c a.data ≠ crc) (ok : Bool) :
    closeTransfer r num crc ok s = respond r (0x01130000 + num) [] (dropTransfer r.sess num s) := by
  have hcode := closeCodes_bad (s := s) hbad ok
  rw [transfer_num ha] at hcode
  rw [closeTransfer_some ha, hcode]
  dsimp only
  rw [if_neg (by omega), closeRefused, if_neg (by omega)]

/-- What the host sees of a close: the answer, and that the transfer is gone. -/
theorem closed_sessionsOnly (port c : Nat) : Answers (respond r c [] (dropTransfer r.sess num (frameArrives r.sess port s))) r c ∧
    ((respond r c [] (dropTransfer r.sess num (frameArrives r.sess port s))).session r.sess).transfer num = none ∧
    SessionsOnly (respond r c [] (dropTransfer r.sess num (frameArrives r.sess port s))) s :=
  ⟨(respond_dropTransfer c).1, (respond_dropTransfer c).2, sessionsOnly_frame port ((apart_respond ..).trans apart_dropTransfer)⟩

/-- What a close into the staged step table leaves. -/
theorem closed_steps {a : Transfer} (hwf : memWf 0 s.dev.dict.stepsStaged = true) {v : State}
    (hv : v = respond r 0 [] (dropTransfer r.sess num (stageSteps a.offset a.data s))) :
    Answers v r 0 ∧ (v.session r.sess).transfer num = none ∧
    (∀ i, i < a.total → mget 0 (a.offset + i) v.dev.dict.stepsStaged = mget 0 i a.bytes) ∧
    (∀ x, x < a.offset ∨ a.offset + a.total ≤ x → mget 0 x v.dev.dict.stepsStaged = mget 0 x s.dev.dict.stepsStaged) ∧
    v.dev.dict.stepsActive = s.dev.dict.stepsActive ∧ v.dev = { s.dev with dict := v.dev.dict } := by
  subst hv
  obtain ⟨hanswers, hgone⟩ := respond_dropTransfer (s := stageSteps a.offset a.data s) (r := r) (num := num) 0
  obtain ⟨hin, hout⟩ := stageSteps_data (a := a) hwf
  exact ⟨hanswers, hgone, hin, hout, rfl, rfl⟩

/-! ### The statement -/

/-- Settles O49: each command's transfer is followed through the frame, the update of the transfers and the answer. -/
theorem cargoTransfers : Obligations.CargoTransfers := by
  unfold Obligations.CargoTransfers
  dsimp only
  refine ⟨?data, ?ack, ?device, ?close⟩
  case data =>
    intro t port k num p d a s harrives ha hwrite hfits hacked hgot hwf
    have htake := exec_cargoData_take harrives ha hwrite hfits hacked hgot
    have hdev := frameArrives_dev (advance t s) k port
    refine ⟨fun hheld => ⟨_, htake, ?_⟩, fun hkey hcontent howned => ⟨_, htake, ?_⟩,
      fun crc hcrc => ⟨_, exec_cargoData_crc harrives ha hwrite hcrc, ?_, transfers_frameArrives port k, hdev⟩⟩
    · have h := takeSegment_held ((transfer_frameArrives (s := advance t s) port).trans ha) hheld hfits hacked hwf
      rwa [cargoBytes_frameArrives, hdev] at h
    · have h := takeSegment_bank (s := frameArrives k port (advance t s)) (k := k) hkey fun b hb => by
        rw [bankOwner, State.act, hdev]
        exact howned b hb
      rw [hdev] at h
      simp only [besideBanks, Prod.mk.injEq] at h
      obtain ⟨hput, hdict, hengines⟩ := h
      dsimp only
      rw [hput]
      exact ⟨fun i hi => mget_mputs_in 0 _ d _ hcontent i hi, fun x hx => mget_mputs_ne 0 _ x d _ hcontent hx, hdict, hengines⟩
    · exact congrArg (fun n => sat32 (n + 1)) (cargoCrcFails_frameArrives port)
  case ack =>
    intro t port k num acked window a s harrives ha hread
    have hframe := (transfer_frameArrives (s := advance t s) port).trans ha
    refine ⟨completes_cargoAck harrives ha hread ?_, fun abort habort => completes_cargoAck_abort harrives ha hread habort ?_⟩
    · refine ⟨?_, sessionsOnly_frame port (apart_sendSegments.trans (apart_modTransfer _))⟩
      obtain ⟨b, hb, hacked, hwindow, hbytes, -⟩ := sendSegments_transfer hframe
        (·.acknowledge (frameArrives k port (advance t s)).now (min acked a.total) window) fun _ h => h
      exact ⟨b, hb, hacked, hwindow, hbytes⟩
    · exact ⟨dropTransfer_transfer, sessionsOnly_frame port apart_dropTransfer⟩
  case device =>
    intro t k num a s ha
    have hidle := exec_cargoIdleTimeout ha
    refine ⟨fun hread hopen hdue => completes_cargoResend ha hread hopen hdue
      ⟨?_, sessionsOnly_of_apart (apart_sendSegments.trans (apart_modTransfer _))⟩, fun hdue => ?_, fun hearly => ?_⟩
    · obtain ⟨b, hb, hacked, -, -, hresends, hadvance⟩ := sendSegments_transfer ha (·.restart (advance t s).now) fun _ h => h
      exact ⟨b, hb, hresends, hadvance, hacked⟩
    · rw [if_pos hdue] at hidle
      obtain rfl := transfer_num ha
      exact ⟨_, hidle, endTransfer_transfer .., ⟨_, sendAck_cargoAck ..⟩, sessionsOnly_of_apart (apart_endTransfer ..)⟩
    · rwa [if_neg (Nat.not_le.2 hearly)] at hidle
  case close =>
    intro t r num crc ok s hn hnum
    have hdev := frameArrives_dev (advance t s) r.sess r.port
    refine ⟨fun hnone => completes_cargoClose hn hnum ?_, fun a ha => ?_⟩
    · rw [closeTransfer, transfer_frameArrives, hnone]
      exact ⟨⟨_, respond_last .., rfl, rfl, rfl⟩, sessionsOnly_frame r.port (apart_respond ..)⟩
    · have hframe := (transfer_frameArrives (s := advance t s) r.port).trans ha
      refine ⟨fun hbad => completes_cargoClose hn hnum ?_, fun hacked hcrc hread => completes_cargoClose hn hnum ?_,
        fun hacked hcrc hwrite hkey hoffset htotal hend hst hready hwf => completes_cargoClose hn hnum ?_⟩
      · rw [closeTransfer_bad hframe hnum hbad]
        exact closed_sessionsOnly r.port _
      · rw [closeTransfer_read hframe hacked hcrc hread]
        exact closed_sessionsOnly r.port _
      · rw [← hdev] at hst hready hwf ⊢
        exact closed_steps hwf (closeTransfer_steps hframe hacked hcrc hwrite hkey hoffset htotal hend hst hready ok)

end Sys2Proof.Machine

/-! PROOFS. Decision points and code formation (R94, R123). -/

namespace Sys2Proof.Machine

theorem completes_next {o : Host.Outcome State Fault Refusal} {s' : State} {P : State → Prop} (ho : o = .next s') (h : P s') : Completes o P :=
  ⟨s', ho, h⟩

theorem completes_event {u s' : State} {c : State → Bool} {f : State → State} {P : State → Prop} (hc : c u = true) (hf : f u = s')
    (h : P s') : Completes (.next (occurs c f u)) P := ⟨s', congrArg Host.Outcome.next ((occurs_true u c f hc).trans hf), h⟩

theorem core_modCore (s : State) (e : Nat) (f : EngCore → EngCore) : (modCore e f s).core e = f (s.core e) := by
  rw [State.core, modCore, modEngine_engine]
  rfl

theorem core_modPend (s : State) (e : Nat) (f : EngPend → EngPend) :
    (modPend e f s).core e = { s.core e with pend := f (s.core e).pend } := core_modCore ..

theorem pend_modPend (s : State) (e : Nat) (f : EngPend → EngPend) : ((modPend e f s).core e).pend = f (s.core e).pend :=
  (congrArg EngCore.pend (core_modCore s e fun g => { g with pend := f g.pend }) :)

theorem play_modPend (s : State) (e : Nat) (f : EngPend → EngPend) : ((modPend e f s).core e).play = (s.core e).play :=
  (congrArg EngCore.play (core_modCore s e fun g => { g with pend := f g.pend }) :)

theorem play_modPlay (s : State) (e : Nat) (f : EngPlay → EngPlay) :
    (((modPlay e f s).core e).st, ((modPlay e f s).core e).play) = ((s.core e).st, f (s.core e).play) :=
  (congrArg (fun c => (EngCore.st c, EngCore.play c)) (core_modCore s e fun g => { g with play := f g.play }) :)

/-- A state without its engines. -/
noncomputable def offEng (s : State) : State := { s with dev := { s.dev with engines := [] } }

/-- From `s` to `s'` engine `e` has changed, and neither another engine nor what `π` reads. -/
noncomputable def Only {α : Type} (π : State → α) (e : Nat) (s s' : State) : Prop := π s' = π s ∧ ∀ x, x ≠ e → s'.engine x = s.engine x

/-- From `s` to `s'` the record of engine `e` alone changes, and not what `π` reads of it. -/
noncomputable def Keeps {α : Type} (π : EngCore → α) (e : Nat) (s s' : State) : Prop := Only offEng e s s' ∧ π (s'.core e) = π (s.core e)

section

variable {α β : Type} {ρ : State → β} {π : EngCore → α} {e : Nat} {s s' s'' : State}

theorem Only.refl : Only ρ e s s := ⟨rfl, fun _ _ => rfl⟩

theorem Only.trans (h : Only ρ e s s') (g : Only ρ e s' s'') : Only ρ e s s'' :=
  ⟨g.1.trans h.1, fun x hx => (g.2 x hx).trans (h.2 x hx)⟩

theorem only_modEngine {f : Engine → Engine} (h : ρ (modEngine e f s) = ρ s) : Only ρ e s (modEngine e f s) :=
  ⟨h, fun x hx => modEngine_engine_ne s e x hx f⟩

theorem only_modCore (f : EngCore → EngCore) : Only offEng e s (modCore e f s) := only_modEngine rfl

theorem Only.engineOnly (h : Only offEng e s s') : EngineOnly e s' s :=
  ⟨(congrArg (fun x : State => { x.dev with engines := s'.dev.engines }) h.1 :), h.2, (congrArg State.ticked h.1 :),
    (congrArg State.undefined h.1 :), (congrArg State.pending h.1 :)⟩

theorem Keeps.refl : Keeps π e s s := ⟨.refl, rfl⟩

theorem Keeps.modCore (h : Keeps π e s s') (f : EngCore → EngCore) (hf : ∀ c, π (f c) = π c) : Keeps π e s (modCore e f s') :=
  ⟨h.1.trans (only_modCore f), (congrArg π (core_modCore s' e f)).trans ((hf _).trans h.2)⟩

end

section

variable {u x : State} {e t n : Nat} {w : EndWhat}

/-- END_ACTION of the active step table comes into force in the current step. -/
noncomputable def actionInForce (e : Nat) (u : State) : State := modPlay e (fun p => { p with action := (u.entry e p.step).endAction }) u

/-- Settling a decision takes requests and counts them, beyond bringing END_ACTION into force. -/
theorem keeps_settleAtEnd : Keeps (fun c => (c.st, c.play)) e (actionInForce e u) (settleAtEnd e t w u) := by
  unfold settleAtEnd
  extract_lets x
  have htaken (f) : Keeps (fun c => (c.st, c.play)) e x (modPend e f x) := Keeps.refl.modCore _ fun _ => rfl
  cases eligibleAtEnd (x.core e) t with
  | none => exact .refl
  | some k =>
    cases w with
    | jump => exact htaken _
    | _ => exact (htaken _).modCore _ fun _ => rfl

theorem decideEnd_jump {j : JumpReq} (hj : (x.core e).pend.atEnd = some j) (hq : j.q + 24 ≤ t)
    (hen : targetEn (targetWord x.dev.dict.active e j.target) = true) : decideEnd x e n t = .jump j.target := by
  have he : eligibleAtEnd (x.core e) t = some j.target := by rw [eligibleAtEnd, hj]; exact if_pos hq
  unfold decideEnd
  extract_lets c en
  clear_value en
  rw [he]
  exact if_pos hen

/-- A decision recorded in an engine. -/
noncomputable def recordEnd (e t : Nat) (w : EndWhat) : State → State :=
  modPend e fun p => { p with decisions := p.decisions.filter (·.tick != t) ++ [{ tick := t, what := w }] }

theorem recordEnd_decisions : ⟨t, w⟩ ∈ ((recordEnd e t w x).core e).pend.decisions :=
  (congrArg EngPend.decisions (pend_modPend x e _)).symm ▸ List.mem_append_right _ (List.mem_singleton_self _)

theorem keeps_recordEnd : Keeps (fun c => (c.st, c.play)) e (actionInForce e u) (recordEnd e t w (settleAtEnd e t w u)) :=
  keeps_settleAtEnd.modCore _ fun _ => rfl

theorem decide24_ends (hu : (u.core e).st = .running) (hx : simTicks e (t - u.gridE e) u = x) (hst : (x.core e).st = .running)
    (hphase : (x.core e).phase = .play) (hn : (passSum x (x.core e)).2 ≠ 0) :
    decide24 e t u = recordEnd e t (decideEnd x e (passSum x (x.core e)).2 t) (settleAtEnd e t (decideEnd x e (passSum x (x.core e)).2 t) u) :=
  hx ▸ if_pos (hx ▸ Bool.and_eq_true_iff.2 ⟨Bool.and_eq_true_iff.2 ⟨Bool.and_eq_true_iff.2 ⟨beq_iff_eq.2 hst, beq_iff_eq.2 hphase⟩,
    bne_iff_ne.2 hn⟩, beq_iff_eq.2 hu⟩)

/-- What code formation leaves where word `w` is not present. -/
noncomputable def formed (e t : Nat) (u : State) : Option Nat → State
  | some w => modPend e (fun p => { p with underrun := some (t, w) }) u
  | none => u

theorem form20_formed {y : State} (hs : sampled y e = true) (hy : simTicks e t (modPend e (beforeEdge u) u) = y) :
    form20 e t u = formed e t u (missingWord u y e) := by
  subst hy
  exact if_pos hs

theorem formed_records : ∀ o, (∀ w, o = some w → ((formed e t u o).core e).pend = { (u.core e).pend with underrun := some (t, w) }) ∧
    (o = none → formed e t u o = u) ∧ ((formed e t u o).core e).play = (u.core e).play ∧ Only offEng e u (formed e t u o)
  | none => ⟨fun _ h => absurd h.symm (Option.some_ne_none _), fun _ => rfl, rfl, .refl⟩
  | some _ => ⟨fun _ h => Option.some.inj h ▸ pend_modPend .., fun h => absurd h (Option.some_ne_none _), play_modPend .., only_modCore _⟩

end

/-- Settles O19: the decision records what follows the pass, and forming a code records the word that it lacks. -/
theorem decisionsAndFormation : Obligations.DecisionsAndFormation := by
  refine ⟨?_, ?_⟩
  · intro t e s u d x hd hst hx hphase hn
    exact completes_event (beq_iff_eq.mpr hd) (decide24_ends hst rfl hx hphase hn)
      ⟨⟨_, recordEnd_decisions, fun j hj hq hen => decideEnd_jump hj (Nat.add_le_add_right hq 24) hen⟩,
        congrArg Prod.snd (keeps_recordEnd.2.trans (play_modPlay ..)),
        (congrArg Prod.fst (keeps_recordEnd.2.trans (play_modPlay ..))).trans hst,
        ((only_modCore _).trans keeps_recordEnd.1).engineOnly⟩
  · intro t e s u d y hd hy
    have h := formed_records (e := e) (t := d) (u := u) (missingWord u y e)
    exact completes_event (beq_iff_eq.mpr hd) (form20_formed hy rfl) ⟨h.1, h.2.1, h.2.2.1, h.2.2.2.engineOnly⟩

end Sys2Proof.Machine

/-! PROOFS. Late entries and index reads (R74, R147). -/

namespace Sys2Proof.Machine

theorem ite_split {α : Type} {P : α → Prop} {c : Prop} [Decidable c] {a b : α} (ha : c → P a) (hb : ¬ c → P b) : P (if c then a else b) :=
  (em c).elim (fun h => (if_pos h).symm ▸ ha h) fun h => (if_neg h).symm ▸ hb h

theorem ite_holds {α : Type} {P : α → Prop} {c : Prop} [Decidable c] {a b : α} (ha : P a) (hb : P b) : P (if c then a else b) :=
  ite_split (fun _ => ha) fun _ => hb

/-! ### What fetching leaves -/

/-- The parts of a state that no report changes, but for the engines. -/
noncomputable def offEngines (s : State) : Unnoticed := { unnoticed s with engines := [] }

/-- What fetching words and checking fills leave of an engine: all but its sources, and of these the indices and reads of LIVE segments. -/
noncomputable def EngCore.unfed (c : EngCore) : EngCore × Tbl Nat × Tbl Nat × Option Nat :=
  ({ c with src := EngCore.reset.src }, c.src.iw, c.src.rl, c.src.nextRead)

/-- From `s` to `s'` engine `e` has fetched words and checked its fills, and what `ρ` reads is what it was. -/
noncomputable def Feeds {α : Type} (ρ : State → α) (e : Nat) (s s' : State) : Prop := Only ρ e s s' ∧ (s'.core e).unfed = (s.core e).unfed

section

variable {α : Type} {ρ : State → α} {s s' s'' : State} {e n : Nat}

theorem Only.beside (h : Only offEng e s s') : Only offEngines e s s' := ⟨(congrArg offEngines h.1 :), h.2⟩

theorem Only.frame (h : Only offEngines e s s') : EngineFrame e s' s :=
  have part {α : Type} (f : Unnoticed → α) : f (offEngines s') = f (offEngines s) := congrArg f h.1
  ⟨h.2, part (·.clock), part (·.dict), part (·.lines), part (·.outs), part (·.cmps), part (·.senses), part (·.ring),
    part (·.store.segs), part (·.store.content), part (·.scratch), part (·.dram), part (·.cals), part (·.faults), part (·.power),
    part (·.rest.2.2), part (·.rest.2.1)⟩

theorem Feeds.refl : Feeds ρ e s s := ⟨.refl, rfl⟩

theorem Feeds.trans (h : Feeds ρ e s s') (g : Feeds ρ e s' s'') : Feeds ρ e s s'' := ⟨h.1.trans g.1, g.2.trans h.2⟩

theorem Feeds.beside (h : Feeds offEng e s s') : Feeds offEngines e s s' := ⟨h.1.beside, h.2⟩

theorem feeds_modSrc (f : EngSrc → EngSrc) (hf : ∀ x, ((f x).iw, (f x).rl, (f x).nextRead) = (x.iw, x.rl, x.nextRead)) :
    Feeds offEng e s (modSrc e f s) :=
  ⟨only_modCore _, (congrArg EngCore.unfed (core_modCore ..)).trans (congrArg (Prod.mk _) (hf _))⟩

theorem feeds_engineNotice (code cls : Nat) (params : List Nat) : Feeds offEngines e s (engineNotice code cls e params s) :=
  ⟨⟨congrArg (fun x => { x with engines := [] }) (unnoticed_engineNotice s code cls e params),
    fun x _ => congrFun (reported_engineNotice s code cls e params).engine x⟩,
    congrArg EngCore.unfed (congrFun (reported_engineNotice s code cls e params).core e)⟩

theorem feeds_copyLive : Feeds offEng e s (copyLive e n s) := by
  unfold copyLive
  refine ite_holds ?_ .refl
  extract_lets c
  cases copyWords s (s.seg n) (liveIw c n) (sourcePos s e % 2 ^ 32) 4096 c.src.copied c.src.chip
  exact feeds_modSrc _ fun _ => rfl

theorem feeds_panicCheck : Feeds offEng e s (panicCheck e s) := by
  unfold panicCheck
  exact feeds_modSrc _ fun _ => rfl

theorem feeds_lowCheck : Feeds offEngines e s (lowCheck e n s) := by
  unfold lowCheck
  exact ite_holds (feeds_modSrc _ (by exact fun _ => rfl)).beside
    (ite_holds ((feeds_modSrc _ (by exact fun _ => rfl)).beside.trans (feeds_engineNotice ..)) .refl)

theorem feeds_fillChecks : Feeds offEngines e s (fillChecks e s) := by
  unfold fillChecks
  cases sourceOf s e with
  | none => exact feeds_panicCheck.beside
  | some n => exact Feeds.trans (ite_holds feeds_lowCheck .refl) feeds_panicCheck.beside

/-- An engine that plays no source changes alone. -/
theorem feeds_fillChecks_none (h : sourceOf s e = none) : Feeds offEng e s (fillChecks e s) := by
  rw [fillChecks, h]
  exact feeds_panicCheck

/-! ### A late entry -/

theorem loop_setLoop (c : EngCore) (v : Nat) : ∀ k, (c.setLoop k v).loop k = v
  | 0 | 1 | 2 | _ + 3 => rfl

theorem setLoop_keeps (c : EngCore) (v : Nat) : ∀ k, ((c.setLoop k v).st, (c.setLoop k v).phase, (c.setLoop k v).play) = (c.st, c.phase, c.play)
  | 0 | 1 | 2 | _ + 3 => rfl

/-- The entry of the current step. -/
noncomputable def currentEntry (e : Nat) (s : State) : Entry := s.entry e (s.core e).play.step

/-- The loop counters that an entry loads (R80). -/
noncomputable def EngCore.loaded (en : Entry) (c : EngCore) : EngCore := if en.loopOp = 1 then c.setLoop en.loopSel en.loopValue else c

theorem loaded_keeps (en : Entry) (c : EngCore) : ((c.loaded en).st, (c.loaded en).phase, (c.loaded en).play) = (c.st, c.phase, c.play) :=
  ite_holds (P := fun x => (EngCore.st x, EngCore.phase x, EngCore.play x) = _) (setLoop_keeps ..) rfl

theorem loaded_loop {en : Entry} {c : EngCore} (h : en.loopOp = 1) : (c.loaded en).loop en.loopSel = en.loopValue :=
  (congrArg (fun c : EngCore => c.loop en.loopSel) (if_pos h)).trans (loop_setLoop ..)

/-- TAG, END_ACTION and the segment of entry `en` come into force. -/
noncomputable def EngPlay.began (en : Entry) (p : EngPlay) : EngPlay := { p with tag := en.tag, action := en.endAction, seg := some en.segment }

/-- An engine without its sources, once entry `en` has come into force. -/
noncomputable def EngCore.begun (en : Entry) (c : EngCore) : EngCore := { c with play := c.play.began en, src := EngCore.reset.src }

/-- An entry begins, and its words are fetched if it plays a LIVE segment whose RL is set. -/
theorem beginEntry_fetches (e : Nat) (s : State) : ∃ x, Only offEng e s x ∧ ((x.core e).unfed).1 = (s.core e).begun (currentEntry e s) ∧
    beginEntry e s = fillChecks e x := by
  unfold beginEntry
  extract_lets en n k e0 now s1
  have hlive : Feeds offEng e s1 (if (decide (k = 6) && (s1.core e).src.rlSet.contains n) = true then copyLive e n s1 else s1) :=
    ite_holds feeds_copyLive .refl
  exact ⟨_, (only_modCore _).trans hlive.1, (congrArg Prod.fst hlive.2).trans (congrArg (fun c => (EngCore.unfed c).1) (core_modCore ..)), rfl⟩

theorem beginEntry_core (e : Nat) (s : State) : (((beginEntry e s).core e).unfed).1 = (s.core e).begun (currentEntry e s) :=
  (beginEntry_fetches e s).elim fun _ h => h.2.2.symm ▸ (congrArg Prod.fst feeds_fillChecks.2).trans h.2.1

theorem beginEntry_beside (e : Nat) (s : State) : Only offEngines e s (beginEntry e s) :=
  (beginEntry_fetches e s).elim fun _ h => h.2.2.symm ▸ h.1.beside.trans feeds_fillChecks.1

theorem sourceOf_begun {x : State} (h : ((x.core e).unfed).1 = (s.core e).begun (currentEntry e s)) (hs : Only offEng e s x)
    (hk : sourceSeg s (currentEntry e s).segment = false) : sourceOf x e = none := by
  have hseg : (x.core e).play.seg = some (currentEntry e s).segment := congrArg (fun c => c.play.seg) h
  rw [sourceOf, hseg]
  exact if_neg (Bool.eq_false_iff.1 ((congrArg (fun y => sourceSeg y (currentEntry e s).segment) hs.1 :).trans hk))

/-- An entry that plays no source changes its engine alone. -/
theorem beginEntry_only (hk : sourceSeg s (currentEntry e s).segment = false) : Only offEng e s (beginEntry e s) :=
  (beginEntry_fetches e s).elim fun _ h => h.2.2.symm ▸ h.1.trans (feeds_fillChecks_none (sourceOf_begun h.2.1 h.1 hk)).1

/-- Entry `en` has been taken. -/
noncomputable def EngPlay.took (en : Entry) (p : EngPlay) : EngPlay := { p with entry := en, lateEntry := false }

/-- Loading loop counters leaves the current step. -/
theorem currentEntry_loaded (en : Entry) : currentEntry e (modCore e (EngCore.loaded en) s) = currentEntry e s :=
  congrArg (s.entry e) ((congrArg (fun c : EngCore => c.play.step) (core_modCore s e (EngCore.loaded en))).trans
    (congrArg (fun x : EState × Phase × EngPlay => x.2.2.step) (loaded_keeps en (s.core e))))

theorem takeEntry_beside (e : Nat) (s : State) : Only offEngines e s (takeEntry e s) :=
  (only_modCore _).beside.trans ((beginEntry_beside ..).trans (only_modCore _).beside)

theorem sourceSeg_modCore (f : EngCore → EngCore) (n : Nat) : sourceSeg (modCore e f s) n = sourceSeg s n := rfl

theorem takeEntry_only (hk : sourceSeg s (currentEntry e s).segment = false) : Only offEng e s (takeEntry e s) :=
  have hloaded : sourceSeg (modCore e (EngCore.loaded (currentEntry e s)) s) _ = false :=
    (sourceSeg_modCore ..).trans ((congrArg (fun en : Entry => sourceSeg s en.segment) (currentEntry_loaded (currentEntry e s))).trans hk)
  (only_modCore (EngCore.loaded (currentEntry e s))).trans ((beginEntry_only hloaded).trans (only_modCore _))

/-- After the second dead-time tick the first sample is next. -/
noncomputable def Phase.arrived (p : Phase) : Phase := if p == .dead 2 then .first else p

/-- What an engine whose awaited entry `en` has come holds, but for its sources. -/
noncomputable def EngCore.arrived (en : Entry) (c : EngCore) : EngCore :=
  { c with phase := c.phase.arrived, play := (c.play.began en).took en, src := EngCore.reset.src }

theorem entryArrives_core (e : Nat) (s : State) :
    (((entryArrives e s).core e).unfed).1 = ((s.core e).loaded (currentEntry e s)).arrived (currentEntry e s) :=
  have hbegun := (beginEntry_core e (modCore e (EngCore.loaded (currentEntry e s)) s)).trans
    (congr (congrArg EngCore.begun (currentEntry_loaded _)) (core_modCore s e _))
  (congrArg (fun c => (EngCore.unfed c).1) ((core_modCore (takeEntry e s) e _).trans (congrArg _ (core_modCore _ e _)))).trans
    (congrArg (fun c : EngCore => { c with phase := c.phase.arrived, play := c.play.took (currentEntry e s) }) hbegun :)

/-! ### An index read -/

/-- The first read after ARM sets RL (R148). -/
noncomputable def EngSrc.anew (n rl : Nat) (x : EngSrc) : EngSrc :=
  { holdLive n rl { x with chipSeg := none } with rl := tset n rl x.rl, rlSet := n :: x.rlSet, e0 := rl }

/-- The index word arrives, and the next read is set. -/
noncomputable def EngSrc.read (n iw : Nat) (x : EngSrc) : EngSrc := { x with iw := tset n iw x.iw, nextRead := x.nextRead.map (· + 32) }

/-- From `s` to `s'` an index read has returned `iw`, and the first after ARM has set RL to `rl`. -/
noncomputable def Indexed (e n iw rl : Nat) (s s' : State) : Prop := Only offEngines e s s' ∧
  ((s'.core e).src.iw, (s'.core e).src.nextRead) = (tset n iw (s.core e).src.iw, (s.core e).src.nextRead.map (· + 32)) ∧
  (n ∉ (s.core e).src.rlSet → (s'.core e).src.rl = tset n rl (s.core e).src.rl)

variable {iw rl : Nat}

theorem Indexed.feeds (h : Indexed e n iw rl s s') (g : Feeds offEngines e s' s'') : Indexed e n iw rl s s'' :=
  ⟨h.1.trans g.1, (congrArg (fun x => (x.2.1, x.2.2.2)) g.2).trans h.2.1, fun hn => (congrArg (fun x => x.2.2.1) g.2).trans (h.2.2 hn)⟩

theorem src_modSrc (g : EngSrc → EngSrc) : ((modSrc e g s).core e).src = g (s.core e).src :=
  congrArg EngCore.src (core_modCore s e fun c => { c with src := g c.src })

theorem indexed_read (hn : n ∈ (s.core e).src.rlSet) : Indexed e n iw rl s (modSrc e (EngSrc.read n iw) s) :=
  ⟨(only_modCore _).beside, congrArg (fun x : EngSrc => (x.iw, x.nextRead)) (src_modSrc _), fun h => absurd hn h⟩

theorem indexed_anew : Indexed e n iw rl s (modSrc e (EngSrc.anew n rl) (modSrc e (EngSrc.read n iw) s)) :=
  have h := (src_modSrc (s := modSrc e (EngSrc.read n iw) s) (EngSrc.anew n rl)).trans (congrArg (EngSrc.anew n rl) (src_modSrc (EngSrc.read n iw)))
  ⟨((only_modCore _).trans (only_modCore _)).beside, congrArg (fun x : EngSrc => (x.iw, x.nextRead)) h, fun _ => congrArg EngSrc.rl h⟩

theorem feeds_fetched : Feeds offEngines e s (fillChecks e (copyLive e n s)) := feeds_copyLive.beside.trans feeds_fillChecks

theorem feeds_overrun (c : Prop) [Decidable c] : Feeds offEngines e s
    (if c then engineNotice 0x0007 2 e [n, iw] (modSrc e (fun x => { x with overruns := sat32 (x.overruns + 1) }) s) else s) :=
  ite_holds ((feeds_modSrc _ (by exact fun _ => rfl)).beside.trans (feeds_engineNotice ..)) .refl

theorem readIndexWord_indexed (hl : (s.core e).src.latch = false) :
    Indexed e n (indexWord s (s.seg n)) (liveDiff (indexWord s (s.seg n)) (s.act (engIdx e 7) 7)) s (readIndexWord e n s) := by
  unfold readIndexWord
  extract_lets c g iw s1 rl s2 lost
  refine ite_split (P := Indexed e n iw rl s) (fun h => absurd h (Bool.eq_false_iff.1 hl)) fun _ =>
    ite_split (P := Indexed e n iw rl s) (fun _ => indexed_anew.feeds feeds_fetched) fun hn => ?_
  exact (indexed_read (by simpa using hn)).feeds ((feeds_overrun (lost = true)).trans feeds_fetched)

theorem liveIndexRead_next {t m : Nat} {e : Fin 64} (hn : liveRead (reach t s) e = some n)
    (hg : liveGrant (reach t s) e n = true) (hm : ((reach t s).core e).src.nextRead = some m) (hle : m ≤ (reach t s).now)
    (hlt : (reach t s).now ≤ m + 12) : exec (.liveIndexRead t e) s = .next (readIndexWord e n (reach t s)) := by
  refine congrArg Host.Outcome.next ?_
  beta_reduce
  rw [hn, hm]
  exact if_pos (Bool.and_eq_true_iff.2 ⟨Bool.and_eq_true_iff.2 ⟨hg, decide_eq_true hle⟩, decide_eq_true hlt⟩)

end

/-- Settles O20: an entry that arrives is taken as at the first dead-time tick, and an index read that returns brings IW and, at the first entry
after ARM, RL. -/
theorem lateEntriesAndIndexReads : Obligations.LateEntriesAndIndexReads := by
  refine ⟨?_, ?_, ?_⟩
  · intro t e s u en hlate hst
    refine completes_event (Bool.and_eq_true_iff.mpr ⟨hlate, beq_iff_eq.mpr hst⟩) rfl ?_
    have h := entryArrives_core e u
    have hframe : Only offEngines e u (entryArrives e u) := (takeEntry_beside e u).trans (only_modCore _).beside
    have honly (hk : sourceSeg u en.segment = false) : Only offEng e u (entryArrives e u) := (takeEntry_only hk).trans (only_modCore _)
    generalize entryArrives e u = s' at h hframe honly
    exact ⟨congrArg (·.play.lateEntry) h, congrArg (·.play.entry) h, congrArg (·.play.tag) h, congrArg (·.play.seg) h,
      fun hop => (congrArg (·.loop en.loopSel) h).trans (loaded_loop hop),
      fun hp => (congrArg (·.phase) h).trans ((congrArg (fun x => x.2.1.arrived) (loaded_keeps ..)).trans (if_pos (beq_iff_eq.2 hp))),
      (congrArg (·.st) h).trans ((congrArg (·.1) (loaded_keeps ..)).trans hst), fun hk => (honly hk).engineOnly, hframe.frame⟩
  · intro t e s u h
    exact congrArg Host.Outcome.next (occurs_false _ _ _ (Bool.and_eq_false_iff.mpr (h.imp_right beq_eq_false_iff_ne.mpr)))
  · intro t e m n s u g hn hg hm hle hlt hl
    refine completes_next (liveIndexRead_next hn hg hm hle hlt) ?_
    have h := readIndexWord_indexed (n := n) hl
    generalize readIndexWord e n u = s' at h
    have hiw : tget 0 n (s'.core e).src.iw = _ := (congrArg (tget 0 n ·.1) h.2.1).trans (tget_tset_same ..)
    exact ⟨hiw, (congrArg Prod.snd h.2.1).trans (congrArg (Option.map (· + 32)) hm),
      fun hr => (congrArg (tget 0 n) (h.2.2 hr)).trans ((tget_tset_same ..).trans (congrArg (liveDiff · _) hiw.symm)), h.1.2,
      congrArg Unnoticed.scratch h.1.1, congrArg Unnoticed.store h.1.1⟩

end Sys2Proof.Machine

/-! PROOFS. Commits: the request and the end of its check (R328 to R332). -/

namespace Sys2Proof.Machine

section

variable {s : State} {t : Nat}

/-! ### COMMIT_REQ (R328) -/

theorem ofDevice_commitReqCodes (v : Nat) : OfDevice (commitReqCodes v) := fun _ w h => congrArg (fun d => commitReqCodes v { w with dev := d }) h

/-- A request of a commit of this module alone has been taken. -/
noncomputable def asked (v : Nat) (s : State) : State := startCommitCheck v (s.rwv 0x2102 0) (modRingCommit (fun c => { c with coordinator := false }) s)

theorem ofDevice_asked (v : Nat) : OfDevice fun s => (asked v s).dev := fun _ w h => congrArg (fun d => (asked v { w with dev := d }).dev) h

theorem commitReqCodes_lowest {v : Nat} {b : Bool} (hv : v < 4) (hb : (s.dev.dict.commit.st != 0 || s.dev.ring.commit.readySent) = b) :
    lowest (commitReqCodes v s) = failIf b 0x06030000 :=
  (congr (congrArg (fun n b => lowest [failIf (n != 0) 0x03830000, failIf b 0x06030000])
    ((by decide : ∀ v : Fin 4, bits v.val 31 2 = 0) ⟨v, hv⟩)) hb).trans (b.rec rfl rfl)

theorem commitReq_accepted {r : Req} {v : Nat} (hn : NewRequest s r) (hw : MayWrite s r 0x2100) (hv : v < 4)
    (hb : (s.dev.dict.commit.st != 0 || s.dev.ring.commit.readySent) = false) (hmask : s.rwv 0x2021 1 = 0) {s' : State}
    (h : command r 0x2100 (commitReqCodes v) (commitReq v) s = s') : Answers s' r 0 ∧ s'.dev = (asked v s).dev := by
  obtain rfl := (command_new hn hw (ofDevice_commitReqCodes v)).symm.trans h
  rw [commitReqCodes_lowest hv hb]
  exact ⟨⟨_, respond_last .., rfl, rfl, rfl⟩, (congrArg State.dev (if_pos ((congrArg (fun d => State.rwv { s with dev := d } _ _) (frameArrives_dev ..)).trans
    hmask))).trans ((congrArg (fun n => (asked n _).dev) (Nat.mod_eq_of_lt hv)).trans (ofDevice_asked v _ _ (frameArrives_dev ..)))⟩

/-! ### The end of the check (R330) -/

theorem ite_eq {α β : Type} {g : α → β} {y : β} {c : Prop} [Decidable c] {a b : α} (ha : g a = y) (hb : g b = y) :
    g (if c then a else b) = y := ite_holds (P := fun x => g x = y) ha hb

theorem standingOf_enqueue (k j : Nat) (n : Notice) : standingOf ((enqueue k n s).session j) = standingOf (s.session j) := by
  unfold enqueue
  extract_lets x low
  refine ite_eq (g := fun v => standingOf (State.session v j))
    (ite_eq (g := fun v => standingOf (State.session v j)) ((standingOf_pump ..).trans (standingOf_modSession s k j _ rfl)) ?_) rfl
  cases worstUnsent n.cls x.notices with
  | some c => exact (standingOf_pump ..).trans (standingOf_modSession low k j _ rfl)
  | none => exact standingOf_modSession low k j _ rfl

/-- The first open session of the harbourmaster's role, from what each session stands for. -/
noncomputable def firstHm (f : Nat → Bool × Nat × Nat) : Nat := ([1, 2, 3, 4, 5, 6, 7, 8].find? fun k => (f k).1 && (f k).2.1 == 1).getD 0

theorem harbourmaster_eq (s : State) : harbourmaster s = firstHm fun j => standingOf (s.session j) := rfl

theorem harbourmaster_notice (code cls kind source : Nat) (params : List Nat) :
    harbourmaster (notice code cls kind source params s) = harbourmaster s := by
  rw [harbourmaster_eq, harbourmaster_eq]
  exact congrArg firstHm (forAll_proj s (fun s j => standingOf (s.session j)) _ _ fun k s => funext fun j => standingOf_enqueue k j _)

/-- What an operation on the scratchpad leaves. -/
noncomputable def apartScratch (s : State) : Dict × Tbl Engine := (s.dev.dict, s.dev.engines)

theorem apart_modScratch (f : Scratch → Scratch) : apartScratch (modScratch f s) = apartScratch s := rfl

theorem endRun_preserving {r : March} (hr : r.destructive = false) (k : Nat) : apartScratch (endRun r k s) = apartScratch s :=
  (congrArg apartScratch (if_neg (Bool.eq_false_iff.mp hr)) :).trans (apart_modScratch _)

theorem endBarredRun_leaves : apartScratch (endBarredRun s) = apartScratch s := by
  unfold endBarredRun
  cases s.dev.scratch.march with
  | none => rfl
  | some r =>
    dsimp only
    cases hr : r.destructive with
    | true => rfl
    | false => exact ite_eq ((endRun_preserving hr 10).trans (ite_eq (apart_modScratch _) rfl)) rfl

/-! ### The end of the check -/

/-- What a check that has run records, whatever it finds. -/
noncomputable def checked (r : CheckResult) (s : State) : State :=
  modCommit (fun c => { c with duration := s.now - c.reqAt, demand := r.demand, cycle := r.cycle }) s

/-- The state of commits, the active copies and the engines: what giving up a staged change leaves. -/
noncomputable def forceOf (x : Dict × Tbl Engine) : Commit × Tbl Nat × Mem × Tbl Engine := (x.1.commit, x.1.active, x.1.stepsActive, x.2)

noncomputable def inForce (s : State) : Commit × Tbl Nat × Mem × Tbl Engine := forceOf (apartScratch s)

theorem inForce_unnoticed (s : State) : inForce s = forceOf ((unnoticed s).dict, (unnoticed s).engines) := rfl

/-- A failing code ends the check. -/
noncomputable def failed (f : Fail) : State → State := modCommit fun c => { c with st := 0, result := f.code, failObj := f.obj, stepCheck := f.step }

theorem inForce_discardStaged : inForce (discardStaged s) = inForce s := rfl

theorem checkFails_eq (f : Fail) : checkFails f s =
    if harbourmaster (notice 0x000A 3 0 0 [f.code, f.obj] (failed f s)) = 0 then discardStaged (notice 0x000A 3 0 0 [f.code, f.obj] (failed f s))
    else notice 0x000A 3 0 0 [f.code, f.obj] (failed f s) := by
  rw [checkFails, failed]

theorem checkFails_inForce (f : Fail) : inForce (checkFails f s) = inForce (failed f s) :=
  have h : inForce (notice 0x000A 3 0 0 [f.code, f.obj] (failed f s)) = inForce (failed f s) :=
    (inForce_unnoticed _).trans ((congrArg (fun x : Unnoticed => forceOf (x.dict, x.engines)) (unnoticed_notice ..)).trans (inForce_unnoticed _).symm)
  (congrArg inForce (checkFails_eq f)).trans (ite_eq (inForce_discardStaged.trans h) h)

/-- With a harbourmaster the staged change stays (R330). -/
theorem checkFails_keeps (f : Fail) (h : harbourmaster s ≠ 0) : (checkFails f s).dev.dict = (failed f s).dev.dict :=
  have hm : ¬ harbourmaster (notice 0x000A 3 0 0 [f.code, f.obj] (failed f s)) = 0 := 
    fun h0 => h ((harbourmaster_notice (s := failed f s) ..).symm.trans h0)
  (congrArg (fun s : State => s.dev.dict) ((checkFails_eq f).trans (if_neg hm))).trans (reported_notice ..).dict

/-- The check has found nothing: what it records of a commit that refills `targets` and is to apply at `tick`. -/
noncomputable def passed (targets : List (Nat × Nat)) (tick : Nat) (s : State) : State :=
  modCommit (fun c => { c with
    st := 2, result := 0, failObj := noObj, stepCheck := noObj, okAt := s.now, tickN := tick, earliest := earliestEdge s targets.length,
    refills := targets ++ c.refills.filter (!targets.contains ·), blocked := targets ++ c.refills.filter (!targets.contains ·) }) s

theorem checkPasses_inForce (targets : List (Nat × Nat)) (tick : Nat) : inForce (checkPasses targets tick s) = inForce (passed targets tick s) :=
  congrArg forceOf (by rw [checkPasses, endBarredRun_leaves, passed])

theorem active_checked (r : CheckResult) : (inForce (checked r s)).2 = (inForce s).2 := rfl

/-- How the check of a commit of this module alone ends. -/
theorem commitCheckDone_elim (hc : s.dev.ring.commit.coordinator = false) (hr : s.dev.ring.commit.st = 0) {r : CheckResult}
    (hrun : runCheck s (tickFails s (refillTargets s).length) = r) : commitCheckDone s =
      r.fail.elim (checkPasses (refillTargets s) (commitTickOf s (refillTargets s).length) (checked r s)) (checkFails · (checked r s)) := by
  subst hrun
  unfold commitCheckDone
  extract_lets ring inRing targets more tick r
  have hin : inRing = false := Bool.or_eq_false_iff.2 ⟨hc, congrArg (· == 1) hr⟩
  clear_value inRing
  subst hin
  change _ = Option.elim r.fail _ _
  cases r.fail with
  | some f => exact (if_pos rfl).trans (Option.elim_some _ (checkFails · (checked r s)) f).symm
  | none => exact (if_pos rfl).trans (Option.elim_none _ (checkFails · (checked r s))).symm

theorem commitCheckDone_fails (hc : s.dev.ring.commit.coordinator = false) (hr : s.dev.ring.commit.st = 0) {r : CheckResult}
    (hrun : runCheck s (tickFails s (refillTargets s).length) = r) {f : Fail} (hf : r.fail = some f) :
    commitCheckDone s = checkFails f (checked r s) :=
  (commitCheckDone_elim hc hr hrun).trans ((congrArg (Option.elim · _ _) hf).trans (Option.elim_some ..))

theorem commitCheckDone_passes (hc : s.dev.ring.commit.coordinator = false) (hr : s.dev.ring.commit.st = 0) {r : CheckResult}
    (hrun : runCheck s (tickFails s (refillTargets s).length) = r) (hf : r.fail = none) :
    commitCheckDone s = checkPasses (refillTargets s) (commitTickOf s (refillTargets s).length) (checked r s) :=
  (commitCheckDone_elim hc hr hrun).trans ((congrArg (Option.elim · _ _) hf).trans (Option.elim_none ..))

/-- Whatever the check finds, the active copies and the engines stay. -/
theorem commitCheckDone_active (hc : s.dev.ring.commit.coordinator = false) (hr : s.dev.ring.commit.st = 0) :
    (inForce (commitCheckDone s)).2 = (inForce s).2 := by
  have hx := active_checked (s := s) (runCheck s (tickFails s (refillTargets s).length))
  cases hf : (runCheck s (tickFails s (refillTargets s).length)).fail with
  | some f => exact (congrArg (fun s => (inForce s).2) (commitCheckDone_fails hc hr rfl hf)).trans ((congrArg Prod.snd (checkFails_inForce f)).trans hx)
  | none => exact (congrArg (fun s => (inForce s).2) (commitCheckDone_passes hc hr rfl hf)).trans ((congrArg Prod.snd (checkPasses_inForce ..)).trans hx)

/-! ### PILOT_REFILL_DONE (R90) -/

/-- The refill of target `k` of engine `e` has ended. -/
noncomputable def refillEnds (e k : Nat) : State → State := modCommit fun c => { c with
  refills := c.refills.filter (· != (e, k)), blocked := if c.st = 2 then c.blocked else c.blocked.filter (· != (e, k)) }

theorem ringDecide_idle (h : s.dev.ring.commit.st = 0) : ringDecide (sendReady s) = s :=
  have hst (b : Bool) : ¬ (b && s.dev.ring.commit.st == 1) = true := fun hb =>
    Nat.zero_ne_one (h.symm.trans (beq_iff_eq.1 (Bool.and_eq_true_iff.1 hb).2))
  (congrArg ringDecide (if_neg fun hr => hst _ (Bool.and_eq_true_iff.1 (Bool.and_eq_true_iff.1 hr).1).1)).trans
    (if_neg fun hr => hst _ (Bool.and_eq_true_iff.1 (Bool.and_eq_true_iff.1 (Bool.and_eq_true_iff.1 hr).1).1).1)

theorem not_mem_filter_bne (x : Nat × Nat) (l : List (Nat × Nat)) : ¬ x ∈ l.filter (· != x) := fun h =>
  bne_iff_ne.1 (List.mem_filter.mp h).2 rfl

theorem refillEnds_blocked (e k : Nat) (h : s.dev.dict.commit.st ≠ 2) : (e, k) ∉ (refillEnds e k s).dev.dict.commit.blocked := by
  have hb : (refillEnds e k s).dev.dict.commit.blocked = s.dev.dict.commit.blocked.filter (· != (e, k)) := if_neg h
  exact hb ▸ not_mem_filter_bne (e, k) _

theorem pilotRefillDone_next {e : Fin 64} {k : Fin 16} (hr : (advance t s).dev.ring.commit.st = 0) :
    ∃ f, exec (.pilotRefillDone t e k) s = .next (refillEnds e k (modScratch f (advance t s))) :=
  have hdone (v : State) (hv : v.dev.ring.commit.st = 0) : ringDecide (sendReady (refillEnds e k v)) = refillEnds e k v := ringDecide_idle hv
  (em ((advance t s).dev.dict.commit.refills.contains (e.val, k.val) = true)).elim
    (fun hc => ⟨_, congrArg Host.Outcome.next ((congrArg (fun v => ringDecide (sendReady (refillEnds e k v))) (if_pos hc)).trans (hdone _ hr))⟩)
    fun hc => ⟨id, congrArg Host.Outcome.next ((congrArg (fun v => ringDecide (sendReady (refillEnds e k v))) (if_neg hc)).trans (hdone _ hr))⟩

end

/-- Settles O38: the request begins the check, the check's end records what it found, and a refill that ends serves its target again. -/
theorem commitChecks : Obligations.CommitChecks := by
  refine ⟨?_, ?_, ?_⟩
  · intro t r v s u hn hw hv
    refine ⟨fun hst hsent hmask => ?_, fun hst => ?_⟩
    · refine completes_atEdge ?_
      have h := commitReq_accepted hn hw hv (congr (congrArg (fun a b => a != 0 || b) hst) hsent) hmask rfl
      exact ⟨h.1, (congrArg Device.dict h.2 :), (congrArg Device.engines h.2 :), (congrArg Device.store h.2 :)⟩
    · exact completes_atEdge (command_refused (c := 0x06030000) hn hw (ofDevice_commitReqCodes v)
        (commitReqCodes_lowest hv (hst.elim (congrArg (· != 0 || _)) (congrArg (· != 0 || _)))) (by decide) rfl)
  · intro t s u check hst hcoord hring
    refine completes_event (beq_iff_eq.mpr hst) rfl ?_
    have hf {f : Fail} (h : check.fail = some f) := (congrArg inForce (commitCheckDone_fails hcoord hring rfl h)).trans (checkFails_inForce f)
    have hk {f : Fail} (h : check.fail = some f) (hm : harbourmaster u ≠ 0) := (congrArg (fun s : State => s.dev.dict)
      (commitCheckDone_fails hcoord hring rfl h)).trans (checkFails_keeps f hm)
    have hp (h : check.fail = none) := (congrArg inForce (commitCheckDone_passes hcoord hring rfl h)).trans (checkPasses_inForce ..)
    have ha := commitCheckDone_active hcoord hring
    generalize commitCheckDone u = s' at hf hk hp ha
    exact ⟨fun f h => ⟨(congrArg (·.1.st) (hf h) :), (congrArg (·.1.result) (hf h) :), (congrArg (·.1.failObj) (hf h) :), (congrArg (·.1.stepCheck) (hf h) :),
        fun hm => ⟨(congrArg Dict.staged (hk h hm) :), (congrArg Dict.changed (hk h hm) :), (congrArg Dict.stepsStaged (hk h hm) :),
          (congrArg Dict.stepChanged (hk h hm) :)⟩⟩,
      fun h => ⟨(congrArg (·.1.st) (hp h) :), (congrArg (·.1.result) (hp h) :), (congrArg (·.1.okAt) (hp h) :), (congrArg (·.1.tickN) (hp h) :),
        fun x hx => ⟨(congrArg (·.1.refills) (hp h) :).symm ▸ List.mem_append_left _ hx, (congrArg (·.1.blocked) (hp h) :).symm ▸ List.mem_append_left _ hx⟩⟩,
      (congrArg Prod.fst ha :), (congrArg (fun x => x.2.1) ha :), (congrArg (fun x => x.2.2) ha :)⟩
  · intro t e k s u hring
    exact (pilotRefillDone_next hring).elim fun f h => completes_next h
      ⟨not_mem_filter_bne _ _, fun h => refillEnds_blocked _ _ h, fun h => if_pos h, rfl, rfl, rfl⟩

end Sys2Proof.Machine

/-! PROOFS. ENGINE_CMD: what is refused and what waits (R102, R106). -/

namespace Sys2Proof.Machine

variable {s s' : State} {r : Req} {e k hi h : Nat}

/-! ### What an ENGINE_CMD is checked for (R102, R106) -/

theorem engineState_lt : engineState s e < 8 :=
  ite_holds (P := (· < 8)) (Nat.lt_of_succ_lt (Nat.lt_succ_self 7)) <|
    Nat.le_of_ble_eq_true ((s.core e).st.casesOn rfl rfl rfl rfl rfl rfl rfl rfl)

theorem engineState_takeover (h : (s.engine e).takeover ≠ none) : engineState s e = 6 := if_pos (Option.isSome_iff_ne_none.2 h)

/-- With no takeover the state alone permits a command. -/
theorem commandStateOk_settled {p : Bool} (ht : (s.engine e).takeover = none) (hp : p = true)
    (hok : commandStateOk s e k = (!(s.engine e).takeover.isSome && p)) : commandStateOk s e k = true :=
  hok.trans ((congrArg (fun x : Option Takeover => !x.isSome && p) ht).trans hp)

theorem commandStateOk_false {p : Bool} (h : (s.engine e).takeover ≠ none ∨ p = false)
    (hok : commandStateOk s e k = (!(s.engine e).takeover.isSome && p)) : commandStateOk s e k = false :=
  h.elim (fun ht => hok.trans (congrArg (fun b => !b && p) (Option.isSome_iff_ne_none.2 ht)))
    fun hp => hok.trans ((congrArg _ hp).trans (Bool.and_false _))

/-- What the checks of a command find: its fields, the engine's state, a configuration to arm, a step to resume at. -/
noncomputable def foundCodes (state : Nat) (fields ok conf size reach : Bool) : List Nat :=
  [failIf fields 0x03830000, failIf (!ok) (0x06100000 + state), failIf conf 0x06110000, failIf size 0x03100000, failIf reach 0x03120000]

theorem engineCmdCodes_found {fields ok conf size reach : Bool} (hfields : (bits hi 23 19 != 0 || (k != 4 && hi != 0)) = fields)
    (hok : commandStateOk s e k = ok) (hconf : (k == 1 && !configured s e) = conf)
    (hsize : (k == 4 && partSize s.dev.dict.active e ≤ bits hi 18 0) = size) (hreach : (k == 4 && !reachable s e (bits hi 18 0)) = reach) :
    engineCmdCodes e k hi s = foundCodes (engineState s e) fields ok conf size reach :=
  congr (congr (congr (congr (congrArg (foundCodes (engineState s e)) hfields) hok) hconf) hsize) hreach

/-- The code of the state is below that of a configuration that is missing. -/
theorem lowest_state : ∀ (st : Fin 8) (c : Bool), lowest (foundCodes st false false c false false) = 0x06100000 + st := by decide

/-- The refusal of a session that is not the harbourmaster's is the lowest there is. -/
theorem lowest_stranger : ∀ (a b c d f : Bool) (st : Fin 8), lowest (0x02010000 :: 0 :: 0 :: foundCodes st a b c d f) = 0x02010000 := by decide

/-! ### Refusals -/

theorem ofDevice_engineCmdCodes (e k hi : Nat) : OfDevice (engineCmdCodes e k hi) := fun _ w h =>
  congrArg (fun d => engineCmdCodes e k hi { w with dev := d }) h

theorem hmCodes_stranger {v : State} (hdev : v.dev = s.dev) (hhm : isHm v r.sess = false) (hview : r.view = none) (hmoor : mooring s = false) (i : Nat) :
    hmCodes r i v = [0x02010000, 0, 0] :=
  have hm : mooring v = false := (congrArg (fun d : Device => d.power.phase == .mooring) hdev :).trans hmoor
  congr (congr (congrArg (fun b c (x : Option (Fin 4)) => [failIf (!b) 0x02010000, failIf (c && !inMooringDict i) 0x02060000, failIf x.isSome 0x02090000])
    hhm) hm) hview

theorem execute_answers_code {codes : State → List Nat} {eff : State → State} {data : State → List Byte} {c : Nat} (hc : lowest (codes s) = c) (h0 : c ≠ 0)
    (hs : execute r codes eff data s = s') : Answers s' r c ∧ s'.dev = s.dev := by
  subst hc
  obtain rfl := (execute_refused s r codes eff data h0).symm.trans hs
  exact ⟨⟨_, respond_last .., rfl, rfl, rfl⟩, rfl⟩

theorem engineCmd_stranger (hn : NewRequest s r) (hhm : isHm s r.sess = false) (hview : r.view = none) (hmoor : mooring s = false)
    (hs : engineCmd r e k 0 s = s') : Answers s' r 0x02010000 ∧ s'.dev = s.dev := by
  have hdev := frameArrives_dev (s := s) r.sess r.port
  have hlow : lowest (hmCodes r (engIdx e 0) (frameArrives r.sess r.port s) ++ engineCmdCodes e k 0 (frameArrives r.sess r.port s)) = 0x02010000 :=
    (congrArg (fun l => lowest (l ++ _)) (hmCodes_stranger hdev ((isHm_frameArrives ..).trans hhm) hview hmoor _)).trans
      ((congrArg (fun l => lowest ([0x02010000, 0, 0] ++ l)) (engineCmdCodes_found rfl rfl rfl rfl rfl)).trans
        (lowest_stranger _ _ _ _ _ ⟨_, engineState_lt⟩))
  exact (execute_answers_code hlow (Nat.succ_ne_zero _) ((requestRun_new _ hn).symm.trans hs)).imp_right (·.trans hdev)

theorem engineCmd_refused (hn : NewRequest s r) (hhm : isHm s r.sess = true) (hview : r.view = none) (hmoor : mooring s = false)
    (hok : commandStateOk s e k = false) (hsize : (k == 4 && partSize s.dev.dict.active e ≤ bits 0 18 0) = false)
    (hreach : (k == 4 && !reachable s e (bits 0 18 0)) = false) (hs : engineCmd r e k 0 s = s') :
    Answers s' r (0x06100000 + engineState s e) ∧ s'.dev = s.dev ∧ ((s.engine e).takeover ≠ none → engineState s e = 6) :=
  have h := command_refused hn ⟨hhm, hview, fun hm => absurd (hmoor.symm.trans hm) Bool.false_ne_true⟩ (ofDevice_engineCmdCodes e k 0)
    ((congrArg lowest (engineCmdCodes_found (hi := 0) (k := k) (Bool.and_false _) hok rfl hsize hreach)).trans (lowest_state ⟨_, engineState_lt⟩ _))
    (Nat.ne_of_gt (Nat.add_pos_left (Nat.succ_pos _) _)) hs
  ⟨h.1, h.2, engineState_takeover⟩

theorem outside {c x : EState} {p : Prop} (h : c ≠ x ∨ p) : p ∨ (c == x) = false := h.symm.imp_right beq_false_of_ne

/-- Settles O13: the state of the engine or the session refuses the command, and the device keeps what it holds. -/
theorem engineCommandsRefused : Obligations.EngineCommandsRefused := by
  intro t r e s u st away refused stranger hn hview hmoor
  exact ⟨fun hhm => ⟨
    fun h => ⟨completes_atEdge (engineCmd_refused (k := 2) hn hhm hview hmoor (commandStateOk_false (outside h) rfl) rfl rfl rfl),
      completes_atEdge (engineCmd_refused (k := 5) hn hhm hview hmoor (commandStateOk_false (outside h) rfl) rfl rfl rfl)⟩,
    fun h => completes_atEdge (engineCmd_refused (k := 3) hn hhm hview hmoor (commandStateOk_false h.symm rfl) rfl rfl rfl),
    fun h => completes_atEdge (engineCmd_refused (k := 6) hn hhm hview hmoor (commandStateOk_false (outside h) rfl) rfl rfl rfl),
    fun h hreach hsize => completes_atEdge (engineCmd_refused (k := 4) hn hhm hview hmoor (commandStateOk_false (.inl h) rfl)
      (decide_eq_false (Nat.not_le.2 hsize)) (congrArg (!·) hreach) rfl),
    fun h => completes_atEdge (engineCmd_refused (k := 1) hn hhm hview hmoor (commandStateOk_false (h.imp_right fun h =>
      Bool.or_eq_false_iff.2 ⟨beq_false_of_ne h.1, beq_false_of_ne h.2⟩) rfl) rfl rfl rfl)⟩,
    fun hhm => ⟨completes_atEdge (engineCmd_stranger (k := 1) hn hhm hview hmoor rfl), completes_atEdge (engineCmd_stranger (k := 2) hn hhm hview hmoor rfl),
      completes_atEdge (engineCmd_stranger (k := 3) hn hhm hview hmoor rfl), completes_atEdge (engineCmd_stranger (k := 4) hn hhm hview hmoor rfl),
      completes_atEdge (engineCmd_stranger (k := 5) hn hhm hview hmoor rfl), completes_atEdge (engineCmd_stranger (k := 6) hn hhm hview hmoor rfl)⟩⟩

/-! ### Acceptance -/

/-- The first tick of an engine on a 1 µs boundary (R102). -/
theorem usTick_spec (e n : Nat) : n ≤ s.usTick e n ∧ s.usTick e n % 400 = 0 ∧ s.usTick e n % s.gridE e = 0 :=
  have h := alignUp_spec (Nat.lcm_pos (Nat.succ_pos 399) (gridE_pos s e)) n
  have hdvd := Nat.dvd_of_mod_eq_zero h.2.2
  ⟨h.1, Nat.mod_eq_zero_of_dvd ((Nat.dvd_lcm_left ..).trans hdvd), Nat.mod_eq_zero_of_dvd ((Nat.dvd_lcm_right ..).trans hdvd)⟩

theorem dropLatch_latch (x : EngSrc) : (dropLatch x).latch = false :=
  ite_split (P := fun x : EngSrc => x.latch = false) (fun _ => rfl) Bool.eq_false_iff.2

theorem core_logged (e j : Nat) (f : EngPend → EngPend) :
    (logEvent e j (modPend e f s)).core e = { s.core e with pend := f (s.core e).pend } :=
  (congrArg Engine.core (modEngine_engine ..)).trans (core_modPend ..)

/-- What the engine records of a command accepted in `s` (R102). -/
noncomputable def acceptedCmd (s : State) (e k hi : Nat) : EngCmd :=
  { cmd := k, step := bits hi 18 0, tick := s.usTick e (s.now + 16), from_ := s.now + 16, viaLatch := (s.core e).src.latch }

/-- Command `c` joins those of the engine, and the history records it. -/
noncomputable def addCmd (e : Nat) (c : EngCmd) (s : State) : State :=
  logEvent e (16 + c.cmd) (modPend e (fun p => { p with cmds := p.cmds ++ [c] }) s)

theorem acceptCommand_eq (e k hi : Nat) : acceptCommand e k hi s =
    if k = 4 then modSrc e dropLatch (addCmd e (acceptedCmd s e k hi) s) else addCmd e (acceptedCmd s e k hi) s := rfl

theorem ofDevice_acceptCommand (e k hi : Nat) : OfDevice fun s => (acceptCommand e k hi s).dev := fun s w h =>
  have hdev (v : State) : (acceptCommand e k hi v).dev =
      if k = 4 then (modSrc e dropLatch (addCmd e (acceptedCmd v e k hi) v)).dev else (addCmd e (acceptedCmd v e k hi) v).dev := apply_ite State.dev ..
  (hdev w).trans ((congrArg (fun d => if k = 4 then (modSrc e dropLatch (addCmd e (acceptedCmd { w with dev := d } e k hi) { w with dev := d })).dev
    else (addCmd e (acceptedCmd { w with dev := d } e k hi) { w with dev := d }).dev) h).trans (hdev s).symm)

/-- Command `k` for step `h` waits for its tick, and beside the engine's requests and history only its underrun latch may have changed (R102, R161). -/
noncomputable def Awaits (s : State) (e k h : Nat) (s' : State) : Prop :=
  (∃ c : EngCmd, (s'.core e).pend.cmds = (s.core e).pend.cmds ++ [c] ∧ c.cmd = k ∧ c.step = h ∧ s.now + 16 ≤ c.tick ∧ c.tick % 400 = 0 ∧
    c.tick % s.gridE e = 0) ∧
  (s'.core e).st = (s.core e).st ∧ (s'.core e).play = (s.core e).play ∧ (s'.core e).vals = (s.core e).vals ∧
  (s'.core e).src.latch = (if k = 4 then false else (s.core e).src.latch) ∧ s'.dev = { s.dev with engines := s'.dev.engines } ∧
  ∀ j, j ≠ e → s'.engine j = s.engine j

/-- What of an engine an accepted command leaves but for its requests. -/
noncomputable def EngCore.told (c : EngCore) : List EngCmd × EState × EngPlay × EngVals := (c.pend.cmds, c.st, c.play, c.vals)

theorem acceptCommand_told : ((acceptCommand e k hi s).core e).told =
    ((s.core e).pend.cmds ++ [acceptedCmd s e k hi], (s.core e).st, (s.core e).play, (s.core e).vals) :=
  have h := congrArg EngCore.told (core_logged (s := s) e (16 + k) fun p => { p with cmds := p.cmds ++ [acceptedCmd s e k hi] })
  (congrArg (fun x : State => (x.core e).told) (acceptCommand_eq e k hi)).trans
    (ite_eq (g := fun x : State => (x.core e).told) ((congrArg EngCore.told (core_modCore ..)).trans h) h)

theorem acceptCommand_latch : ((acceptCommand e k hi s).core e).src.latch = if k = 4 then false else (s.core e).src.latch :=
  (congrArg (fun x : State => (x.core e).src.latch) (acceptCommand_eq e k hi)).trans
    ((apply_ite (fun x : State => (x.core e).src.latch) ..).trans (congr (congrArg (fun a b : Bool => if k = 4 then a else b)
      ((congrArg (fun c => c.src.latch) (core_modCore _ e _)).trans (dropLatch_latch _)))
      (congrArg (fun c => c.src.latch) (core_logged e (16 + k) _))))

theorem only_logEvent (j : Nat) : Only offEng e s (logEvent e j s) := by
  unfold logEvent
  exact only_modEngine rfl

theorem acceptCommand_only : Only offEng e s (acceptCommand e k hi s) :=
  have h : Only offEng e s (addCmd e (acceptedCmd s e k hi) s) :=
    Only.trans (s' := modPend e (fun p => { p with cmds := p.cmds ++ [acceptedCmd s e k hi] }) s) (only_modCore _) (only_logEvent _)
  ite_holds (P := Only offEng e s) (h.trans (only_modCore _)) h

theorem acceptCommand_awaits (hh : bits hi 18 0 = h) : Awaits s e k h (acceptCommand e k hi s) :=
  have ht := acceptCommand_told (s := s) (e := e) (k := k) (hi := hi)
  ⟨⟨_, congrArg (·.1) ht, rfl, hh, usTick_spec e _⟩, congrArg (·.2.1) ht, congrArg (·.2.2.1) ht, congrArg (·.2.2.2) ht, acceptCommand_latch,
    acceptCommand_only.engineOnly.1, acceptCommand_only.2⟩

/-- An accepted command is answered with 0 and waits for its tick (R102). -/
theorem engineCmd_awaits (hn : NewRequest s r) (hw : MayWrite s r (engIdx e 0)) (hh : bits hi 18 0 = h)
    (hc : lowest (engineCmdCodes e k hi s) = 0) (hs : engineCmd r e k hi s = s') : Answers s' r 0 ∧ Awaits s e k h s' :=
  have ha := command_accepted hn hw (ofDevice_engineCmdCodes e k hi) (ofDevice_acceptCommand e k hi) hc hs
  ⟨ha.1, Eq.subst (motive := fun d => Awaits s e k h { s' with dev := d }) ha.2.symm (acceptCommand_awaits hh)⟩

/-- A command that names no step. -/
theorem engineCmdCodes_plain (hk : (k == 4) = false) (hok : commandStateOk s e k = true) (hconf : (k == 1 && !configured s e) = false) :
    lowest (engineCmdCodes e k 0 s) = 0 :=
  have h4 (b : Bool) : (k == 4 && b) = false := (congrArg (· && b) hk).trans (Bool.false_and b)
  congrArg lowest (engineCmdCodes_found (hi := 0) (k := k) (Bool.and_false _) hok hconf (h4 _) (h4 _))

/-- A resume at a step that the partition holds and that the graph reaches. -/
theorem engineCmdCodes_resume (hstep : bits hi 18 0 = hi) (hlt : hi < 2 ^ 19) (hok : commandStateOk s e 4 = true)
    (hsize : hi < partSize s.dev.dict.active e) (hreach : reachable s e hi = true) : lowest (engineCmdCodes e 4 hi s) = 0 :=
  congrArg lowest (engineCmdCodes_found (hi := hi) (k := 4) (congrArg (fun n => n % 2 ^ 5 != 0 || false) (Nat.div_eq_of_lt hlt) :) hok rfl
    (decide_eq_false (Nat.not_le.2 (hstep.symm ▸ hsize))) (congrArg (fun b => !b) ((congrArg _ hstep).trans hreach) :))

/-- Settles O12: each command passes its checks, and waits for its tick. -/
theorem engineCommandsAccepted : Obligations.EngineCommandsAccepted := by
  intro t r e hi s u st accepted hn hw ht
  have h (k : Nat) (hc : lowest (engineCmdCodes e k 0 u) = 0) : Completes (atEdge t (engineCmd r e k 0) s) (accepted k 0) :=
    completes_atEdge (engineCmd_awaits hn hw rfl hc rfl)
  have hstep (hlt : hi < 2 ^ 19) : bits hi 18 0 = hi := (congrArg (· % 2 ^ 19) (Nat.div_one hi)).trans (Nat.mod_eq_of_lt hlt)
  exact ⟨fun hst hconf => h 1 (engineCmdCodes_plain rfl
      (commandStateOk_settled ht (Bool.or_eq_true_iff.2 (hst.imp beq_iff_eq.2 beq_iff_eq.2)) rfl) (congrArg (!·) hconf)),
    fun hst => h 2 (engineCmdCodes_plain rfl (commandStateOk_settled ht (beq_iff_eq.2 hst) rfl) rfl),
    fun hst => h 3 (engineCmdCodes_plain rfl (commandStateOk_settled ht hst rfl) rfl),
    fun hst hlt hsize hreach => completes_atEdge (engineCmd_awaits hn hw (hstep hlt) (engineCmdCodes_resume (hstep hlt) hlt
      (commandStateOk_settled ht (Bool.or_eq_true_iff.2 (hst.imp beq_iff_eq.2 Bool.and_eq_true_iff.2)) rfl) hsize hreach) rfl),
    fun hst => h 5 (engineCmdCodes_plain rfl (commandStateOk_settled ht (beq_iff_eq.2 hst) rfl) rfl),
    fun hst => h 6 (engineCmdCodes_plain rfl (commandStateOk_settled ht (beq_iff_eq.2 hst) rfl) rfl)⟩

end Sys2Proof.Machine

/-! PROOFS. The commit of each unit: it leaves the dictionary, the store, the keys and the engines. -/

namespace Sys2Proof.Machine

/-! ### What a commit leaves as it is, once the copies have switched -/

/-- The dictionary, the store, the keys and the engines. -/
noncomputable def heldParts (s : State) : Dict × Store × Tbl (List Byte) × Tbl Engine := (s.dev.dict, s.dev.store, s.link.keys, s.dev.engines)

/-- From `b` to `s` those parts are what they were, and no assertion of COMMIT_APPLIED is taken back. -/
noncomputable def Held (b s : State) : Prop :=
  heldParts s = heldParts b ∧ ∀ n, (n, 2019) ∈ b.dev.fabric.sched → (n, 2019) ∈ s.dev.fabric.sched

section

variable {b x y : State}

theorem Held.refl (s : State) : Held s s := ⟨rfl, fun _ h => h⟩

theorem Held.trans (h : Held b x) (g : Held x y) : Held b y := ⟨g.1.trans h.1, fun n hn => g.2 n (h.2 n hn)⟩

/-- An operation that reaches none of this. -/
theorem Held.same (h : Held b x) (e : (heldParts y, y.dev.fabric.sched) = (heldParts x, x.dev.fabric.sched)) : Held b y :=
  ⟨(congrArg Prod.fst e).trans h.1, fun n hn => (congrArg (fun p => (n, 2019) ∈ Prod.snd p) e).mpr (h.2 n hn)⟩

theorem Held.modLine {p : Nat} {f : Line → Line} (h : Held b x) : Held b (modLine p f x) := h.same rfl

theorem Held.modDram {f : DramStore → DramStore} (h : Held b x) : Held b (modDram f x) := h.same rfl

theorem held_if {c : Prop} [Decidable c] (hx : Held b x) (hy : Held b y) : Held b (if c then x else y) := ite_holds hx hy

theorem held_each {α : Type} {l : List α} {f : α → State → State} (hf : ∀ k s, Held s (f k s)) (h : Held b x) : Held b (forAll l f x) :=
  forAll_keeps (Held b) l f (fun k s h => h.trans (hf k s)) x h

theorem held_below {n : Nat} {f : Nat → State → State} (hf : ∀ k, k < n → ∀ s, Held s (f k s)) (s : State) : Held s (forAll (List.range n) f s) :=
  List.foldlRecOn (List.range n) _ (.refl s) fun _ h k hk => h.trans (hf k (List.mem_range.1 hk) _)

theorem heldParts_unnoticed (s : State) : heldParts s =
    ((unnoticed s).dict, (unnoticed s).store, (unnoticed s).link.2.2.2.2.2.1, (unnoticed s).engines) := rfl

theorem Held.notice (code cls kind source : Nat) (params : List Nat) (h : Held b x) : Held b (notice code cls kind source params x) :=
  h.trans ⟨(heldParts_unnoticed _).trans ((congrArg (fun u : Unnoticed => (u.dict, u.store, u.link.2.2.2.2.2.1, u.engines))
    (unnoticed_notice ..)).trans (heldParts_unnoticed _).symm), fun _ => (reported_notice ..).lines _⟩

theorem Held.assertLine (a l : Nat) (h : Held b x) : Held b (assertLine a l x) := ⟨h.1, fun n hn => insertAssert_keeps _ _ _ (h.2 n hn)⟩

/-- An assertion of another line may be taken back. -/
theorem Held.filter {p : Nat × Nat → Bool} (hp : ∀ n, p (n, 2019) = true) (h : Held b x) :
    Held b (modFabric (fun f => { f with sched := f.sched.filter p }) x) := ⟨h.1, fun n hn => List.mem_filter.2 ⟨h.2 n hn, hp n⟩⟩

end

/-! ### Comparators and pulse lines -/

theorem held_setTrip (a : Option Nat) (p : Nat) (s : State) : Held s (setTrip a p s) :=
  held_each (fun _ s => held_if (.refl s) (((Held.refl s).same rfl).assertLine ..)) (.refl s)

theorem held_tripLines (a : Option Nat) (j : Nat) (s : State) : Held s (tripLines a j s) :=
  held_each (fun _ s => held_if (held_setTrip _ _ s) (.refl s)) (.refl s)

theorem held_seenAssert (a : Option Nat) (j : Nat) (s : State) : Held s (seenAssert a j s) := by
  unfold seenAssert
  extract_lets m ev n s1
  have h : Held s s1 := (Held.refl s).same rfl
  exact (held_if (h.assertLine ..) h).trans (held_tripLines ..)

theorem held_seenDeassert (j : Nat) (s : State) : Held s (seenDeassert j s) := held_if ((Held.refl s).assertLine ..) (.refl s)

theorem held_setOutput (a : Option Nat) (j : Nat) (v : Bool) (s : State) : Held s (setOutput a j v s) := by
  unfold setOutput
  extract_lets old s1 new
  have h : Held s s1 := (Held.refl s).same rfl
  exact held_if (h.trans (held_seenAssert ..)) (held_if (h.trans (held_seenDeassert ..)) h)

theorem held_startBlanking (c i : Nat) (s : State) : Held s (startBlanking c i s) :=
  held_if (.refl s) (held_each (fun _ s => held_if (.refl s) (held_seenDeassert _ s)) ((Held.refl s).same rfl))

theorem held_cellEdge (p i : Nat) (v : Bool) (s : State) : Held s (cellEdge p i v s) := by
  unfold cellEdge
  extract_lets sel s1 s2
  have h1 : Held s s1 := (Held.refl s).same rfl
  have h2 : Held s s2 := held_if (h1.assertLine ..) h1
  exact held_if (h2.trans (held_startBlanking ..)) h2

theorem held_commandEdge (p i : Nat) (v : Bool) (next : Option Nat) (s : State) (hp : p ≠ 369) : Held s (commandEdge p i v next s) :=
  have hl : (2019 == 1281 + 2 * p) = false := beq_false_of_ne fun e =>
    hp (Nat.eq_of_mul_eq_mul_left Nat.two_pos (Nat.add_left_cancel (n := 1281) (m := 2 * 369) e)).symm
  held_if (.refl s) (held_if (((Held.refl s).filter fun _ => (congrArg (fun b => !(b && _ && _)) hl :)).same rfl)
    (held_if ((Held.refl s).same rfl) (held_cellEdge p i v s)))

theorem held_delayedEdge (p i dead : Nat) (v : Bool) (next : Option Nat) (s : State) (hp : p ≠ 369) : Held s (delayedEdge p i dead v next s) :=
  held_if (held_commandEdge p i v next s hp) ((Held.refl s).same rfl)

theorem partner_lt {p : Nat} (hp : p < 368) : partner p < 369 :=
  ite_holds (P := (· < 369)) (Nat.succ_lt_succ hp) (Nat.lt_of_le_of_lt (Nat.sub_le p 1) (Nat.lt_succ_of_lt hp))

theorem held_setW (p i : Nat) (v : Bool) (s : State) (hp : p < 368) : Held s (setW p i v s) := by
  have hp' : p ≠ 369 := Nat.ne_of_lt (Nat.lt_succ_of_lt hp)
  have hf : partner p ≠ 369 := Nat.ne_of_lt (partner_lt hp)
  have hpair : (if v then (p, partner p) else (partner p, p)).1 ≠ 369 ∧ (if v then (p, partner p) else (partner p, p)).2 ≠ 369 :=
    ite_holds (P := fun x : Nat × Nat => x.1 ≠ 369 ∧ x.2 ≠ 369) ⟨hp', hf⟩ ⟨hf, hp'⟩
  unfold setW
  refine held_if (.refl s) ?_
  extract_lets s1 nx f dead
  have h : Held s s1 := (Held.refl s).same rfl
  refine held_if (h.trans (held_commandEdge _ _ _ _ _ hp')) (held_if ((h.trans (held_commandEdge _ _ _ _ _ hp')).trans (held_delayedEdge _ _ _ _ _ _ hf)) ?_)
  exact .trans (.trans h.modLine (held_commandEdge _ _ _ _ _ hpair.2)) (held_delayedEdge _ _ _ _ _ _ hpair.1)

theorem held_applyLine (i p : Nat) (s : State) (hp : p < 368) : Held s (applyLine i p s) := by
  unfold applyLine
  extract_lets x old s1 s2 s3
  have h1 : Held s s1 := held_if (.refl s) (.modLine (.trans (.modLine (.refl s)) (held_setW _ _ _ _ hp)))
  have h2 : Held s s2 := h1.same rfl
  have h3 : Held s s3 := held_if (h2.same rfl) h2
  exact held_if (.refl s) (held_if (.trans h3.modLine (held_setW _ _ _ _ hp)) h3)

theorem held_applyPair (i p : Nat) (s : State) (hp : p < 256) : Held s (applyPair i p s) := by
  have h0 : p / 2 * 2 < 256 := Nat.lt_of_le_of_lt (Nat.div_mul_le_self p 2) hp
  have hne {q : Nat} (hq : q < 257) : q < 368 := hq.trans (by decide)
  have h1 := hne (Nat.succ_lt_succ h0)
  unfold applyPair
  extract_lets a s1
  have h : Held s s1 := .modLine (.trans (held_applyLine _ _ _ (hne (Nat.lt_succ_of_lt h0))) (held_applyLine _ _ _ h1))
  exact held_if h (.trans (.trans h (held_commandEdge _ _ _ _ _ (Nat.ne_of_lt (Nat.lt_succ_of_lt (hne (Nat.lt_succ_of_lt h0))))))
    (held_commandEdge _ _ _ _ _ (Nat.ne_of_lt (Nat.lt_succ_of_lt h1))))

/-! ### What a commit does to each unit -/

theorem held_commitPair (p : Nat) (s : State) (hp : p < 256) : Held s (commitPair p s) := by
  unfold commitPair
  extract_lets applied shared tripped
  have happlied : Held s applied := by
    refine held_if ?_ (.refl s)
    cases pairPoint s p with
    | none => exact held_applyPair _ p s hp
    | some => exact (Held.refl s).same rfl
  exact held_each (fun p s => held_if (held_setTrip none p s) (.refl s))
    (held_if (held_each (fun _ s => (Held.refl s).same rfl) happlied) happlied)

theorem held_commitSlots (ch : List Nat) (i : Nat) (s : State) : Held s (commitSlots ch i s) := held_if ((Held.refl s).same rfl) (.refl s)

theorem held_commitTrig (t0 : Tbl Nat) (k : Nat) (s : State) (hk : k < 64) : Held s (commitTrig t0 k s) :=
  have hl : (2019 == 1792 + k) = false := beq_false_of_ne fun e =>
    absurd ((Nat.add_left_cancel (n := 1792) (m := 227) e).trans_lt hk) (by decide)
  held_if (.refl s) (held_if ((Held.refl s).same rfl)
    (.filter (fun _ => (congrArg (fun b => !(_ && b)) hl).trans (congrArg (!·) (Bool.and_false _))) ((Held.refl s).same rfl)))

theorem held_tmrFire (k : Nat) (s : State) : Held s (tmrFire k s) := by
  unfold tmrFire
  exact .same (.assertLine _ _ (.refl s)) rfl

theorem held_commitTimer (ch : List Nat) (k : Nat) (s : State) : Held s (commitTimer ch k s) := by
  unfold commitTimer
  extract_lets changed m src
  exact held_if ((Held.refl s).same rfl) (held_if (.same (held_if (held_tmrFire k s) (.refl s)) rfl) (.refl s))

theorem held_commitCmp (t0 : Tbl Nat) (ch : List Nat) (c k : Nat) (s : State) : Held s (commitCmp t0 ch c k s) := by
  unfold commitCmp
  extract_lets j en0 gain th arm
  exact held_if (held_if ((Held.refl s).same rfl) (.refl s)) (held_if (.same (held_setOutput none j false s) rfl) (.refl s))

theorem held_startArming (c : Nat) (s : State) : Held s (startArming c s) := by
  unfold startArming
  extract_lets arms w
  exact held_if ((Held.refl s).same rfl) (held_if ((Held.refl s).same rfl) (held_if ((Held.refl s).same rfl) (.refl s)))

theorem held_commitSense (t0 : Tbl Nat) (ch : List Nat) (c : Nat) (s : State) : Held s (commitSense t0 ch c s) :=
  .trans (held_each (fun _ s => held_commitCmp _ _ _ _ s) (.refl s)) (held_startArming c _)

theorem held_abandonSeq (n c : Nat) (s : State) : Held s (abandonSeq n c s) := by
  unfold abandonSeq
  cases (s.out c).seq with
  | none => exact .refl s
  | some q => exact held_if ((Held.refl s).same rfl) ((Held.refl s).same rfl)

theorem held_commitDisable (c : Nat) (s : State) : Held s (commitDisable c s) := by
  unfold commitDisable
  extract_lets o s1
  have h : Held s s1 := (Held.refl s).same rfl
  have ha := h.trans (held_abandonSeq s1.now c s1)
  exact held_if h (held_if (ha.same rfl) (.same (ha.same (by exact rfl)) rfl))

theorem held_commitOutput (c en m r : Nat) (s : State) : Held s (commitOutput c en m r s) := by
  unfold commitOutput
  extract_lets o en' m' r' s1
  have hd : Held s s1 := held_commitDisable c s
  exact held_if (.refl s) <| held_if (held_if ((Held.refl s).same rfl) (.refl s)) <|
    held_if (held_if hd (held_if (hd.same rfl) (hd.same rfl))) <| held_if (.refl s) <| held_if ((Held.refl s).same rfl) <|
    held_if ((Held.refl s).same rfl) <| held_if (.refl s) ((Held.refl s).same rfl)

theorem held_commitBlanking (c before : Nat) (s : State) : Held s (commitBlanking c before s) := by
  unfold commitBlanking
  extract_lets counts
  exact held_if (.refl s) (held_each (fun _ s => held_if (held_seenAssert _ _ s) (held_if (held_seenDeassert _ s) (.refl s))) (.refl s))

theorem held_commitBank (d0 : Dict) (k : Nat) (s : State) : Held s (commitBank d0 k s) := by
  unfold commitBank
  extract_lets new s1
  have h : Held s s1 := held_if ((Held.refl s).same rfl) (.refl s)
  exact held_if (h.same rfl) h

theorem held_startRound (p r : Nat) (s : State) : Held s (startRound p r s) :=
  held_each (fun _ s => held_if ((Held.refl s).same rfl) (.refl s)) (.refl s)

theorem held_advanceChange (k : Nat) : ∀ s, Held s (advanceChange k s) := by
  induction k with
  | zero => exact .refl
  | succ k ih =>
    intro s
    rw [advanceChange]
    cases s.dev.dram.change with
    | none => exact held_if (.refl s) (.trans (.modDram (.refl s)) (ih _))
    | some x =>
      have h := held_startRound x.1 x.2 s
      exact held_if h (held_if (.trans h.modDram (ih _)) (.trans (.notice _ _ _ _ _ h.modDram) (ih _)))

theorem held_settleDram (s : State) : Held s (settleDram s) :=
  held_each (fun _ s => held_if ((Held.refl s).same rfl) (.refl s))
    (.trans (held_if (.modDram (.refl s)) (.refl s)) (held_advanceChange 8 _))

theorem held_rateChanged (s : State) : Held s (rateChanged s) := by
  unfold rateChanged
  extract_lets p busy s1
  have h : Held s s1 := (Held.refl s).same rfl
  exact held_if (h.notice ..) (h.trans (held_settleDram s1))

theorem held_openPending (s : State) : Held s (openPending s) :=
  held_each (fun _ s => held_each (fun _ s => held_if ((Held.refl s).same rfl) (.refl s)) (.refl s)) (.refl s)

end Sys2Proof.Machine

/-! PROOFS. What an engine that carries out a command leaves of the rest. -/

namespace Sys2Proof.Machine

/-! ### What an engine that carries out a command leaves -/

/-- The parts that stay when engines act: all but the engines, the streams, the sessions and the assertions to come. -/
noncomputable def offActs (s : State) : Unnoticed := { offEngines s with store := { s.dev.store with streams := [] } }

variable {e : Nat} {b s x : State}

theorem Only.acts (h : Only offEngines e s x) : Only offActs e s x :=
  ⟨congrArg (fun u : Unnoticed => { u with store := { u.store with streams := [] } }) h.1, h.2⟩

theorem Only.core {f : EngCore → EngCore} (h : Only offActs e b x) : Only offActs e b (modCore e f x) := h.trans (only_modCore f).beside.acts

theorem only_leaveStep (s : State) : Only offActs e s (leaveStep e s) := .trans (.core .refl) feeds_panicCheck.1.beside.acts

theorem only_discardAtEnd (s : State) : Only offActs e s (discardAtEnd e s) := .core (.core .refl)

theorem only_engineLine (e o a : Nat) (s : State) : Only offActs e s (engineLine e o a s) := by
  unfold engineLine
  cases (s.engine e).takeover with
  | none => exact ⟨rfl, fun _ _ => rfl⟩
  | some k => exact ite_holds (only_modEngine rfl) ⟨rfl, fun _ _ => rfl⟩

theorem only_releasePlayed (e : Nat) (s : State) : Only offActs e s (releasePlayed e s) := by
  unfold releasePlayed
  cases sourceOf s e with
  | none => exact .refl
  | some n => exact ite_holds (ite_holds (P := Only offActs e s) ⟨rfl, fun _ _ => rfl⟩ (.core .refl)) .refl

theorem only_abortEngine (e cause : Nat) (s : State) : Only offActs e s (abortEngine e cause s) := by
  unfold abortEngine dropRequests
  exact .trans (.trans (.core (.core (.trans (.core (only_releasePlayed e s)) (only_discardAtEnd _)))) (only_leaveStep _)) (only_engineLine ..)

theorem only_enterStep (e k : Nat) (late : Bool) (s : State) : Only offActs e s (enterStep e k late s) := by
  unfold enterStep
  extract_lets c isLate ignored entered begun counted taken
  have hentered : Only offActs e s entered := .core (.core (.core .refl))
  exact ite_holds (.trans (.core (.core (hentered.trans (beginEntry_beside ..).acts))) (feeds_engineNotice ..).1.acts)
    (.core (hentered.trans (takeEntry_beside ..).acts))

theorem only_resumeEngine (e k : Nat) (late : Bool) (s : State) : Only offActs e s (resumeEngine e k late s) :=
  .trans (.trans (.trans (only_discardAtEnd s) (only_releasePlayed ..)) (only_leaveStep _)) (only_enterStep ..)

/-- What holds of each of six states holds of the one that a number chooses. -/
theorem chosen_holds {P : State → Prop} {x₁ x₂ x₃ x₄ x₅ y : State} (h₁ : P x₁) (h₂ : P x₂) (h₃ : P x₃) (h₄ : P x₄) (h₅ : P x₅) (h : P y) :
    ∀ n : Nat, P (match n with | 1 => x₁ | 2 => x₂ | 3 => x₃ | 4 => x₄ | 5 => x₅ | _ => y)
  | 1 => h₁
  | 2 => h₂
  | 3 => h₃
  | 4 => h₄
  | 5 => h₅
  | 0 | _ + 6 => h

theorem only_commandAct (e : Nat) (late : Bool) (k : EngCmd) (s : State) : Only offActs e s (commandAct e late k s) := by
  refine ite_holds (P := Only offActs e s) ?_ (.core .refl)
  exact chosen_holds (.core (.core .refl)) (only_enterStep ..) (only_abortEngine ..) (only_resumeEngine ..) (.core .refl) (.core (.core .refl)) k.cmd

theorem only_armFirst (e : Nat) (s : State) : Only offActs e s (armFirst e s) :=
  forAll_keeps (Only offActs e s) _ _ (fun k s h => h.trans (only_commandAct e false k s)) _ (.core .refl)

end Sys2Proof.Machine

/-! PROOFS. The commit tick (R333). -/

namespace Sys2Proof.Machine

variable {s : State}

/-! ### The engines of a commit (R101, R450) -/

/-- The parts that stay when a commit reaches the engines. -/
noncomputable def offCommit (s : State) : Clock × Dict × Store × Tbl (List Byte) × List (Nat × Nat) :=
  (s.dev.clock, s.dev.dict, s.dev.store, s.link.keys, s.dev.fabric.sched)

/-- From `s` to `x` a commit has reached engine `e`: one that is armed with START_SEL 9 starts. -/
noncomputable def Committed (e : Nat) (s x : State) : Prop :=
  Only offCommit e s x ∧ ((s.core e).st = .armed → s.act (engIdx e 0) 3 = 9 → (x.core e).pend.start = some s.now)

section

variable {e : Nat} {x : State}

theorem committed_modCore {f : EngCore → EngCore}
    (hf : (s.core e).st = .armed → s.act (engIdx e 0) 3 = 9 → (f (s.core e)).pend.start = some s.now) : Committed e s (modCore e f s) :=
  ⟨only_modEngine rfl, fun hst hsel => (congrArg (fun k : EngCore => k.pend.start) (core_modCore s e f)).trans (hf hst hsel)⟩

theorem Committed.modEngine {f : Engine → Engine} (hf : ∀ g, (f g).core = g.core) (h : Committed e s x) : Committed e s (modEngine e f x) :=
  ⟨h.1.trans (only_modEngine rfl), fun hst hsel => (congrArg (fun g : Engine => g.core.pend.start) (modEngine_engine x e f)).trans
    ((congrArg (fun k : EngCore => k.pend.start) (hf _)).trans (h.2 hst hsel))⟩

end

theorem commitEngine_committed (d0 : Dict) (e : Nat) (s : State) : Committed e s (commitEngine d0 e s) := by
  unfold commitEngine
  extract_lets c old new ramp again tag go rests act s1
  have hgo (hst : (s.core e).st = .armed) (hsel : s.act (engIdx e 0) 3 = 9) : go = true := Bool.and_eq_true_iff.2 ⟨beq_iff_eq.2 hst, beq_iff_eq.2 hsel⟩
  have h1 : Committed e s s1 := committed_modCore fun hst hsel => if_pos (hgo hst hsel)
  refine ite_split (P := Committed e s) (fun h => ⟨.refl, fun hst hsel => ?_⟩) fun _ => ite_holds (.modEngine (fun _ => rfl) h1) h1
  exact absurd (Bool.or_inl (Bool.or_inl (Bool.or_inl (Bool.or_inr (hgo hst hsel))))) (Bool.eq_false_iff.1 ((Bool.not_eq_true' _).mp h))

/-- The state of an engine and its pending commands. -/
noncomputable def free (e : Nat) (s : State) : EState × List EngCmd := ((s.core e).st, (s.core e).pend.cmds)

theorem free_modPend {e : Nat} (f : EngPend → EngPend) : free e (modPend e f s) = ((s.core e).st, (f (s.core e).pend).cmds) :=
  congrArg (fun c : EngCore => (c.st, c.pend.cmds)) (core_modPend s e f)

/-- An engine armed with no command pending. -/
noncomputable def ArmedFree (e : Nat) (s : State) : Prop := free e s = (.armed, [])

/-- It stays so before the commit. -/
theorem armFirst_armed {e : Nat} (x : Nat) (s : State) (h : ArmedFree e s) : ArmedFree e (armFirst x s) := by
  by_cases hx : e = x
  · subst hx
    have hcmds : (s.core e).pend.cmds = [] := congrArg Prod.snd h
    exact (congrArg (fun l : List EngCmd => free e (forAll (throughLast _ (l.filter _)) (commandAct e false)
      (modPend e (fun p => { p with cmds := p.cmds.filter fun k => !(throughLast _ (l.filter _)).contains k }) s))) hcmds).trans
      ((free_modPend fun p => { p with cmds := p.cmds.filter fun k => !([] : List EngCmd).contains k }).trans
        (congrArg (fun p : EState × List EngCmd => (p.1, p.2.filter fun k => !([] : List EngCmd).contains k)) h))
  · exact (congrArg (fun g : Engine => (g.core.st, g.core.pend.cmds)) ((only_armFirst x s).2 e hx)).trans h

/-! ### The commit -/

/-- The state of a commit once its copies have switched and it is reported. -/
noncomputable def committed (s : State) : State := assertLine (s.now + 1) 2019 (countRing (switchCopies s))

/-- Commands that fell due act before the commit. -/
noncomputable def acted (s : State) : State := forAll (List.range 64) armFirst s

/-- The commit has reached the engines. -/
noncomputable def started (s : State) : State := forAll (List.range 64) (commitEngine (acted s).dev.dict) (committed (acted s))

theorem acted_offActs : offActs (acted s) = offActs s := forAll_proj s offActs _ _ fun e s => (only_armFirst e s).1

theorem started_offCommit : offCommit (started s) = offCommit (committed (acted s)) :=
  forAll_proj _ offCommit _ _ fun e s => (commitEngine_committed _ e s).1.1

/-- What follows the switch of the copies leaves dictionary, store, keys and engines as they are. -/
theorem applyCommit_held (s : State) : Held (started s) (applyCommit s) := by
  unfold applyCommit started committed acted
  generalize forAll (List.range 64) armFirst s = w
  extract_lets v d0 before s1 s2 s3 s4 s5 s6 s7 s8 s9 s10 s11 s12 s13
  have h5 : Held s2 s5 := held_each (fun _ => held_commitTimer _ _) (.trans (held_each (fun _ => held_commitSlots _ _) (.refl _))
    (held_below (fun k hk s => held_commitTrig _ k s (Nat.lt_add_right 32 hk)) s3))
  have h8 : Held s2 s8 := held_each (fun _ => held_commitBlanking _ _) (held_each (fun _ => held_commitOutput _ _ _ _)
    (held_each (fun _ => held_commitSense _ _ _) h5))
  have h10 : Held s2 s10 := held_each (fun _ => held_commitBank _ _)
    (h8.trans (held_below (fun k hk s => held_commitPair _ s (Nat.mul_lt_mul_of_pos_left hk Nat.two_pos)) s8))
  have h11 : Held s2 s11 := held_if (h10.same rfl) h10
  have h12 : Held s2 s12 := held_if (.trans h11 (held_rateChanged _)) h11
  have h13 : Held s2 s13 := held_if (held_each (fun _ s => held_if ((Held.refl s).same rfl) (.refl s)) h12) h12
  exact h13.trans (held_openPending s13)

/-- The edge, and the parts that only the switch of the copies changes. -/
noncomputable def based (s : State) : Nat × Dict × Tbl Seg × Mem × Tbl (List Byte) :=
  (s.now, s.dev.dict, s.dev.store.segs, s.dev.store.content, s.link.keys)

theorem based_offCommit {x y : State} (h : offCommit x = offCommit y) : based x = based y :=
  (congrArg (fun c : Clock × Dict × Store × Tbl (List Byte) × List (Nat × Nat) => (c.1.n, c.2.1, c.2.2.1.segs, c.2.2.1.content, c.2.2.2.1)) h :)

theorem based_held {x y : State} (h : Held x y) : (based y).2 = (based x).2 :=
  (congrArg (fun p : Dict × Store × Tbl (List Byte) × Tbl Engine => (p.1, p.2.1.segs, p.2.1.content, p.2.2.1)) h.1 :)

theorem based_switchCopies {v : State} (h : offActs v = offActs s) : based (switchCopies v) = based (switchCopies s) :=
  (congrArg (fun u : Unnoticed =>
    based (switchCopies ⟨{ s.dev with clock := u.clock, dict := u.dict, store := u.store }, s.ticked, { s.link with keys := u.link.2.2.2.2.2.1 },
      s.undefined, s.pending⟩)) h :)

theorem based_committed (v : State) : based (committed v) = based (switchCopies v) := ite_eq (g := based) rfl rfl

theorem started_based : based (started s) = based (switchCopies s) :=
  (based_offCommit started_offCommit).trans ((based_committed _).trans (based_switchCopies acted_offActs))

theorem applyCommit_based : (based (applyCommit s)).2 = (based (switchCopies s)).2 :=
  (based_held (applyCommit_held s)).trans (congrArg Prod.snd started_based)

section

variable {v x s' : State} {e : Nat}

theorem now_offActs (h : offActs v = offActs s) : v.now = s.now := (congrArg (fun u : Unnoticed => u.clock.n) h :)

theorem sched_offCommit (h : offCommit x = offCommit v) : x.dev.fabric.sched = v.dev.fabric.sched :=
  (congrArg (fun c : Clock × Dict × Store × Tbl (List Byte) × List (Nat × Nat) => c.2.2.2.2) h :)

theorem committed_line (hx : offCommit x = offCommit (committed v)) (hn : v.now = s.now) (h : Held x s') : lineAt s' (s.now + 1) 2019 = true :=
  List.elem_eq_true_of_mem (h.2 _ ((sched_offCommit hx).symm ▸ hn ▸ insertAssert_mem ..))

theorem core_committed : (committed v).core e = v.core e := ite_eq (g := (State.core · e)) rfl rfl

theorem core_held (h : Held x s') : s'.core e = x.core e :=
  (congrArg (fun p : Dict × Store × Tbl (List Byte) × Tbl Engine => (tget (Engine.reset e) e p.2.2.2).core) h.1 :)

theorem act_based (h : based x = based v) (k n : Nat) : x.act k n = v.act k n := (congrArg (fun b => copyVal b.2.1.active k n) h :)

theorem now_based (h : based x = based v) : x.now = v.now := congrArg Prod.fst h

theorem commitEngines_start (d0 : Dict) (he : e < 64) (hst : (v.core e).st = .armed) (hsel : v.act (engIdx e 0) 3 = 9) :
    ((forAll (List.range 64) (commitEngine d0) v).core e).pend.start = some v.now :=
  forAll_reaches (fun x => based x = based v ∧ (x.core e).st = .armed) (fun x => (x.core e).pend.start = some v.now)
    (List.mem_range.2 he) List.nodup_range
    (fun y x hy h => ⟨(based_offCommit (commitEngine_committed d0 y x).1.1).trans h.1,
      (congrArg (fun g : Engine => g.core.st) ((commitEngine_committed d0 y x).1.2 e hy.symm)).trans h.2⟩)
    (fun x h => ((commitEngine_committed d0 e x).2 h.2 ((act_based h.1 ..).trans hsel)).trans (congrArg some (now_based h.1)))
    (fun y x hy h => (congrArg (fun g : Engine => g.core.pend.start) ((commitEngine_committed d0 y x).1.2 e hy.symm)).trans h) ⟨rfl, hst⟩

end

theorem started_starts {e : Nat} (he : e < 64) (hst : (s.core e).st = .armed) (hc : (s.core e).pend.cmds = [])
    (hsel : s.stg (engIdx e 0) 3 = 9) : ((started s).core e).pend.start = some s.now := by
  have harmed : ArmedFree e (acted s) := forAll_keeps (ArmedFree e) (List.range 64) armFirst armFirst_armed s (congr (congrArg Prod.mk hst) hc)
  have hbase := (based_committed (acted s)).trans (based_switchCopies acted_offActs)
  unfold started
  generalize acted s = v at harmed hbase
  exact (commitEngines_start _ he ((congrArg EngCore.st core_committed).trans (congrArg Prod.fst harmed)) ((act_based hbase ..).trans hsel)).trans
    (congrArg some (now_based hbase :))

theorem commitTick_eq {t : Nat} (h : (advance t s).dev.ring.commit.readySent = false) :
    exec (.commitTick t) s = .next (if commitDue (advance t s) then applyCommit (advance t s) else advance t s) :=
  congrArg Host.Outcome.next (if_neg (fun h' => Bool.false_ne_true (h.symm.trans (Bool.and_eq_true_iff.1 h').1)))

theorem commitTick_next {t : Nat} (h : (advance t s).dev.ring.commit.readySent = false) (hdue : commitDue (advance t s) = true) :
    exec (.commitTick t) s = .next (applyCommit (advance t s)) := (commitTick_eq h).trans (congrArg Host.Outcome.next (if_pos hdue))

/-- Settles O39: the tick of a checked commit switches the copies, and what follows leaves them; at another edge nothing changes. -/
theorem commitTickSwitchesCopies : Obligations.CommitTickSwitchesCopies := by
  intro t s u d hready
  refine ⟨fun hdue => completes_next (commitTick_next hready hdue) ?_, fun hdue => (commitTick_eq hready).trans
    (congrArg Host.Outcome.next (if_neg (Bool.eq_false_iff.1 hdue)))⟩
  have h := applyCommit_based (s := u)
  have hheld := applyCommit_held u
  generalize applyCommit u = s' at h hheld
  exact ⟨(congrArg (fun b => b.1.active) h :), (congrArg (fun b => b.1.staged) h :),
    (congrArg (fun b => b.1.stepsActive) h :), (congrArg (fun b => b.1.stepsStaged) h :), (congrArg (fun b => b.1.changed) h :),
    (congrArg (fun b => b.1.stepChanged) h :), (congrArg (fun b => b.1.commit.epoch) h :), (congrArg (fun b => b.1.commit.st) h :),
    (congrArg (fun b => b.1.commit.tickN) h :), committed_line started_offCommit (now_offActs acted_offActs) hheld,
    fun e he hst hc hsel => (congrArg (fun c => c.pend.start) (core_held hheld)).trans (started_starts he hst hc hsel),
    (congrArg (fun b => b.2.1) h :), (congrArg (fun b => b.2.2.1) h :), (congrArg (fun b => b.2.2.2) h :)⟩

end Sys2Proof.Machine

/-! PROOFS. An event at an input of an engine (R88 to R105). -/

namespace Sys2Proof.Machine

variable {s u : State} {e k i n : Nat}

/-! ### An event at an input (R254) -/

theorem limiterPasses_now (w n : Nat) : limiterPasses w n (some n) = true := by
  rw [limiterPasses, beq_self_eq_true, Bool.true_or, Bool.or_true]

/-- A slot whose event passes its limiter passes it again at the same edge. -/
theorem slot_again {hit : Bool} {w n : Nat} {last : Option Nat} (h : (hit && limiterPasses w n last) = true) :
    (hit && limiterPasses w n (if (hit && limiterPasses w n last) = true then some n else last)) = true := by
  rw [if_pos h, limiterPasses_now, Bool.and_true]
  exact (Bool.and_eq_true_iff.1 h).1

theorem ite_of_snd {α : Type} {c : Prop} [Decidable c] {a : α} {y : α × Bool} (h : (if c then (a, false) else y).2 = true) :
    (if c then (a, false) else y) = y :=
  (em c).elim (fun hc => absurd ((congrArg Prod.snd (if_pos hc)).symm.trans h) Bool.false_ne_true) (if_neg ·)

/-- Does an event at an input with record `x` pass the limiter of a slot? -/
noncomputable def inputPasses (s : State) (i : Nat) (x : Input) : Bool :=
  (slotHit s (slotWord s.dev.dict.active i 0) && limiterPasses (slotWord s.dev.dict.active i 0) s.now x.lastA) ||
    (slotHit s (slotWord s.dev.dict.active i 1) && limiterPasses (slotWord s.dev.dict.active i 1) s.now x.lastB)

/-- An input that registers an event holds it for the rest of the edge. -/
theorem registerInput_hit (h : (registerInput i s).2 = true) :
    ∃ x : Input, registerInput i s = (modInput i (fun _ => x) s, true) ∧ inputPasses s i x = true :=
  have hnew := ite_of_snd h
  have hhit := hnew.trans (ite_of_snd ((congrArg Prod.snd hnew).symm.trans h))
  have hpass := (congrArg Prod.snd hhit).symm.trans h
  ⟨_, hhit.trans (congrArg (Prod.mk _) hpass), Bool.or_eq_true_iff.2 ((Bool.or_eq_true_iff.1 hpass).imp slot_again slot_again)⟩

/-- Engine `e` has registered an event at its input `k`, which now holds `x`. -/
noncomputable def heard (e k : Nat) (x : Input) (s : State) : State := logEvent e k (modInput (12 * e + k) (fun _ => x) s)

theorem core_heard (x : Input) : (heard e k x s).core e = s.core e :=
  (congrArg Engine.core (modEngine_engine (modInput (12 * e + k) (fun _ => x) s) e _) :)

/-- What an event at input `k` asks of an engine whose record is `c`. -/
noncomputable def reactionOf (s : State) (e k : Nat) (c : EngCore) : Option Reaction :=
  let en := s.entry e c.play.step
  let w := mapWord s.dev.dict.active e en.jumpMap
  if k = 10 then (if c.active || c.st == .armed then some .abort else none)
  else if c.st == .armed then (if k < 8 && s.act (engIdx e 0) 3 == k + 1 then some .start else none)
  else if c.src.latch then none
  else if k = 8 then (if c.st == .running then some .hold else none)
  else if k = 9 then (if c.st == .holding && c.holdCause == 1 then some .unhold else none)
  else if en.waitSel == k + 1 && (c.st == .waiting || (c.st == .running && c.play.action == 5)) then some .wake
  else if !mapEn w k then none
  else if !(c.st == .running || c.st == .waiting || (c.st == .holding && c.holdCause == 2)) then none
  else if s.dev.dict.commit.blocked.contains (e, mapTarget w k) then some (.refilling (mapTarget w k))
  else if mapAtEnd w k && c.st == .running then some (.atEnd (mapTarget w k)) else some (.jump (mapTarget w k))

/-- An event is answered by the engine's record, which hearing it leaves as it is. -/
theorem reaction_heard (x : Input) (j : Nat) : reaction (heard e k x s) e j = reaction s e j :=
  (congrArg (reactionOf s e j) (core_heard (s := s) (e := e) (k := k) x) :)

/-- The one input with an event wins. -/
theorem winner_heard {x : Input} (hx : inputPasses s (12 * e + k) x = true) (hk : k < 11)
    (hl : ∀ j, j < 11 → j ≠ k → inputEvent s (12 * e + j) = false) (hc : competes (reaction s e k) = true) :
    winner (heard e k x s) e = some k :=
  have hinput (j : Nat) : (inputEvent (heard e k x s) (12 * e + j) && competes (reaction (heard e k x s) e j)) =
      (inputPasses s (12 * e + j) ((modInput (12 * e + k) (fun _ => x) s).input (12 * e + j)) && competes (reaction s e j)) :=
    congrArg (_ && competes ·) (reaction_heard x j)
  have hfilter : (List.range 11).filter (fun j => inputEvent (heard e k x s) (12 * e + j) && competes (reaction (heard e k x s) e j)) = [k] :=
    (List.filter_congr fun j hj => (hinput j).trans ((em (j = k)).elim
      (fun h => (congrArg (fun j => inputPasses s (12 * e + j) ((modInput (12 * e + k) (fun _ => x) s).input (12 * e + j)) &&
          competes (reaction s e j)) h).trans
        ((congr (congrArg (inputPasses s (12 * e + k) · && ·) (modInput_input s _ _)) hc).trans
          ((Bool.and_true _).trans (hx.trans (beq_iff_eq.2 h).symm))))
      fun h => (congrArg (· && _) ((congrArg (inputPasses s (12 * e + j)) (modInput_input_ne s _ _ (fun h' => h (Nat.add_left_cancel h')) _)).trans
        (hl j (List.mem_range.1 hj) h))).trans ((Bool.false_and _).trans (beq_false_of_ne h).symm))).trans
      ((by decide : ∀ k : Fin 11, (List.range 11).filter (· == k.val) = [k.val]) ⟨k, hk⟩)
  (congrArg (List.foldl (fun m k => _) none) hfilter :)

end Sys2Proof.Machine

/-! PROOFS. What a registered event changes. -/

namespace Sys2Proof.Machine

variable {s u v : State} {e k n : Nat} {x : Input} {y : Reaction} {l : List (Nat × Nat)}

/-! ### What a registered event changes -/

/-- A state without its engines and input records. -/
noncomputable def offInputs (s : State) : State := { s with dev := { s.dev with engines := [], fabric := { s.dev.fabric with inputs := [] } } }

/-- What an event leaves of the record of an engine. -/
noncomputable def EngCore.minded (c : EngCore) : EState × EngPlay × EngVals := (c.st, c.play, c.vals)

/-- From `u` to `s` engine `e` has noted `l` in its history, and of its record its requests and what counts events may have changed. -/
noncomputable def Minds (e : Nat) (l : List (Nat × Nat)) (u s : State) : Prop :=
  Only offInputs e u s ∧ EngCore.minded (s.core e) = EngCore.minded (u.core e) ∧ (s.engine e).log = (u.engine e).log ++ l

theorem minds_heard : Minds e [(u.now, k)] u (heard e k x u) :=
  ⟨⟨rfl, fun _ hj => modEngine_engine_ne _ e _ hj _⟩, congrArg EngCore.minded (core_heard x),
    (congrArg Engine.log (modEngine_engine (modInput (12 * e + k) (fun _ => x) u) e _) :)⟩

theorem minds_modCore {f : EngCore → EngCore} (hf : ∀ c, (f c).minded = c.minded) (h : Minds e l u s) : Minds e l u (modCore e f s) :=
  ⟨h.1.trans (only_modEngine rfl), (congrArg EngCore.minded (core_modCore s e f)).trans ((hf _).trans h.2.1),
    (congrArg Engine.log (modEngine_engine s e _)).trans h.2.2⟩

theorem minds_ignoreEvents (n : Nat) (h : Minds e l u s) : Minds e l u (ignoreEvents e n s) := by
  unfold ignoreEvents
  exact minds_modCore (by exact fun _ => rfl) h
theorem minds_modPend (f : EngPend → EngPend) (h : Minds e l u s) : Minds e l u (modPend e f s) := minds_modCore (by exact fun _ => rfl) h

theorem minds_registerReaction (h : Minds e l u s) : ∀ y, Minds e l u (registerReaction e y s)
  | .abort | .start | .hold | .unhold | .wake => ite_holds (minds_ignoreEvents _ h) (minds_modPend _ h)
  | .jump _ | .atEnd _ => minds_ignoreEvents _ (minds_modPend _ h)
  | .refilling _ => h

/-- The inputs of an engine leave the rest of the device and the links as they are. -/
theorem Minds.frame (h : Minds e l u s) : (∀ j, j ≠ e → s.engine j = u.engine j) ∧ (s.core e).st = (u.core e).st ∧
    (s.core e).play = (u.core e).play ∧ (s.core e).vals = (u.core e).vals ∧ s.link = u.link ∧
    s.dev = { u.dev with engines := s.dev.engines, fabric := { u.dev.fabric with inputs := s.dev.fabric.inputs } } :=
  have hkept := h.2.1
  ⟨h.1.2, congrArg (·.1) hkept, congrArg (·.2.1) hkept, congrArg (·.2.2) hkept, (congrArg State.link h.1.1 :),
    (congrArg (fun x : State => { x.dev with engines := s.dev.engines, fabric := { x.dev.fabric with inputs := s.dev.fabric.inputs } }) h.1.1 :)⟩

/-! ### How an engine takes an event -/

/-- What an engine does on the event at its input `k` that asks for `o`, where the event at input `w` wins. -/
noncomputable def reacts (e k : Nat) (w : Option Nat) (s : State) : Option Reaction → State
  | none => ignoreEvents e 1 s
  | some (.refilling g) => engineNotice 0x0004 2 e [g, k] (ignoreEvents e 1 s)
  | some x => if w == some k then registerReaction e x s else ignoreEvents e 1 s

/-- The target of a reaction that is being refilled. -/
noncomputable def Reaction.refilled : Reaction → Nat
  | .refilling g => g
  | _ => 0

theorem reacts_some (w : Option Nat) : reacts e k w s (some y) = if competes (some y) = true
    then if w == some k then registerReaction e y s else ignoreEvents e 1 s
    else engineNotice 0x0004 2 e [y.refilled, k] (ignoreEvents e 1 s) :=
  Reaction.casesOn y rfl rfl rfl rfl rfl (fun _ => rfl) (fun _ => rfl) fun _ => rfl

/-- At an event alone at an edge the input wins if what it asks for competes (R97). -/
theorem engineInput_heard (h : LoneEvent u e k) (hk : k < 11) : ∃ x, engineInput e k u =
    reacts e k (winner (heard e k x u) e) (heard e k x u) (reaction u e k) ∧
    (competes (reaction u e k) = true → winner (heard e k x u) e = some k) :=
  (registerInput_hit h.1).imp fun x hx => ⟨by
    rw [engineInput, hx.1, ← reaction_heard x k]
    rfl, winner_heard hx.2 hk h.2⟩

theorem engineInput_ignores (h : LoneEvent u e k) (hk : k < 11) (hr : reaction u e k = none) :
    ∃ x, engineInput e k u = ignoreEvents e 1 (heard e k x u) :=
  (engineInput_heard h hk).imp fun _ hx => hx.1.trans (congrArg (reacts e k _ _) hr)

theorem engineInput_reacts (h : LoneEvent u e k) (hk : k < 11) (hr : reaction u e k = some y) (hc : competes (some y) = true) :
    ∃ x, engineInput e k u = registerReaction e y (heard e k x u) :=
  (engineInput_heard h hk).imp fun _ hx => hx.1.trans ((congrArg (reacts e k _ _) hr).trans
    ((reacts_some _).trans ((if_pos hc).trans (if_pos (beq_iff_eq.2 (hx.2 (hr.symm ▸ hc)))))))

theorem pend_ignoreEvents : ((ignoreEvents e n s).core e).pend = (s.core e).pend := (congrArg EngCore.pend (core_modCore s e _) :)

/-- An event that is ignored is counted, and asks for nothing. -/
theorem ignored_heard (x : Input) : ((ignoreEvents e 1 (heard e k x u)).core e).pend = (u.core e).pend ∧
    ((ignoreEvents e 1 (heard e k x u)).core e).cnt.ignored = sat32 ((u.core e).cnt.ignored + 1) :=
  ⟨pend_ignoreEvents.trans (congrArg EngCore.pend (core_heard x)), (congrArg (fun c => c.cnt.ignored) (core_modCore (heard e k x u) e _)).trans
    (congrArg (fun c => sat32 (c.cnt.ignored + 1)) (core_heard x))⟩

theorem engineInput_counts (h : LoneEvent u e k) (hk : k < 11) (hr : reaction u e k = none) :
    ((engineInput e k u).core e).pend = (u.core e).pend ∧
    ((engineInput e k u).core e).cnt.ignored = sat32 ((u.core e).cnt.ignored + 1) :=
  (engineInput_ignores h hk hr).elim fun x hx => hx.symm ▸ ignored_heard x

/-- The requests of an engine that held `p` after `y` is recorded at edge `n` with tick `q`. -/
noncomputable def recorded (q n : Nat) (p : EngPend) : Reaction → EngPend
  | .abort => { p with abort := some q, fresh := some (n, 0) }
  | .start => { p with start := some q }
  | .hold => { p with hold := some q, fresh := some (n, 1) }
  | .unhold => { p with unhold := some q, fresh := some (n, 2) }
  | .wake => { p with release := some q, fresh := some (n, 3) }
  | .jump g => { p with jump := some { q := q, target := g }, fresh := if p.jump.isSome then p.fresh else some (n, 4) }
  | .atEnd g => { p with atEnd := some { q := n, target := g } }
  | .refilling _ => p

/-- Can `y` be recorded beside the requests `p`? A jump or an AT_END request takes the place of an earlier one. -/
noncomputable def Free (p : EngPend) : Reaction → Prop
  | .abort => p.abort = none
  | .start => p.start = none
  | .hold => p.hold = none
  | .unhold => p.unhold = none
  | .wake => p.release = none
  | .refilling _ => False
  | .jump _ | .atEnd _ => True

theorem pend_once {o : Option Nat} {f : EngPend → EngPend} (ho : o = none) :
    ((if o.isSome = true then ignoreEvents e 1 s else modPend e f s).core e).pend = f (s.core e).pend :=
  (congrArg (fun s => (State.core s e).pend) (if_neg (Bool.eq_false_iff.1 (congrArg Option.isSome ho)))).trans (pend_modPend s e f)

theorem pend_registered (y : Reaction) : Free (s.core e).pend y →
    ((registerReaction e y s).core e).pend = recorded (s.tickAt e (s.now + 16)) s.now (s.core e).pend y :=
  Reaction.casesOn y pend_once pend_once pend_once pend_once pend_once (fun _ _ => pend_ignoreEvents.trans (pend_modPend ..))
    (fun _ _ => pend_ignoreEvents.trans (pend_modPend ..)) fun _ h => h.elim

/-- A reaction that competes is recorded. -/
theorem engineInput_records (h : LoneEvent u e k) (hk : k < 11) (hr : reaction u e k = some y) (hc : competes (some y) = true)
    (hfree : Free (u.core e).pend y) : ((engineInput e k u).core e).pend = recorded (u.tickAt e (u.now + 16)) u.now (u.core e).pend y :=
  (engineInput_reacts h hk hr hc).elim fun x hx =>
    have hcore := core_heard (s := u) (e := e) (k := k) x
    (congrArg (fun s => (State.core s e).pend) hx).trans ((pend_registered y ((congrArg (fun c => Free (EngCore.pend c) y) hcore).mpr hfree)).trans
      (congrArg (fun c => recorded (u.tickAt e (u.now + 16)) u.now (EngCore.pend c) y) hcore))

/-- A reaction of no kind, or one that competes with others: not one whose target is being refilled. -/
noncomputable def Answered (o : Option Reaction) : Prop := (o.isNone || competes o) = true

theorem reacts_minds (w : Option Nat) (h : Minds e l u s) : ∀ o, Answered o → Minds e l u (reacts e k w s o)
  | none, _ => minds_ignoreEvents 1 h
  | some y, hy => ((reacts_some w).trans (if_pos hy)).symm ▸ ite_holds (minds_registerReaction h y) (minds_ignoreEvents 1 h)

theorem engineInput_minds (h : LoneEvent u e k) (hk : k < 11) (hr : Answered (reaction u e k)) : Minds e [(u.now, k)] u (engineInput e k u) :=
  (engineInput_heard h hk).elim fun _ hx => hx.1.symm ▸ reacts_minds _ minds_heard _ hr

theorem reacts_log (w : Option Nat) (h : Minds e l u s) : ∀ o, ((reacts e k w s o).engine e).log = (u.engine e).log ++ l
  | none => (minds_ignoreEvents 1 h).2.2
  | some y => (congrArg (fun s => (State.engine s e).log) (reacts_some w)).trans <|
    have hignored := minds_ignoreEvents 1 h
    ite_holds (P := fun s => (State.engine s e).log = _)
      (ite_holds (P := fun s => (State.engine s e).log = _) (minds_registerReaction h y).2.2 hignored.2.2)
      ((congrArg (fun f : Nat → Engine => (f e).log) (reported_engineNotice (ignoreEvents e 1 s) 0x0004 2 e
        [y.refilled, k]).engine).trans hignored.2.2)

/-- Every registered event is logged, even one whose target is being refilled. -/
theorem engineInput_log (h : LoneEvent u e k) (hk : k < 11) : ((engineInput e k u).engine e).log = (u.engine e).log ++ [(u.now, k)] :=
  (engineInput_heard h hk).elim fun _ hx => (congrArg (fun s => (State.engine s e).log) hx.1).trans (reacts_log _ minds_heard _)

end Sys2Proof.Machine

/-! PROOFS. What an event asks of an engine. -/

namespace Sys2Proof.Machine

variable {s u : State} {e k : Nat}

/-! ### What an event asks for (R82, R88, R92, R95, R98, R101, R103, R104) -/

theorem not_armed {st : EState} (h : (u.core e).st = st) (hne : st ≠ .armed) : ¬ ((u.core e).st == .armed) = true :=
  Bool.eq_false_iff.1 (beq_false_of_ne (h ▸ hne))

theorem not_armed_of_active (h : (u.core e).active = true) : (u.core e).st ≠ .armed := fun ha => by
  rw [EngCore.active, ha] at h
  exact Bool.false_ne_true h

theorem reaction_start (hk : k < 8) (hst : (u.core e).st = .armed) (hsel : u.act (engIdx e 0) 3 = k + 1) : reaction u e k = some .start :=
  (if_neg (Nat.ne_of_lt (hk.trans (by decide)))).trans ((if_pos (beq_iff_eq.2 hst)).trans
    (if_pos (Bool.and_eq_true_iff.2 ⟨decide_eq_true hk, beq_iff_eq.2 hsel⟩)))

theorem reaction_latched (hk : k ≠ 10) (hst : (u.core e).st ≠ .armed) (hl : (u.core e).src.latch = true) : reaction u e k = none :=
  (if_neg hk).trans ((if_neg (not_armed rfl hst)).trans (if_pos hl))

theorem reaction_unlatched (hk : k ≠ 10) (hst : (u.core e).st ≠ .armed) (hl : (u.core e).src.latch = false) : reaction u e k =
    if k = 8 then (if (u.core e).st == .running then some .hold else none)
    else if k = 9 then (if (u.core e).st == .holding && (u.core e).holdCause == 1 then some .unhold else none)
    else if wakeArmed u e k then some .wake else lookup u e k :=
  (if_neg hk).trans ((if_neg (not_armed rfl hst)).trans (if_neg (Bool.eq_false_iff.1 hl)))

theorem reaction_task (hk : k < 8) (hst : (u.core e).st ≠ .armed) (hl : (u.core e).src.latch = false) :
    reaction u e k = if wakeArmed u e k then some .wake else lookup u e k :=
  (reaction_unlatched (Nat.ne_of_lt (hk.trans (by decide))) hst hl).trans
    ((if_neg (Nat.ne_of_lt hk)).trans (if_neg (Nat.ne_of_lt (hk.trans (by decide)))))

theorem reaction_idle (hk : k < 8) (hst : (u.core e).st = .idle) : reaction u e k = none := by
  have hna : (u.core e).st ≠ .armed := hst ▸ by decide
  cases hl : (u.core e).src.latch with
  | true => exact reaction_latched (Nat.ne_of_lt (hk.trans (by decide))) hna hl
  | false =>
    have hrest : ((u.core e).st == .running || (u.core e).st == .waiting || (u.core e).st == .holding && (u.core e).holdCause == 2) = false := by
      rw [hst]
      rfl
    have hwake : wakeArmed u e k = false :=
      (congrArg (_ && ·) (by rw [hst]; rfl : ((u.core e).st == .waiting || (u.core e).st == .running && (u.core e).play.action == 5) = false)).trans
        (Bool.and_false _)
    exact (reaction_task hk hna hl).trans ((if_neg (Bool.eq_false_iff.1 hwake)).trans
      (ite_eq (g := id) rfl (if_pos (congrArg (!·) hrest))))

section

variable (hk : k < 8) (hst : (u.core e).st = .running) (hl : (u.core e).src.latch = false) (hwake : wakeArmed u e k = false)
include hk hst hl hwake

/-- In RUNNING the JUMP_MAP of the current step decides. -/
theorem reaction_map : reaction u e k = lookup u e k :=
  (reaction_task hk (hst ▸ by decide) hl).trans (if_neg (Bool.eq_false_iff.1 hwake))

theorem reaction_unmapped (hen : mapEn (mapWord u.dev.dict.active e (u.entry e (u.core e).play.step).jumpMap) k = false) :
    reaction u e k = none := (reaction_map hk hst hl hwake).trans (if_pos (congrArg (!·) hen))

theorem reaction_mapped (hen : mapEn (mapWord u.dev.dict.active e (u.entry e (u.core e).play.step).jumpMap) k = true)
    (hb : (e, mapTarget (mapWord u.dev.dict.active e (u.entry e (u.core e).play.step).jumpMap) k) ∉ u.dev.dict.commit.blocked) :
    reaction u e k = if mapAtEnd (mapWord u.dev.dict.active e (u.entry e (u.core e).play.step).jumpMap) k && (u.core e).st == .running
      then some (.atEnd (mapTarget (mapWord u.dev.dict.active e (u.entry e (u.core e).play.step).jumpMap) k))
      else some (.jump (mapTarget (mapWord u.dev.dict.active e (u.entry e (u.core e).play.step).jumpMap) k)) :=
  have hrun : ((u.core e).st == .running || (u.core e).st == .waiting || (u.core e).st == .holding && (u.core e).holdCause == 2) = true := by
    rw [hst]
    rfl
  (reaction_map hk hst hl hwake).trans ((if_neg (Bool.eq_false_iff.1 (congrArg (!·) hen))).trans
    ((if_neg (Bool.eq_false_iff.1 (congrArg (!·) hrun))).trans (if_neg (mt List.contains_iff_mem.1 hb))))

end

theorem reaction_wake (hk : k < 8) (hst : (u.core e).st = .waiting) (hl : (u.core e).src.latch = false)
    (hsel : (u.entry e (u.core e).play.step).waitSel = k + 1) : reaction u e k = some .wake :=
  (reaction_task hk (hst ▸ by decide) hl).trans (if_pos (Bool.and_eq_true_iff.2 ⟨beq_iff_eq.2 hsel, Bool.or_eq_true_iff.2 (.inl (beq_iff_eq.2 hst))⟩))

/-- An engine in ARMED takes no event at its inputs from HOLD_IN on but ABORT. -/
theorem reaction_armed (hk : 8 ≤ k) (h10 : k ≠ 10) (hst : (u.core e).st = .armed) : reaction u e k = none :=
  (if_neg h10).trans ((if_pos (beq_iff_eq.2 hst)).trans (if_neg (Bool.eq_false_iff.1
    ((congrArg (· && _) (decide_eq_false (Nat.not_lt.2 hk))).trans (Bool.false_and _)))))

theorem reaction_hold (hk : k = 8) (hst : (u.core e).st = .running) (hl : (u.core e).src.latch = false) : reaction u e k = some .hold :=
  (reaction_unlatched (hk ▸ by decide) (hst ▸ by decide) hl).trans ((if_pos hk).trans (if_pos (beq_iff_eq.2 hst)))

theorem reaction_noHold (hk : k = 8) (h : (u.core e).st ≠ .running ∨ (u.core e).src.latch = true) : reaction u e k = none := by
  have h10 : k ≠ 10 := hk ▸ by decide
  by_cases hst : (u.core e).st = .armed
  · exact reaction_armed (Nat.le_of_eq hk.symm) h10 hst
  cases hl : (u.core e).src.latch with
  | true => exact reaction_latched h10 hst hl
  | false => exact (reaction_unlatched h10 hst hl).trans ((if_pos hk).trans (if_neg (Bool.eq_false_iff.1 (beq_false_of_ne
      (h.resolve_right (Bool.eq_false_iff.1 hl))))))

theorem reaction_unhold (hk : k = 9) (hst : (u.core e).st = .holding) (hc : (u.core e).holdCause = 1) (hl : (u.core e).src.latch = false) :
    reaction u e k = some .unhold :=
  (reaction_unlatched (hk ▸ by decide) (hst ▸ by decide) hl).trans ((if_neg (hk ▸ by decide)).trans ((if_pos hk).trans
    (if_pos (Bool.and_eq_true_iff.2 ⟨beq_iff_eq.2 hst, beq_iff_eq.2 hc⟩))))

theorem reaction_noUnhold (hk : k = 9) (h : (u.core e).st ≠ .holding) : reaction u e k = none := by
  have h10 : k ≠ 10 := hk ▸ by decide
  by_cases hst : (u.core e).st = .armed
  · exact reaction_armed (hk ▸ by decide) h10 hst
  cases hl : (u.core e).src.latch with
  | true => exact reaction_latched h10 hst hl
  | false => exact (reaction_unlatched h10 hst hl).trans ((if_neg (hk ▸ by decide)).trans ((if_pos hk).trans (if_neg (Bool.eq_false_iff.1
      ((congrArg (· && _) (beq_false_of_ne h)).trans (Bool.false_and _))))))

theorem reaction_abort (hk : k = 10) (h : (u.core e).active = true ∨ (u.core e).st = .armed) : reaction u e k = some .abort :=
  (if_pos hk).trans (if_pos (Bool.or_eq_true_iff.2 (h.imp_right beq_iff_eq.2)))

theorem reaction_noAbort (hk : k = 10) (h : (u.core e).st = .idle ∨ (u.core e).st = .stopped) : reaction u e k = none :=
  (if_pos hk).trans (if_neg (Bool.eq_false_iff.1 (by rw [EngCore.active]; exact h.elim (fun h => h ▸ rfl) fun h => h ▸ rfl)))

theorem answered_lookup (h : u.dev.dict.commit.blocked = []) : Answered (lookup u e k) :=
  ite_holds rfl (ite_holds rfl (ite_split (fun hc => absurd ((congrArg (List.contains · _) h).symm.trans hc) Bool.false_ne_true)
    fun _ => ite_holds (P := Answered) rfl rfl))

theorem answered_reaction (h : k ≠ 8 → k ≠ 9 → k ≠ 10 → Answered (lookup u e k)) : Answered (reaction u e k) :=
  ite_split (fun _ => ite_holds (P := Answered) rfl rfl) fun h10 => ite_holds (ite_holds (P := Answered) rfl rfl) <| ite_holds (P := Answered) rfl <|
    ite_split (fun _ => ite_holds (P := Answered) rfl rfl) fun h8 => ite_split (fun _ => ite_holds (P := Answered) rfl rfl) fun h9 =>
      ite_holds (P := Answered) rfl (h h8 h9 h10)

end Sys2Proof.Machine

/-! PROOFS. What the inputs of an engine record (R88 to R105, R132). -/

namespace Sys2Proof.Machine

variable {s u : State} {e : Nat}

/-! ### RATE_STEP (R132) -/

theorem rateStepInput_heard (h : (registerInput (12 * e + 11) u).2 = true) : ∃ x, rateStepInput e u =
    if ((heard e 11 x u).core e).pend.rate.any (·.1 == u.tickAt e (u.now + 16)) then ignoreEvents e 1 (heard e 11 x u)
    else modPend e (fun p => { p with rate := p.rate ++ [(u.tickAt e (u.now + 16), u.now)] }) (heard e 11 x u) :=
  (registerInput_hit h).imp fun x hx => by
    unfold rateStepInput
    rw [hx.1]
    rfl

theorem rateStepInput_minds (h : (registerInput (12 * e + 11) u).2 = true) : Minds e [(u.now, 11)] u (rateStepInput e u) :=
  (rateStepInput_heard h).elim fun _ hx => hx.symm ▸ ite_holds (minds_ignoreEvents 1 minds_heard) (minds_modPend _ minds_heard)

theorem rateStepInput_records (h : (registerInput (12 * e + 11) u).2 = true)
    (hnew : ∀ x ∈ (u.core e).pend.rate, x.1 ≠ u.tickAt e (u.now + 16)) : ((rateStepInput e u).core e).pend =
      { (u.core e).pend with rate := (u.core e).pend.rate ++ [(u.tickAt e (u.now + 16), u.now)] } :=
  (rateStepInput_heard h).elim fun x hx =>
    have hany : ¬ ((heard e 11 x u).core e).pend.rate.any (·.1 == u.tickAt e (u.now + 16)) = true := fun ha =>
      (List.any_eq_true.1 ha).elim fun y hy => hnew y (core_heard (s := u) x ▸ hy.1) (beq_iff_eq.1 hy.2)
    (congrArg (fun s => (State.core s e).pend) (hx.trans (if_neg hany))).trans ((congrArg EngCore.pend (core_modPend _ e _)).trans
      (congrArg (fun c : EngCore => { c.pend with rate := c.pend.rate ++ [(u.tickAt e (u.now + 16), u.now)] }) (core_heard x)))

theorem rateStepInput_counts (h : (registerInput (12 * e + 11) u).2 = true)
    (hold : ∃ x ∈ (u.core e).pend.rate, x.1 = u.tickAt e (u.now + 16)) : ((rateStepInput e u).core e).pend = (u.core e).pend ∧
      ((rateStepInput e u).core e).cnt.ignored = sat32 ((u.core e).cnt.ignored + 1) :=
  (rateStepInput_heard h).elim fun x hx =>
    have hany : ((heard e 11 x u).core e).pend.rate.any (·.1 == u.tickAt e (u.now + 16)) = true :=
      List.any_eq_true.2 (hold.imp fun _ hy => ⟨(core_heard (s := u) x).symm ▸ hy.1, beq_iff_eq.2 hy.2⟩)
    (hx.trans (if_pos hany)).symm ▸ ignored_heard x

/-- Settles O15: what the event asks for is recorded, or the event is counted, and the rest stays. -/
theorem engineInputsRecordRequests : Obligations.EngineInputsRecordRequests := by
  intro t e s u q p ign frame
  refine ⟨fun k h => completes_next rfl ⟨?_, ?_, ?_, ?_, ?_, engineInput_log h (k.2.trans (by decide)),
      fun hb => (engineInput_minds h (k.2.trans (by decide)) (answered_reaction fun _ _ _ => answered_lookup hb)).frame⟩,
    fun h => completes_next rfl ⟨fun hst hl hp =>
        (congrArg EngPend.hold (engineInput_records h (by decide) (reaction_hold rfl hst hl) rfl hp) :),
      fun hno => engineInput_counts h (by decide) (reaction_noHold rfl hno),
      (engineInput_minds h (by decide) (answered_reaction fun h => absurd rfl h)).frame⟩,
    fun h => completes_next rfl ⟨fun hst hc hl hp =>
        (congrArg EngPend.unhold (engineInput_records h (by decide) (reaction_unhold rfl hst hc hl) rfl hp) :),
      fun hno => engineInput_counts h (by decide) (reaction_noUnhold rfl hno),
      (engineInput_minds h (by decide) (answered_reaction fun _ h => absurd rfl h)).frame⟩,
    fun h => completes_next rfl ⟨fun hst hp => (congrArg EngPend.abort (engineInput_records h (by decide) (reaction_abort rfl hst) rfl hp) :),
      fun hno => engineInput_counts h (by decide) (reaction_noAbort rfl hno),
      (engineInput_minds h (by decide) (answered_reaction fun _ _ h => absurd rfl h)).frame⟩,
    fun h => completes_next rfl ⟨rateStepInput_records h, rateStepInput_counts h, (rateStepInput_minds h).frame⟩⟩
  · exact fun hst hsel hp => engineInput_records h (k.2.trans (by decide)) (reaction_start k.2 hst hsel) rfl hp
  · exact fun hst hl hsel hp => have hr := engineInput_records h (k.2.trans (by decide)) (reaction_wake k.2 hst hl hsel) rfl hp
      ⟨(congrArg EngPend.release hr :), (congrArg EngPend.jump hr :)⟩
  · exact fun hst hl hwake => ⟨fun hen hb =>
        have hr := reaction_mapped k.2 hst hl hwake hen hb
        ⟨fun hend => have hj := engineInput_records h (k.2.trans (by decide)) (hr.trans
            (if_neg (Bool.eq_false_iff.1 ((congrArg (· && _) hend).trans (Bool.false_and _))))) rfl trivial
          ⟨(congrArg EngPend.jump hj :), (congrArg EngPend.atEnd hj :)⟩,
        fun hend => have hj := engineInput_records h (k.2.trans (by decide)) (hr.trans (if_pos
            (Bool.and_eq_true_iff.2 ⟨hend, beq_iff_eq.2 hst⟩))) rfl trivial
          ⟨(congrArg EngPend.atEnd hj :), (congrArg EngPend.jump hj :)⟩⟩,
      fun hen => engineInput_counts h (k.2.trans (by decide)) (reaction_unmapped k.2 hst hl hwake hen)⟩
  · exact fun hst => engineInput_counts h (k.2.trans (by decide)) (reaction_idle k.2 hst)
  · exact fun hact hl => engineInput_counts h (k.2.trans (by decide))
      (reaction_latched (Nat.ne_of_lt (k.2.trans (by decide))) (not_armed_of_active hact) hl)

end Sys2Proof.Machine
